-- ==== Sys2Proof/Word.lean ====
section
/-! DEFINITION. Word types. A register is 64 bits (R30), an instruction or singleword 32 (R450), a physical address 40
(R180). -/

namespace Sys2Proof

/-- A byte of memory. -/
abbrev Byte := BitVec 8

/-- A halfword. -/
abbrev Half := BitVec 16

/-- A singleword: 32 bits, the size of an instruction (R450). -/
abbrev Word := BitVec 32

/-- A doubleword: 64 bits, the size of a general register (R30) and of a virtual address (R180). -/
abbrev DWord := BitVec 64

/-- A quadword: the width of the secondary cache data array (R280). -/
abbrev QWord := BitVec 128

/-- A physical address, PA[39:0] (R180). -/
abbrev PAddr := BitVec 40

end Sys2Proof
end

