-- ==== Sys2Proof/Syntax.lean ====
section
/-! DEFINITION. Syntax of the R10000 instruction set: one constructor for each row of spec/opcode_table.json,
in the table's order, with the row's variable fields as operands (spec/30_encoding.md R451 names the fields).
Register numbers are the encoded 5-bit fields themselves (R451), so every value of an operand is encodable. -/

namespace Sys2Proof

/-- The number of a general register (R30, R451). -/
abbrev Reg := BitVec 5

/-- The number of a floating-point register (R36, R451). -/
abbrev FReg := BitVec 5

/-- The instructions (spec/30_encoding.md R455 to R464; the docstring of each names its mnemonic and its rule). -/
inductive Instr where
  /-- ADDI (R705). -/
  | addi (rs : Reg) (rt : Reg) (immediate : BitVec 16)
  /-- ADDIU (R706). -/
  | addiu (rs : Reg) (rt : Reg) (immediate : BitVec 16)
  /-- SLTI (R707). -/
  | slti (rs : Reg) (rt : Reg) (immediate : BitVec 16)
  /-- SLTIU (R708). -/
  | sltiu (rs : Reg) (rt : Reg) (immediate : BitVec 16)
  /-- ANDI (R709). -/
  | andi (rs : Reg) (rt : Reg) (immediate : BitVec 16)
  /-- ORI (R710). -/
  | ori (rs : Reg) (rt : Reg) (immediate : BitVec 16)
  /-- XORI (R711). -/
  | xori (rs : Reg) (rt : Reg) (immediate : BitVec 16)
  /-- DADDI (R713). -/
  | daddi (rs : Reg) (rt : Reg) (immediate : BitVec 16)
  /-- DADDIU (R714). -/
  | daddiu (rs : Reg) (rt : Reg) (immediate : BitVec 16)
  /-- LUI (R712). -/
  | lui (rt : Reg) (immediate : BitVec 16)
  /-- ADD (R715). -/
  | add (rs : Reg) (rt : Reg) (rd : Reg)
  /-- ADDU (R716). -/
  | addu (rs : Reg) (rt : Reg) (rd : Reg)
  /-- SUB (R717). -/
  | sub (rs : Reg) (rt : Reg) (rd : Reg)
  /-- SUBU (R718). -/
  | subu (rs : Reg) (rt : Reg) (rd : Reg)
  /-- AND (R719). -/
  | and (rs : Reg) (rt : Reg) (rd : Reg)
  /-- OR (R720). -/
  | or (rs : Reg) (rt : Reg) (rd : Reg)
  /-- XOR (R721). -/
  | xor (rs : Reg) (rt : Reg) (rd : Reg)
  /-- NOR (R722). -/
  | nor (rs : Reg) (rt : Reg) (rd : Reg)
  /-- SLT (R723). -/
  | slt (rs : Reg) (rt : Reg) (rd : Reg)
  /-- SLTU (R724). -/
  | sltu (rs : Reg) (rt : Reg) (rd : Reg)
  /-- DADD (R725). -/
  | dadd (rs : Reg) (rt : Reg) (rd : Reg)
  /-- DADDU (R726). -/
  | daddu (rs : Reg) (rt : Reg) (rd : Reg)
  /-- DSUB (R727). -/
  | dsub (rs : Reg) (rt : Reg) (rd : Reg)
  /-- DSUBU (R728). -/
  | dsubu (rs : Reg) (rt : Reg) (rd : Reg)
  /-- MOVZ (R765). -/
  | movz (rs : Reg) (rt : Reg) (rd : Reg)
  /-- MOVN (R766). -/
  | movn (rs : Reg) (rt : Reg) (rd : Reg)
  /-- SLL (R730). -/
  | sll (rt : Reg) (rd : Reg) (sa : BitVec 5)
  /-- SRL (R731). -/
  | srl (rt : Reg) (rd : Reg) (sa : BitVec 5)
  /-- SRA (R732). -/
  | sra (rt : Reg) (rd : Reg) (sa : BitVec 5)
  /-- DSLL (R736). -/
  | dsll (rt : Reg) (rd : Reg) (sa : BitVec 5)
  /-- DSRL (R737). -/
  | dsrl (rt : Reg) (rd : Reg) (sa : BitVec 5)
  /-- DSRA (R738). -/
  | dsra (rt : Reg) (rd : Reg) (sa : BitVec 5)
  /-- DSLL32 (R739). -/
  | dsll32 (rt : Reg) (rd : Reg) (sa : BitVec 5)
  /-- DSRL32 (R740). -/
  | dsrl32 (rt : Reg) (rd : Reg) (sa : BitVec 5)
  /-- DSRA32 (R741). -/
  | dsra32 (rt : Reg) (rd : Reg) (sa : BitVec 5)
  /-- SLLV (R733). -/
  | sllv (rs : Reg) (rt : Reg) (rd : Reg)
  /-- SRLV (R734). -/
  | srlv (rs : Reg) (rt : Reg) (rd : Reg)
  /-- SRAV (R735). -/
  | srav (rs : Reg) (rt : Reg) (rd : Reg)
  /-- DSLLV (R742). -/
  | dsllv (rs : Reg) (rt : Reg) (rd : Reg)
  /-- DSRLV (R743). -/
  | dsrlv (rs : Reg) (rt : Reg) (rd : Reg)
  /-- DSRAV (R744). -/
  | dsrav (rs : Reg) (rt : Reg) (rd : Reg)
  /-- MULT (R750). -/
  | mult (rs : Reg) (rt : Reg)
  /-- MULTU (R751). -/
  | multu (rs : Reg) (rt : Reg)
  /-- DIV (R752). -/
  | div (rs : Reg) (rt : Reg)
  /-- DIVU (R753). -/
  | divu (rs : Reg) (rt : Reg)
  /-- DMULT (R754). -/
  | dmult (rs : Reg) (rt : Reg)
  /-- DMULTU (R755). -/
  | dmultu (rs : Reg) (rt : Reg)
  /-- DDIV (R756). -/
  | ddiv (rs : Reg) (rt : Reg)
  /-- DDIVU (R757). -/
  | ddivu (rs : Reg) (rt : Reg)
  /-- MFHI (R758). -/
  | mfhi (rd : Reg)
  /-- MTHI (R759). -/
  | mthi (rs : Reg)
  /-- MFLO (R760). -/
  | mflo (rd : Reg)
  /-- MTLO (R761). -/
  | mtlo (rs : Reg)
  /-- MOVF (R767). -/
  | movf (rs : Reg) (cc : BitVec 3) (rd : Reg)
  /-- MOVT (R768). -/
  | movt (rs : Reg) (cc : BitVec 3) (rd : Reg)
  /-- LB (R806). -/
  | lb (base : Reg) (rt : Reg) (offset : BitVec 16)
  /-- LBU (R807). -/
  | lbu (base : Reg) (rt : Reg) (offset : BitVec 16)
  /-- LH (R808). -/
  | lh (base : Reg) (rt : Reg) (offset : BitVec 16)
  /-- LHU (R809). -/
  | lhu (base : Reg) (rt : Reg) (offset : BitVec 16)
  /-- LW (R810). -/
  | lw (base : Reg) (rt : Reg) (offset : BitVec 16)
  /-- LWU (R811). -/
  | lwu (base : Reg) (rt : Reg) (offset : BitVec 16)
  /-- LD (R812). -/
  | ld (base : Reg) (rt : Reg) (offset : BitVec 16)
  /-- SB (R813). -/
  | sb (base : Reg) (rt : Reg) (offset : BitVec 16)
  /-- SH (R814). -/
  | sh (base : Reg) (rt : Reg) (offset : BitVec 16)
  /-- SW (R815). -/
  | sw (base : Reg) (rt : Reg) (offset : BitVec 16)
  /-- SD (R816). -/
  | sd (base : Reg) (rt : Reg) (offset : BitVec 16)
  /-- LWL (R820). -/
  | lwl (base : Reg) (rt : Reg) (offset : BitVec 16)
  /-- LWR (R821). -/
  | lwr (base : Reg) (rt : Reg) (offset : BitVec 16)
  /-- LDL (R822). -/
  | ldl (base : Reg) (rt : Reg) (offset : BitVec 16)
  /-- LDR (R823). -/
  | ldr (base : Reg) (rt : Reg) (offset : BitVec 16)
  /-- SWL (R824). -/
  | swl (base : Reg) (rt : Reg) (offset : BitVec 16)
  /-- SWR (R825). -/
  | swr (base : Reg) (rt : Reg) (offset : BitVec 16)
  /-- SDL (R826). -/
  | sdl (base : Reg) (rt : Reg) (offset : BitVec 16)
  /-- SDR (R827). -/
  | sdr (base : Reg) (rt : Reg) (offset : BitVec 16)
  /-- LL (R511). -/
  | ll (base : Reg) (rt : Reg) (offset : BitVec 16)
  /-- LLD (R512). -/
  | lld (base : Reg) (rt : Reg) (offset : BitVec 16)
  /-- SC (R513). -/
  | sc (base : Reg) (rt : Reg) (offset : BitVec 16)
  /-- SCD (R514). -/
  | scd (base : Reg) (rt : Reg) (offset : BitVec 16)
  /-- LWC1 (R830). -/
  | lwc1 (base : Reg) (ft : FReg) (offset : BitVec 16)
  /-- LDC1 (R831). -/
  | ldc1 (base : Reg) (ft : FReg) (offset : BitVec 16)
  /-- SWC1 (R832). -/
  | swc1 (base : Reg) (ft : FReg) (offset : BitVec 16)
  /-- SDC1 (R833). -/
  | sdc1 (base : Reg) (ft : FReg) (offset : BitVec 16)
  /-- LWXC1 (R834). -/
  | lwxc1 (base : Reg) (index : Reg) (fd : FReg)
  /-- LDXC1 (R835). -/
  | ldxc1 (base : Reg) (index : Reg) (fd : FReg)
  /-- SWXC1 (R836). -/
  | swxc1 (base : Reg) (index : Reg) (fs : FReg)
  /-- SDXC1 (R837). -/
  | sdxc1 (base : Reg) (index : Reg) (fs : FReg)
  /-- PREF (R503). -/
  | pref (base : Reg) (hint : BitVec 5) (offset : BitVec 16)
  /-- PREFX (R504). -/
  | prefx (base : Reg) (index : Reg) (hint : BitVec 5)
  /-- SYNC (R505). -/
  | sync
  /-- CACHE.INDEX_INVALIDATE_I (R545). -/
  | cacheIndexInvalidateI (base : Reg) (offset : BitVec 16)
  /-- CACHE.INDEX_LOAD_TAG_I (R560). -/
  | cacheIndexLoadTagI (base : Reg) (offset : BitVec 16)
  /-- CACHE.INDEX_STORE_TAG_I (R563). -/
  | cacheIndexStoreTagI (base : Reg) (offset : BitVec 16)
  /-- CACHE.HIT_INVALIDATE_I (R548). -/
  | cacheHitInvalidateI (base : Reg) (offset : BitVec 16)
  /-- CACHE.CACHE_BARRIER (R551). -/
  | cacheBarrier (base : Reg) (offset : BitVec 16)
  /-- CACHE.INDEX_LOAD_DATA_I (R570). -/
  | cacheIndexLoadDataI (base : Reg) (offset : BitVec 16)
  /-- CACHE.INDEX_STORE_DATA_I (R573). -/
  | cacheIndexStoreDataI (base : Reg) (offset : BitVec 16)
  /-- CACHE.INDEX_WRITEBACK_INVALIDATE_D (R546). -/
  | cacheIndexWritebackInvalidateD (base : Reg) (offset : BitVec 16)
  /-- CACHE.INDEX_LOAD_TAG_D (R561). -/
  | cacheIndexLoadTagD (base : Reg) (offset : BitVec 16)
  /-- CACHE.INDEX_STORE_TAG_D (R564). -/
  | cacheIndexStoreTagD (base : Reg) (offset : BitVec 16)
  /-- CACHE.HIT_INVALIDATE_D (R549). -/
  | cacheHitInvalidateD (base : Reg) (offset : BitVec 16)
  /-- CACHE.HIT_WRITEBACK_INVALIDATE_D (R552). -/
  | cacheHitWritebackInvalidateD (base : Reg) (offset : BitVec 16)
  /-- CACHE.INDEX_LOAD_DATA_D (R571). -/
  | cacheIndexLoadDataD (base : Reg) (offset : BitVec 16)
  /-- CACHE.INDEX_STORE_DATA_D (R574). -/
  | cacheIndexStoreDataD (base : Reg) (offset : BitVec 16)
  /-- CACHE.INDEX_WRITEBACK_INVALIDATE_S (R547). -/
  | cacheIndexWritebackInvalidateS (base : Reg) (offset : BitVec 16)
  /-- CACHE.INDEX_LOAD_TAG_S (R562). -/
  | cacheIndexLoadTagS (base : Reg) (offset : BitVec 16)
  /-- CACHE.INDEX_STORE_TAG_S (R565). -/
  | cacheIndexStoreTagS (base : Reg) (offset : BitVec 16)
  /-- CACHE.HIT_INVALIDATE_S (R550). -/
  | cacheHitInvalidateS (base : Reg) (offset : BitVec 16)
  /-- CACHE.HIT_WRITEBACK_INVALIDATE_S (R553). -/
  | cacheHitWritebackInvalidateS (base : Reg) (offset : BitVec 16)
  /-- CACHE.INDEX_LOAD_DATA_S (R572). -/
  | cacheIndexLoadDataS (base : Reg) (offset : BitVec 16)
  /-- CACHE.INDEX_STORE_DATA_S (R575). -/
  | cacheIndexStoreDataS (base : Reg) (offset : BitVec 16)
  /-- J (R870). -/
  | j (target : BitVec 26)
  /-- JAL (R871). -/
  | jal (target : BitVec 26)
  /-- JR (R872). -/
  | jr (rs : Reg)
  /-- JALR (R873). -/
  | jalr (rs : Reg) (rd : Reg)
  /-- BEQ (R875). -/
  | beq (rs : Reg) (rt : Reg) (offset : BitVec 16)
  /-- BNE (R876). -/
  | bne (rs : Reg) (rt : Reg) (offset : BitVec 16)
  /-- BEQL (R883). -/
  | beql (rs : Reg) (rt : Reg) (offset : BitVec 16)
  /-- BNEL (R884). -/
  | bnel (rs : Reg) (rt : Reg) (offset : BitVec 16)
  /-- BLEZ (R877). -/
  | blez (rs : Reg) (offset : BitVec 16)
  /-- BGTZ (R878). -/
  | bgtz (rs : Reg) (offset : BitVec 16)
  /-- BLEZL (R885). -/
  | blezl (rs : Reg) (offset : BitVec 16)
  /-- BGTZL (R886). -/
  | bgtzl (rs : Reg) (offset : BitVec 16)
  /-- BLTZ (R879). -/
  | bltz (rs : Reg) (offset : BitVec 16)
  /-- BGEZ (R880). -/
  | bgez (rs : Reg) (offset : BitVec 16)
  /-- BLTZL (R887). -/
  | bltzl (rs : Reg) (offset : BitVec 16)
  /-- BGEZL (R888). -/
  | bgezl (rs : Reg) (offset : BitVec 16)
  /-- BLTZAL (R881). -/
  | bltzal (rs : Reg) (offset : BitVec 16)
  /-- BGEZAL (R882). -/
  | bgezal (rs : Reg) (offset : BitVec 16)
  /-- BLTZALL (R889). -/
  | bltzall (rs : Reg) (offset : BitVec 16)
  /-- BGEZALL (R890). -/
  | bgezall (rs : Reg) (offset : BitVec 16)
  /-- TGEI (R906). -/
  | tgei (rs : Reg) (immediate : BitVec 16)
  /-- TGEIU (R907). -/
  | tgeiu (rs : Reg) (immediate : BitVec 16)
  /-- TLTI (R908). -/
  | tlti (rs : Reg) (immediate : BitVec 16)
  /-- TLTIU (R909). -/
  | tltiu (rs : Reg) (immediate : BitVec 16)
  /-- TEQI (R910). -/
  | teqi (rs : Reg) (immediate : BitVec 16)
  /-- TNEI (R911). -/
  | tnei (rs : Reg) (immediate : BitVec 16)
  /-- TGE (R900). -/
  | tge (rs : Reg) (rt : Reg) (code : BitVec 10)
  /-- TGEU (R901). -/
  | tgeu (rs : Reg) (rt : Reg) (code : BitVec 10)
  /-- TLT (R902). -/
  | tlt (rs : Reg) (rt : Reg) (code : BitVec 10)
  /-- TLTU (R903). -/
  | tltu (rs : Reg) (rt : Reg) (code : BitVec 10)
  /-- TEQ (R904). -/
  | teq (rs : Reg) (rt : Reg) (code : BitVec 10)
  /-- TNE (R905). -/
  | tne (rs : Reg) (rt : Reg) (code : BitVec 10)
  /-- SYSCALL (R915). -/
  | syscall (code : BitVec 20)
  /-- BREAK (R916). -/
  | breakpoint (code : BitVec 20)
  /-- BC1F (R892). -/
  | bc1f (cc : BitVec 3) (offset : BitVec 16)
  /-- BC1T (R893). -/
  | bc1t (cc : BitVec 3) (offset : BitVec 16)
  /-- BC1FL (R894). -/
  | bc1fl (cc : BitVec 3) (offset : BitVec 16)
  /-- BC1TL (R895). -/
  | bc1tl (cc : BitVec 3) (offset : BitVec 16)
  /-- MFPS (R590). -/
  | mfps (rt : Reg) (reg : BitVec 5)
  /-- MFPC (R590). -/
  | mfpc (rt : Reg) (reg : BitVec 5)
  /-- MTPS (R590). -/
  | mtps (rt : Reg) (reg : BitVec 5)
  /-- MTPC (R590). -/
  | mtpc (rt : Reg) (reg : BitVec 5)
  /-- MFC0 (R582). -/
  | mfc0 (rt : Reg) (rd : BitVec 5)
  /-- DMFC0 (R584). -/
  | dmfc0 (rt : Reg) (rd : BitVec 5)
  /-- MTC0 (R583). -/
  | mtc0 (rt : Reg) (rd : BitVec 5)
  /-- DMTC0 (R585). -/
  | dmtc0 (rt : Reg) (rd : BitVec 5)
  /-- TLBR (R596). -/
  | tlbr
  /-- TLBWI (R597). -/
  | tlbwi
  /-- TLBWR (R598). -/
  | tlbwr
  /-- TLBP (R595). -/
  | tlbp
  /-- ERET (R592). -/
  | eret
  /-- RFE (R601). -/
  | rfe
  /-- BC0F (R600). -/
  | bc0f (offset : BitVec 16)
  /-- BC0T (R600). -/
  | bc0t (offset : BitVec 16)
  /-- BC0FL (R600). -/
  | bc0fl (offset : BitVec 16)
  /-- BC0TL (R600). -/
  | bc0tl (offset : BitVec 16)
  /-- COP2 (R476). -/
  | cop2 (code : BitVec 26)
  /-- LWC2 (R476). -/
  | lwc2 (base : Reg) (rt : Reg) (offset : BitVec 16)
  /-- LDC2 (R476). -/
  | ldc2 (base : Reg) (rt : Reg) (offset : BitVec 16)
  /-- SWC2 (R476). -/
  | swc2 (base : Reg) (rt : Reg) (offset : BitVec 16)
  /-- SDC2 (R476). -/
  | sdc2 (base : Reg) (rt : Reg) (offset : BitVec 16)
  /-- MFC1 (R923). -/
  | mfc1 (rt : Reg) (fs : FReg)
  /-- DMFC1 (R924). -/
  | dmfc1 (rt : Reg) (fs : FReg)
  /-- CFC1 (R925). -/
  | cfc1 (rt : Reg) (fs : BitVec 5)
  /-- MTC1 (R926). -/
  | mtc1 (rt : Reg) (fs : FReg)
  /-- DMTC1 (R927). -/
  | dmtc1 (rt : Reg) (fs : FReg)
  /-- CTC1 (R928). -/
  | ctc1 (rt : Reg) (fs : BitVec 5)
  /-- ADD.S (R930). -/
  | addS (ft : FReg) (fs : FReg) (fd : FReg)
  /-- SUB.S (R931). -/
  | subS (ft : FReg) (fs : FReg) (fd : FReg)
  /-- MUL.S (R932). -/
  | mulS (ft : FReg) (fs : FReg) (fd : FReg)
  /-- DIV.S (R933). -/
  | divS (ft : FReg) (fs : FReg) (fd : FReg)
  /-- SQRT.S (R934). -/
  | sqrtS (fs : FReg) (fd : FReg)
  /-- ABS.S (R935). -/
  | absS (fs : FReg) (fd : FReg)
  /-- MOV.S (R936). -/
  | movS (fs : FReg) (fd : FReg)
  /-- NEG.S (R937). -/
  | negS (fs : FReg) (fd : FReg)
  /-- RECIP.S (R938). -/
  | recipS (fs : FReg) (fd : FReg)
  /-- RSQRT.S (R939). -/
  | rsqrtS (fs : FReg) (fd : FReg)
  /-- ROUND.L.S (R940). -/
  | roundLS (fs : FReg) (fd : FReg)
  /-- TRUNC.L.S (R941). -/
  | truncLS (fs : FReg) (fd : FReg)
  /-- CEIL.L.S (R942). -/
  | ceilLS (fs : FReg) (fd : FReg)
  /-- FLOOR.L.S (R943). -/
  | floorLS (fs : FReg) (fd : FReg)
  /-- ROUND.W.S (R944). -/
  | roundWS (fs : FReg) (fd : FReg)
  /-- TRUNC.W.S (R945). -/
  | truncWS (fs : FReg) (fd : FReg)
  /-- CEIL.W.S (R946). -/
  | ceilWS (fs : FReg) (fd : FReg)
  /-- FLOOR.W.S (R947). -/
  | floorWS (fs : FReg) (fd : FReg)
  /-- CVT.W.S (R952). -/
  | cvtWS (fs : FReg) (fd : FReg)
  /-- CVT.L.S (R953). -/
  | cvtLS (fs : FReg) (fd : FReg)
  /-- MOVF.S (R955). -/
  | movfS (cc : BitVec 3) (fs : FReg) (fd : FReg)
  /-- MOVT.S (R956). -/
  | movtS (cc : BitVec 3) (fs : FReg) (fd : FReg)
  /-- MOVZ.S (R957). -/
  | movzS (rt : Reg) (fs : FReg) (fd : FReg)
  /-- MOVN.S (R958). -/
  | movnS (rt : Reg) (fs : FReg) (fd : FReg)
  /-- ADD.D (R930). -/
  | addD (ft : FReg) (fs : FReg) (fd : FReg)
  /-- SUB.D (R931). -/
  | subD (ft : FReg) (fs : FReg) (fd : FReg)
  /-- MUL.D (R932). -/
  | mulD (ft : FReg) (fs : FReg) (fd : FReg)
  /-- DIV.D (R933). -/
  | divD (ft : FReg) (fs : FReg) (fd : FReg)
  /-- SQRT.D (R934). -/
  | sqrtD (fs : FReg) (fd : FReg)
  /-- ABS.D (R935). -/
  | absD (fs : FReg) (fd : FReg)
  /-- MOV.D (R936). -/
  | movD (fs : FReg) (fd : FReg)
  /-- NEG.D (R937). -/
  | negD (fs : FReg) (fd : FReg)
  /-- RECIP.D (R938). -/
  | recipD (fs : FReg) (fd : FReg)
  /-- RSQRT.D (R939). -/
  | rsqrtD (fs : FReg) (fd : FReg)
  /-- ROUND.L.D (R940). -/
  | roundLD (fs : FReg) (fd : FReg)
  /-- TRUNC.L.D (R941). -/
  | truncLD (fs : FReg) (fd : FReg)
  /-- CEIL.L.D (R942). -/
  | ceilLD (fs : FReg) (fd : FReg)
  /-- FLOOR.L.D (R943). -/
  | floorLD (fs : FReg) (fd : FReg)
  /-- ROUND.W.D (R944). -/
  | roundWD (fs : FReg) (fd : FReg)
  /-- TRUNC.W.D (R945). -/
  | truncWD (fs : FReg) (fd : FReg)
  /-- CEIL.W.D (R946). -/
  | ceilWD (fs : FReg) (fd : FReg)
  /-- FLOOR.W.D (R947). -/
  | floorWD (fs : FReg) (fd : FReg)
  /-- CVT.W.D (R952). -/
  | cvtWD (fs : FReg) (fd : FReg)
  /-- CVT.L.D (R953). -/
  | cvtLD (fs : FReg) (fd : FReg)
  /-- MOVF.D (R955). -/
  | movfD (cc : BitVec 3) (fs : FReg) (fd : FReg)
  /-- MOVT.D (R956). -/
  | movtD (cc : BitVec 3) (fs : FReg) (fd : FReg)
  /-- MOVZ.D (R957). -/
  | movzD (rt : Reg) (fs : FReg) (fd : FReg)
  /-- MOVN.D (R958). -/
  | movnD (rt : Reg) (fs : FReg) (fd : FReg)
  /-- CVT.S.D (R950). -/
  | cvtSD (fs : FReg) (fd : FReg)
  /-- CVT.S.W (R950). -/
  | cvtSW (fs : FReg) (fd : FReg)
  /-- CVT.S.L (R950). -/
  | cvtSL (fs : FReg) (fd : FReg)
  /-- CVT.D.S (R951). -/
  | cvtDS (fs : FReg) (fd : FReg)
  /-- CVT.D.W (R951). -/
  | cvtDW (fs : FReg) (fd : FReg)
  /-- CVT.D.L (R951). -/
  | cvtDL (fs : FReg) (fd : FReg)
  /-- C.F.S (R961). -/
  | cFS (ft : FReg) (fs : FReg) (cc : BitVec 3)
  /-- C.F.D (R961). -/
  | cFD (ft : FReg) (fs : FReg) (cc : BitVec 3)
  /-- C.UN.S (R962). -/
  | cUnS (ft : FReg) (fs : FReg) (cc : BitVec 3)
  /-- C.UN.D (R962). -/
  | cUnD (ft : FReg) (fs : FReg) (cc : BitVec 3)
  /-- C.EQ.S (R963). -/
  | cEqS (ft : FReg) (fs : FReg) (cc : BitVec 3)
  /-- C.EQ.D (R963). -/
  | cEqD (ft : FReg) (fs : FReg) (cc : BitVec 3)
  /-- C.UEQ.S (R964). -/
  | cUeqS (ft : FReg) (fs : FReg) (cc : BitVec 3)
  /-- C.UEQ.D (R964). -/
  | cUeqD (ft : FReg) (fs : FReg) (cc : BitVec 3)
  /-- C.OLT.S (R965). -/
  | cOltS (ft : FReg) (fs : FReg) (cc : BitVec 3)
  /-- C.OLT.D (R965). -/
  | cOltD (ft : FReg) (fs : FReg) (cc : BitVec 3)
  /-- C.ULT.S (R966). -/
  | cUltS (ft : FReg) (fs : FReg) (cc : BitVec 3)
  /-- C.ULT.D (R966). -/
  | cUltD (ft : FReg) (fs : FReg) (cc : BitVec 3)
  /-- C.OLE.S (R967). -/
  | cOleS (ft : FReg) (fs : FReg) (cc : BitVec 3)
  /-- C.OLE.D (R967). -/
  | cOleD (ft : FReg) (fs : FReg) (cc : BitVec 3)
  /-- C.ULE.S (R968). -/
  | cUleS (ft : FReg) (fs : FReg) (cc : BitVec 3)
  /-- C.ULE.D (R968). -/
  | cUleD (ft : FReg) (fs : FReg) (cc : BitVec 3)
  /-- C.SF.S (R969). -/
  | cSfS (ft : FReg) (fs : FReg) (cc : BitVec 3)
  /-- C.SF.D (R969). -/
  | cSfD (ft : FReg) (fs : FReg) (cc : BitVec 3)
  /-- C.NGLE.S (R970). -/
  | cNgleS (ft : FReg) (fs : FReg) (cc : BitVec 3)
  /-- C.NGLE.D (R970). -/
  | cNgleD (ft : FReg) (fs : FReg) (cc : BitVec 3)
  /-- C.SEQ.S (R971). -/
  | cSeqS (ft : FReg) (fs : FReg) (cc : BitVec 3)
  /-- C.SEQ.D (R971). -/
  | cSeqD (ft : FReg) (fs : FReg) (cc : BitVec 3)
  /-- C.NGL.S (R972). -/
  | cNglS (ft : FReg) (fs : FReg) (cc : BitVec 3)
  /-- C.NGL.D (R972). -/
  | cNglD (ft : FReg) (fs : FReg) (cc : BitVec 3)
  /-- C.LT.S (R973). -/
  | cLtS (ft : FReg) (fs : FReg) (cc : BitVec 3)
  /-- C.LT.D (R973). -/
  | cLtD (ft : FReg) (fs : FReg) (cc : BitVec 3)
  /-- C.NGE.S (R974). -/
  | cNgeS (ft : FReg) (fs : FReg) (cc : BitVec 3)
  /-- C.NGE.D (R974). -/
  | cNgeD (ft : FReg) (fs : FReg) (cc : BitVec 3)
  /-- C.LE.S (R975). -/
  | cLeS (ft : FReg) (fs : FReg) (cc : BitVec 3)
  /-- C.LE.D (R975). -/
  | cLeD (ft : FReg) (fs : FReg) (cc : BitVec 3)
  /-- C.NGT.S (R976). -/
  | cNgtS (ft : FReg) (fs : FReg) (cc : BitVec 3)
  /-- C.NGT.D (R976). -/
  | cNgtD (ft : FReg) (fs : FReg) (cc : BitVec 3)
  /-- MADD.S (R980). -/
  | maddS (fr : FReg) (ft : FReg) (fs : FReg) (fd : FReg)
  /-- MADD.D (R980). -/
  | maddD (fr : FReg) (ft : FReg) (fs : FReg) (fd : FReg)
  /-- MSUB.S (R981). -/
  | msubS (fr : FReg) (ft : FReg) (fs : FReg) (fd : FReg)
  /-- MSUB.D (R981). -/
  | msubD (fr : FReg) (ft : FReg) (fs : FReg) (fd : FReg)
  /-- NMADD.S (R982). -/
  | nmaddS (fr : FReg) (ft : FReg) (fs : FReg) (fd : FReg)
  /-- NMADD.D (R982). -/
  | nmaddD (fr : FReg) (ft : FReg) (fs : FReg) (fd : FReg)
  /-- NMSUB.S (R983). -/
  | nmsubS (fr : FReg) (ft : FReg) (fs : FReg) (fd : FReg)
  /-- NMSUB.D (R983). -/
  | nmsubD (fr : FReg) (ft : FReg) (fs : FReg) (fd : FReg)
  deriving DecidableEq, Repr

end Sys2Proof
end

