-- ==== Sys2Proof/WellFormed.lean ====
section
/-! DEFINITION. Static well-formedness of an instruction: what its own fields must satisfy, whatever the state. Register
numbers and immediates are the encoded fields, so only the fields the spec restricts are checked. -/

namespace Sys2Proof

/-- MFC0 and MTC0 do not name register 25: "the plain `mfc0 rt, $25` / `mtc0 rt, $25` encoding (bits 10:0 = 0) is
therefore MFPS/MTPS reg 0" (R590). -/
def wfCp0Move (rd : BitVec 5) : Bool := rd != 25#5

/-- "only register 0 and 1 are valid in the R10000 implementation" (R590). -/
def wfPerf (reg : BitVec 5) : Bool := reg == 0#5 || reg == 1#5

/-- `jalr` with rd = rs is "architecturally forbidden (not restartable)" (R873, I39). -/
def wfJalr (rs rd : Reg) : Bool := rs != rd

/-- A linking branch with rs = r31 "is forbidden (not restartable)" (R881, R882, I39). -/
def wfLinkBranch (rs : Reg) : Bool := rs != 31#5

/-- An instruction the architecture allows a program to contain. A word that decodes to an instruction outside it still
decodes; its meaning says what it does (a performance-register number above 1 stops, I34; JALR and the linking branches
run as their rules say, R873, R881). -/
def Instr.wellFormed : Instr → Bool
  | .mfc0 _ rd => wfCp0Move rd
  | .mtc0 _ rd => wfCp0Move rd
  | .mfps _ reg => wfPerf reg
  | .mfpc _ reg => wfPerf reg
  | .mtps _ reg => wfPerf reg
  | .mtpc _ reg => wfPerf reg
  | .jalr rs rd => wfJalr rs rd
  | .bltzal rs _ => wfLinkBranch rs
  | .bgezal rs _ => wfLinkBranch rs
  | .bltzall rs _ => wfLinkBranch rs
  | .bgezall rs _ => wfLinkBranch rs
  | _ => true

end Sys2Proof
end

