-- ==== Sys2Proof/Decode.lean ====
section
/-! DEFINITION. The decoder and the encoder (spec/30_encoding.md). A word is cut into the six R-type fields of R452; the
opcode maps R455 to R463 are then read field by field, in the order of R453. Matching is strict on must-be-zero fields
(R470). Which exception a word that is no instruction takes depends on the state (R478), so the decoder answers its class.
The encoder stands after the decoder. -/

namespace Sys2Proof

/- The code generator cannot build a constructor numbered above 244, so the definitions that build an `Instr` have no
compiled code; the kernel evaluates them as any other. -/
noncomputable section

/-- The six fields of the R-type format (R452); I-type and J-type fields are concatenations of them. -/
structure Fields where
  /-- bits 31:26 -/
  op : BitVec 6
  /-- bits 25:21 -/
  rs : BitVec 5
  /-- bits 20:16 -/
  rt : BitVec 5
  /-- bits 15:11 -/
  rd : BitVec 5
  /-- bits 10:6 -/
  sa : BitVec 5
  /-- bits 5:0 -/
  fn : BitVec 6
  deriving DecidableEq, Repr

/-- The fields of a word (R451). -/
def Fields.ofWord (w : Word) : Fields :=
  ⟨w.extractLsb' 26 6, w.extractLsb' 21 5, w.extractLsb' 16 5, w.extractLsb' 11 5, w.extractLsb' 6 5, w.extractLsb' 0 6⟩

/-- The word with these fields (R452). -/
def Fields.toWord (f : Fields) : Word := f.op ++ f.rs ++ f.rt ++ f.rd ++ f.sa ++ f.fn

/-- immediate or offset, bits 15:0 (R451). -/
def Fields.imm (f : Fields) : BitVec 16 := f.rd ++ f.sa ++ f.fn

/-- target (instr_index), bits 25:0 (R451). -/
def Fields.target (f : Fields) : BitVec 26 := f.rs ++ f.rt ++ f.rd ++ f.sa ++ f.fn

/-- code of SYSCALL and BREAK, bits 25:6 (R451). -/
def Fields.code20v (f : Fields) : BitVec 20 := f.rs ++ f.rt ++ f.rd ++ f.sa

/-- code of the register traps, bits 15:6 (R464). -/
def Fields.code10v (f : Fields) : BitVec 10 := f.rd ++ f.sa

/-- cc of BC1, MOVCI and MOVCF, bits 20:18 (R451). -/
def Fields.ccRt (f : Fields) : BitVec 3 := f.rt.extractLsb' 2 3

/-- cc of the compares, bits 10:8 (R451). -/
def Fields.ccSa (f : Fields) : BitVec 3 := f.sa.extractLsb' 2 3

/-- The performance-register number, bits 5:1 (R590). -/
def Fields.perfReg (f : Fields) : BitVec 5 := f.fn.extractLsb' 1 5

/-- What a word is. The constructors other than `instr` and `mustBeZero` name the classes of undefined encodings whose
exception R478 makes a function of the state; `step` takes it. -/
inductive Decoded where
  /-- an instruction -/
  | instr (i : Instr)
  /-- undefined major opcode, SPECIAL function or REGIMM code: Reserved Instruction (R471) -/
  | reserved
  /-- COP1 with an undefined sub field 0xxxx: CU1, then Reserved Instruction (R475) -/
  | cop1Reserved
  /-- COP1 with an undefined format, or a function its format does not define: CU1, then Unimplemented Operation (R475) -/
  | cop1Unimplemented
  /-- COP1X with an undefined function: MIPS IV, CU1, then Reserved Instruction (R478) -/
  | cop1xReserved
  /-- COP0 with bits 25:21 = 01000 and bits 20:16 that name no branch: CP0, then Reserved Instruction (R458, R600) -/
  | cop0Reserved
  /-- an undefined COP0 encoding, nonzero zero fields included (R602) -/
  | cop0Undefined
  /-- an undefined CACHE op (R531) -/
  | cacheUndefined
  /-- a word that is no instruction only because a must-be-zero field is not zero, and the instruction it would be (R470) -/
  | mustBeZero (i : Instr)
  deriving DecidableEq, Repr

/-- Strict matching of must-be-zero fields (R470). -/
def strict (zero : Bool) (i : Instr) : Decoded := if zero then .instr i else .mustBeZero i

/-- The tf bit (bit 16) of MOVCI and MOVCF selects the second form; nd (bit 17) must be zero (R460, R461). -/
def movcf (f : Fields) (iF iT : Instr) : Decoded :=
  match (f.rt.extractLsb' 0 2).toNat with
  | 0b00 => .instr iF
  | 0b01 => .instr iT
  | _ => .mustBeZero iF

/-- MOVCI: MOVF and MOVT on general registers (R461). -/
def decodeMovci (f : Fields) : Decoded :=
  if f.sa == 0#5 then movcf f (.movf f.rs f.ccRt f.rd) (.movt f.rs f.ccRt f.rd)
  else .mustBeZero (.movf f.rs f.ccRt f.rd)

/-- SPECIAL, by function (R456). -/
def decodeSpecial (f : Fields) : Decoded :=
  match f.fn.toNat with
  | 0b000000 => strict (f.rs == 0#5) (.sll f.rt f.rd f.sa)
  | 0b000001 => decodeMovci f
  | 0b000010 => strict (f.rs == 0#5) (.srl f.rt f.rd f.sa)
  | 0b000011 => strict (f.rs == 0#5) (.sra f.rt f.rd f.sa)
  | 0b000100 => strict (f.sa == 0#5) (.sllv f.rs f.rt f.rd)
  | 0b000110 => strict (f.sa == 0#5) (.srlv f.rs f.rt f.rd)
  | 0b000111 => strict (f.sa == 0#5) (.srav f.rs f.rt f.rd)
  | 0b001000 => strict (f.rt == 0#5 && f.rd == 0#5 && f.sa == 0#5) (.jr f.rs)
  | 0b001001 => strict (f.rt == 0#5 && f.sa == 0#5) (.jalr f.rs f.rd)
  | 0b001010 => strict (f.sa == 0#5) (.movz f.rs f.rt f.rd)
  | 0b001011 => strict (f.sa == 0#5) (.movn f.rs f.rt f.rd)
  | 0b001100 => .instr (.syscall f.code20v)
  | 0b001101 => .instr (.breakpoint f.code20v)
  | 0b001111 => strict (f.rs == 0#5 && f.rt == 0#5 && f.rd == 0#5 && f.sa == 0#5) (.sync)
  | 0b010000 => strict (f.rs == 0#5 && f.rt == 0#5 && f.sa == 0#5) (.mfhi f.rd)
  | 0b010001 => strict (f.rt == 0#5 && f.rd == 0#5 && f.sa == 0#5) (.mthi f.rs)
  | 0b010010 => strict (f.rs == 0#5 && f.rt == 0#5 && f.sa == 0#5) (.mflo f.rd)
  | 0b010011 => strict (f.rt == 0#5 && f.rd == 0#5 && f.sa == 0#5) (.mtlo f.rs)
  | 0b010100 => strict (f.sa == 0#5) (.dsllv f.rs f.rt f.rd)
  | 0b010110 => strict (f.sa == 0#5) (.dsrlv f.rs f.rt f.rd)
  | 0b010111 => strict (f.sa == 0#5) (.dsrav f.rs f.rt f.rd)
  | 0b011000 => strict (f.rd == 0#5 && f.sa == 0#5) (.mult f.rs f.rt)
  | 0b011001 => strict (f.rd == 0#5 && f.sa == 0#5) (.multu f.rs f.rt)
  | 0b011010 => strict (f.rd == 0#5 && f.sa == 0#5) (.div f.rs f.rt)
  | 0b011011 => strict (f.rd == 0#5 && f.sa == 0#5) (.divu f.rs f.rt)
  | 0b011100 => strict (f.rd == 0#5 && f.sa == 0#5) (.dmult f.rs f.rt)
  | 0b011101 => strict (f.rd == 0#5 && f.sa == 0#5) (.dmultu f.rs f.rt)
  | 0b011110 => strict (f.rd == 0#5 && f.sa == 0#5) (.ddiv f.rs f.rt)
  | 0b011111 => strict (f.rd == 0#5 && f.sa == 0#5) (.ddivu f.rs f.rt)
  | 0b100000 => strict (f.sa == 0#5) (.add f.rs f.rt f.rd)
  | 0b100001 => strict (f.sa == 0#5) (.addu f.rs f.rt f.rd)
  | 0b100010 => strict (f.sa == 0#5) (.sub f.rs f.rt f.rd)
  | 0b100011 => strict (f.sa == 0#5) (.subu f.rs f.rt f.rd)
  | 0b100100 => strict (f.sa == 0#5) (.and f.rs f.rt f.rd)
  | 0b100101 => strict (f.sa == 0#5) (.or f.rs f.rt f.rd)
  | 0b100110 => strict (f.sa == 0#5) (.xor f.rs f.rt f.rd)
  | 0b100111 => strict (f.sa == 0#5) (.nor f.rs f.rt f.rd)
  | 0b101010 => strict (f.sa == 0#5) (.slt f.rs f.rt f.rd)
  | 0b101011 => strict (f.sa == 0#5) (.sltu f.rs f.rt f.rd)
  | 0b101100 => strict (f.sa == 0#5) (.dadd f.rs f.rt f.rd)
  | 0b101101 => strict (f.sa == 0#5) (.daddu f.rs f.rt f.rd)
  | 0b101110 => strict (f.sa == 0#5) (.dsub f.rs f.rt f.rd)
  | 0b101111 => strict (f.sa == 0#5) (.dsubu f.rs f.rt f.rd)
  | 0b110000 => .instr (.tge f.rs f.rt f.code10v)
  | 0b110001 => .instr (.tgeu f.rs f.rt f.code10v)
  | 0b110010 => .instr (.tlt f.rs f.rt f.code10v)
  | 0b110011 => .instr (.tltu f.rs f.rt f.code10v)
  | 0b110100 => .instr (.teq f.rs f.rt f.code10v)
  | 0b110110 => .instr (.tne f.rs f.rt f.code10v)
  | 0b111000 => strict (f.rs == 0#5) (.dsll f.rt f.rd f.sa)
  | 0b111010 => strict (f.rs == 0#5) (.dsrl f.rt f.rd f.sa)
  | 0b111011 => strict (f.rs == 0#5) (.dsra f.rt f.rd f.sa)
  | 0b111100 => strict (f.rs == 0#5) (.dsll32 f.rt f.rd f.sa)
  | 0b111110 => strict (f.rs == 0#5) (.dsrl32 f.rt f.rd f.sa)
  | 0b111111 => strict (f.rs == 0#5) (.dsra32 f.rt f.rd f.sa)
  | _ => .reserved

/-- REGIMM, by bits 20:16 (R457). -/
def decodeRegimm (f : Fields) : Decoded :=
  match f.rt.toNat with
  | 0b00000 => .instr (.bltz f.rs f.imm)
  | 0b00001 => .instr (.bgez f.rs f.imm)
  | 0b00010 => .instr (.bltzl f.rs f.imm)
  | 0b00011 => .instr (.bgezl f.rs f.imm)
  | 0b01000 => .instr (.tgei f.rs f.imm)
  | 0b01001 => .instr (.tgeiu f.rs f.imm)
  | 0b01010 => .instr (.tlti f.rs f.imm)
  | 0b01011 => .instr (.tltiu f.rs f.imm)
  | 0b01100 => .instr (.teqi f.rs f.imm)
  | 0b01110 => .instr (.tnei f.rs f.imm)
  | 0b10000 => .instr (.bltzal f.rs f.imm)
  | 0b10001 => .instr (.bgezal f.rs f.imm)
  | 0b10010 => .instr (.bltzall f.rs f.imm)
  | 0b10011 => .instr (.bgezall f.rs f.imm)
  | _ => .reserved

/-- Moves between a general register and CP0 register 25: the plain encoding is MFPS or MTPS of register 0 (R590). -/
def decodePerf (f : Fields) (ps pc : BitVec 5 → Instr) : Decoded :=
  if f.fn.extractLsb' 0 1 == 1#1 then .instr (pc f.perfReg) else .instr (ps f.perfReg)

/-- MFC0 and MTC0 (R582, R583, R590). -/
def decodeCp0Move (f : Fields) (plain : Instr) (ps pc : BitVec 5 → Instr) : Decoded :=
  if f.sa == 0#5 then
    if f.rd == 25#5 then decodePerf f ps pc
    else if f.fn == 0#6 then .instr plain else .cop0Undefined
  else .cop0Undefined

/-- The CO = 1 functions (R458); bits 24:6 are zero, and a nonzero one is an undefined encoding (R602). -/
def decodeCop0Co (f : Fields) : Decoded :=
  if f.rs == 16#5 && f.rt == 0#5 && f.rd == 0#5 && f.sa == 0#5 then
    match f.fn.toNat with
    | 0b000001 => .instr .tlbr
    | 0b000010 => .instr .tlbwi
    | 0b000110 => .instr .tlbwr
    | 0b001000 => .instr .tlbp
    | 0b010000 => .instr .rfe
    | 0b011000 => .instr .eret
    | _ => .cop0Undefined
  else .cop0Undefined

/-- Branches on coprocessor 0 (R600): every word with bits 25:21 = 01000 takes Reserved Instruction, whatever bits 20:16 are. -/
def decodeBc0 (f : Fields) : Decoded :=
  match f.rt.toNat with
  | 0b00000 => .instr (.bc0f f.imm)
  | 0b00001 => .instr (.bc0t f.imm)
  | 0b00010 => .instr (.bc0fl f.imm)
  | 0b00011 => .instr (.bc0tl f.imm)
  | _ => .cop0Reserved

/-- COP0, by bits 25:21 (R458). -/
def decodeCop0 (f : Fields) : Decoded :=
  match f.rs.toNat with
  | 0b00000 => decodeCp0Move f (.mfc0 f.rt f.rd) (.mfps f.rt) (.mfpc f.rt)
  | 0b00001 => if f.sa == 0#5 && f.fn == 0#6 then .instr (.dmfc0 f.rt f.rd) else .cop0Undefined
  | 0b00100 => decodeCp0Move f (.mtc0 f.rt f.rd) (.mtps f.rt) (.mtpc f.rt)
  | 0b00101 => if f.sa == 0#5 && f.fn == 0#6 then .instr (.dmtc0 f.rt f.rd) else .cop0Undefined
  | 0b01000 => decodeBc0 f
  | _ => if f.rs.extractLsb' 4 1 == 1#1 then decodeCop0Co f else .cop0Undefined

/-- Branches on a floating-point condition, by nd and tf (R459). -/
def decodeBc1 (f : Fields) : Decoded :=
  match (f.rt.extractLsb' 0 2).toNat with
  | 0b00 => .instr (.bc1f f.ccRt f.imm)
  | 0b01 => .instr (.bc1t f.ccRt f.imm)
  | 0b10 => .instr (.bc1fl f.ccRt f.imm)
  | _ => .instr (.bc1tl f.ccRt f.imm)

/-- COP1 format S, by function (R460). -/
def decodeCop1S (f : Fields) : Decoded :=
  match f.fn.toNat with
  | 0b000000 => .instr (.addS f.rt f.rd f.sa)
  | 0b000001 => .instr (.subS f.rt f.rd f.sa)
  | 0b000010 => .instr (.mulS f.rt f.rd f.sa)
  | 0b000011 => .instr (.divS f.rt f.rd f.sa)
  | 0b000100 => strict (f.rt == 0#5) (.sqrtS f.rd f.sa)
  | 0b000101 => strict (f.rt == 0#5) (.absS f.rd f.sa)
  | 0b000110 => strict (f.rt == 0#5) (.movS f.rd f.sa)
  | 0b000111 => strict (f.rt == 0#5) (.negS f.rd f.sa)
  | 0b001000 => strict (f.rt == 0#5) (.roundLS f.rd f.sa)
  | 0b001001 => strict (f.rt == 0#5) (.truncLS f.rd f.sa)
  | 0b001010 => strict (f.rt == 0#5) (.ceilLS f.rd f.sa)
  | 0b001011 => strict (f.rt == 0#5) (.floorLS f.rd f.sa)
  | 0b001100 => strict (f.rt == 0#5) (.roundWS f.rd f.sa)
  | 0b001101 => strict (f.rt == 0#5) (.truncWS f.rd f.sa)
  | 0b001110 => strict (f.rt == 0#5) (.ceilWS f.rd f.sa)
  | 0b001111 => strict (f.rt == 0#5) (.floorWS f.rd f.sa)
  | 0b010001 => movcf f (.movfS f.ccRt f.rd f.sa) (.movtS f.ccRt f.rd f.sa)
  | 0b010010 => .instr (.movzS f.rt f.rd f.sa)
  | 0b010011 => .instr (.movnS f.rt f.rd f.sa)
  | 0b010101 => strict (f.rt == 0#5) (.recipS f.rd f.sa)
  | 0b010110 => strict (f.rt == 0#5) (.rsqrtS f.rd f.sa)
  | 0b100001 => strict (f.rt == 0#5) (.cvtDS f.rd f.sa)
  | 0b100100 => strict (f.rt == 0#5) (.cvtWS f.rd f.sa)
  | 0b100101 => strict (f.rt == 0#5) (.cvtLS f.rd f.sa)
  | 0b110000 => strict (f.sa.extractLsb' 0 2 == 0#2) (.cFS f.rt f.rd f.ccSa)
  | 0b110001 => strict (f.sa.extractLsb' 0 2 == 0#2) (.cUnS f.rt f.rd f.ccSa)
  | 0b110010 => strict (f.sa.extractLsb' 0 2 == 0#2) (.cEqS f.rt f.rd f.ccSa)
  | 0b110011 => strict (f.sa.extractLsb' 0 2 == 0#2) (.cUeqS f.rt f.rd f.ccSa)
  | 0b110100 => strict (f.sa.extractLsb' 0 2 == 0#2) (.cOltS f.rt f.rd f.ccSa)
  | 0b110101 => strict (f.sa.extractLsb' 0 2 == 0#2) (.cUltS f.rt f.rd f.ccSa)
  | 0b110110 => strict (f.sa.extractLsb' 0 2 == 0#2) (.cOleS f.rt f.rd f.ccSa)
  | 0b110111 => strict (f.sa.extractLsb' 0 2 == 0#2) (.cUleS f.rt f.rd f.ccSa)
  | 0b111000 => strict (f.sa.extractLsb' 0 2 == 0#2) (.cSfS f.rt f.rd f.ccSa)
  | 0b111001 => strict (f.sa.extractLsb' 0 2 == 0#2) (.cNgleS f.rt f.rd f.ccSa)
  | 0b111010 => strict (f.sa.extractLsb' 0 2 == 0#2) (.cSeqS f.rt f.rd f.ccSa)
  | 0b111011 => strict (f.sa.extractLsb' 0 2 == 0#2) (.cNglS f.rt f.rd f.ccSa)
  | 0b111100 => strict (f.sa.extractLsb' 0 2 == 0#2) (.cLtS f.rt f.rd f.ccSa)
  | 0b111101 => strict (f.sa.extractLsb' 0 2 == 0#2) (.cNgeS f.rt f.rd f.ccSa)
  | 0b111110 => strict (f.sa.extractLsb' 0 2 == 0#2) (.cLeS f.rt f.rd f.ccSa)
  | 0b111111 => strict (f.sa.extractLsb' 0 2 == 0#2) (.cNgtS f.rt f.rd f.ccSa)
  | _ => .cop1Unimplemented

/-- COP1 format D, by function (R460). -/
def decodeCop1D (f : Fields) : Decoded :=
  match f.fn.toNat with
  | 0b000000 => .instr (.addD f.rt f.rd f.sa)
  | 0b000001 => .instr (.subD f.rt f.rd f.sa)
  | 0b000010 => .instr (.mulD f.rt f.rd f.sa)
  | 0b000011 => .instr (.divD f.rt f.rd f.sa)
  | 0b000100 => strict (f.rt == 0#5) (.sqrtD f.rd f.sa)
  | 0b000101 => strict (f.rt == 0#5) (.absD f.rd f.sa)
  | 0b000110 => strict (f.rt == 0#5) (.movD f.rd f.sa)
  | 0b000111 => strict (f.rt == 0#5) (.negD f.rd f.sa)
  | 0b001000 => strict (f.rt == 0#5) (.roundLD f.rd f.sa)
  | 0b001001 => strict (f.rt == 0#5) (.truncLD f.rd f.sa)
  | 0b001010 => strict (f.rt == 0#5) (.ceilLD f.rd f.sa)
  | 0b001011 => strict (f.rt == 0#5) (.floorLD f.rd f.sa)
  | 0b001100 => strict (f.rt == 0#5) (.roundWD f.rd f.sa)
  | 0b001101 => strict (f.rt == 0#5) (.truncWD f.rd f.sa)
  | 0b001110 => strict (f.rt == 0#5) (.ceilWD f.rd f.sa)
  | 0b001111 => strict (f.rt == 0#5) (.floorWD f.rd f.sa)
  | 0b010001 => movcf f (.movfD f.ccRt f.rd f.sa) (.movtD f.ccRt f.rd f.sa)
  | 0b010010 => .instr (.movzD f.rt f.rd f.sa)
  | 0b010011 => .instr (.movnD f.rt f.rd f.sa)
  | 0b010101 => strict (f.rt == 0#5) (.recipD f.rd f.sa)
  | 0b010110 => strict (f.rt == 0#5) (.rsqrtD f.rd f.sa)
  | 0b100000 => strict (f.rt == 0#5) (.cvtSD f.rd f.sa)
  | 0b100100 => strict (f.rt == 0#5) (.cvtWD f.rd f.sa)
  | 0b100101 => strict (f.rt == 0#5) (.cvtLD f.rd f.sa)
  | 0b110000 => strict (f.sa.extractLsb' 0 2 == 0#2) (.cFD f.rt f.rd f.ccSa)
  | 0b110001 => strict (f.sa.extractLsb' 0 2 == 0#2) (.cUnD f.rt f.rd f.ccSa)
  | 0b110010 => strict (f.sa.extractLsb' 0 2 == 0#2) (.cEqD f.rt f.rd f.ccSa)
  | 0b110011 => strict (f.sa.extractLsb' 0 2 == 0#2) (.cUeqD f.rt f.rd f.ccSa)
  | 0b110100 => strict (f.sa.extractLsb' 0 2 == 0#2) (.cOltD f.rt f.rd f.ccSa)
  | 0b110101 => strict (f.sa.extractLsb' 0 2 == 0#2) (.cUltD f.rt f.rd f.ccSa)
  | 0b110110 => strict (f.sa.extractLsb' 0 2 == 0#2) (.cOleD f.rt f.rd f.ccSa)
  | 0b110111 => strict (f.sa.extractLsb' 0 2 == 0#2) (.cUleD f.rt f.rd f.ccSa)
  | 0b111000 => strict (f.sa.extractLsb' 0 2 == 0#2) (.cSfD f.rt f.rd f.ccSa)
  | 0b111001 => strict (f.sa.extractLsb' 0 2 == 0#2) (.cNgleD f.rt f.rd f.ccSa)
  | 0b111010 => strict (f.sa.extractLsb' 0 2 == 0#2) (.cSeqD f.rt f.rd f.ccSa)
  | 0b111011 => strict (f.sa.extractLsb' 0 2 == 0#2) (.cNglD f.rt f.rd f.ccSa)
  | 0b111100 => strict (f.sa.extractLsb' 0 2 == 0#2) (.cLtD f.rt f.rd f.ccSa)
  | 0b111101 => strict (f.sa.extractLsb' 0 2 == 0#2) (.cNgeD f.rt f.rd f.ccSa)
  | 0b111110 => strict (f.sa.extractLsb' 0 2 == 0#2) (.cLeD f.rt f.rd f.ccSa)
  | 0b111111 => strict (f.sa.extractLsb' 0 2 == 0#2) (.cNgtD f.rt f.rd f.ccSa)
  | _ => .cop1Unimplemented

/-- COP1 format W: only CVT.S and CVT.D (R460). -/
def decodeCop1W (f : Fields) : Decoded :=
  match f.fn.toNat with
  | 0b100000 => strict (f.rt == 0#5) (.cvtSW f.rd f.sa)
  | 0b100001 => strict (f.rt == 0#5) (.cvtDW f.rd f.sa)
  | _ => .cop1Unimplemented

/-- COP1 format L: only CVT.S and CVT.D (R460). -/
def decodeCop1L (f : Fields) : Decoded :=
  match f.fn.toNat with
  | 0b100000 => strict (f.rt == 0#5) (.cvtSL f.rd f.sa)
  | 0b100001 => strict (f.rt == 0#5) (.cvtDL f.rd f.sa)
  | _ => .cop1Unimplemented

/-- COP1, by bits 25:21 (R459, R475). -/
def decodeCop1 (f : Fields) : Decoded :=
  match f.rs.toNat with
  | 0b00000 => strict (f.sa == 0#5 && f.fn == 0#6) (.mfc1 f.rt f.rd)
  | 0b00001 => strict (f.sa == 0#5 && f.fn == 0#6) (.dmfc1 f.rt f.rd)
  | 0b00010 => strict (f.sa == 0#5 && f.fn == 0#6) (.cfc1 f.rt f.rd)
  | 0b00100 => strict (f.sa == 0#5 && f.fn == 0#6) (.mtc1 f.rt f.rd)
  | 0b00101 => strict (f.sa == 0#5 && f.fn == 0#6) (.dmtc1 f.rt f.rd)
  | 0b00110 => strict (f.sa == 0#5 && f.fn == 0#6) (.ctc1 f.rt f.rd)
  | 0b01000 => decodeBc1 f
  | 0b10000 => decodeCop1S f
  | 0b10001 => decodeCop1D f
  | 0b10100 => decodeCop1W f
  | 0b10101 => decodeCop1L f
  | _ => if f.rs.extractLsb' 4 1 == 1#1 then .cop1Unimplemented else .cop1Reserved

/-- COP1X, by function (R462). -/
def decodeCop1x (f : Fields) : Decoded :=
  match f.fn.toNat with
  | 0b000000 => strict (f.rd == 0#5) (.lwxc1 f.rs f.rt f.sa)
  | 0b000001 => strict (f.rd == 0#5) (.ldxc1 f.rs f.rt f.sa)
  | 0b001000 => strict (f.sa == 0#5) (.swxc1 f.rs f.rt f.rd)
  | 0b001001 => strict (f.sa == 0#5) (.sdxc1 f.rs f.rt f.rd)
  | 0b001111 => strict (f.sa == 0#5) (.prefx f.rs f.rt f.rd)
  | 0b100000 => .instr (.maddS f.rs f.rt f.rd f.sa)
  | 0b100001 => .instr (.maddD f.rs f.rt f.rd f.sa)
  | 0b101000 => .instr (.msubS f.rs f.rt f.rd f.sa)
  | 0b101001 => .instr (.msubD f.rs f.rt f.rd f.sa)
  | 0b110000 => .instr (.nmaddS f.rs f.rt f.rd f.sa)
  | 0b110001 => .instr (.nmaddD f.rs f.rt f.rd f.sa)
  | 0b111000 => .instr (.nmsubS f.rs f.rt f.rd f.sa)
  | 0b111001 => .instr (.nmsubD f.rs f.rt f.rd f.sa)
  | _ => .cop1xReserved

/-- CACHE, by op (R531). -/
def decodeCache (f : Fields) : Decoded :=
  match f.rt.toNat with
  | 0b00000 => .instr (.cacheIndexInvalidateI f.rs f.imm)
  | 0b00001 => .instr (.cacheIndexWritebackInvalidateD f.rs f.imm)
  | 0b00011 => .instr (.cacheIndexWritebackInvalidateS f.rs f.imm)
  | 0b00100 => .instr (.cacheIndexLoadTagI f.rs f.imm)
  | 0b00101 => .instr (.cacheIndexLoadTagD f.rs f.imm)
  | 0b00111 => .instr (.cacheIndexLoadTagS f.rs f.imm)
  | 0b01000 => .instr (.cacheIndexStoreTagI f.rs f.imm)
  | 0b01001 => .instr (.cacheIndexStoreTagD f.rs f.imm)
  | 0b01011 => .instr (.cacheIndexStoreTagS f.rs f.imm)
  | 0b10000 => .instr (.cacheHitInvalidateI f.rs f.imm)
  | 0b10001 => .instr (.cacheHitInvalidateD f.rs f.imm)
  | 0b10011 => .instr (.cacheHitInvalidateS f.rs f.imm)
  | 0b10100 => .instr (.cacheBarrier f.rs f.imm)
  | 0b10101 => .instr (.cacheHitWritebackInvalidateD f.rs f.imm)
  | 0b10111 => .instr (.cacheHitWritebackInvalidateS f.rs f.imm)
  | 0b11000 => .instr (.cacheIndexLoadDataI f.rs f.imm)
  | 0b11001 => .instr (.cacheIndexLoadDataD f.rs f.imm)
  | 0b11011 => .instr (.cacheIndexLoadDataS f.rs f.imm)
  | 0b11100 => .instr (.cacheIndexStoreDataI f.rs f.imm)
  | 0b11101 => .instr (.cacheIndexStoreDataD f.rs f.imm)
  | 0b11111 => .instr (.cacheIndexStoreDataS f.rs f.imm)
  | _ => .cacheUndefined

/-- The major opcode map (R455). -/
def decodeFields (f : Fields) : Decoded :=
  match f.op.toNat with
  | 0b000000 => decodeSpecial f
  | 0b000001 => decodeRegimm f
  | 0b000010 => .instr (.j f.target)
  | 0b000011 => .instr (.jal f.target)
  | 0b000100 => .instr (.beq f.rs f.rt f.imm)
  | 0b000101 => .instr (.bne f.rs f.rt f.imm)
  | 0b000110 => strict (f.rt == 0#5) (.blez f.rs f.imm)
  | 0b000111 => strict (f.rt == 0#5) (.bgtz f.rs f.imm)
  | 0b001000 => .instr (.addi f.rs f.rt f.imm)
  | 0b001001 => .instr (.addiu f.rs f.rt f.imm)
  | 0b001010 => .instr (.slti f.rs f.rt f.imm)
  | 0b001011 => .instr (.sltiu f.rs f.rt f.imm)
  | 0b001100 => .instr (.andi f.rs f.rt f.imm)
  | 0b001101 => .instr (.ori f.rs f.rt f.imm)
  | 0b001110 => .instr (.xori f.rs f.rt f.imm)
  | 0b001111 => strict (f.rs == 0#5) (.lui f.rt f.imm)
  | 0b010000 => decodeCop0 f
  | 0b010001 => decodeCop1 f
  | 0b010010 => .instr (.cop2 f.target)
  | 0b010011 => decodeCop1x f
  | 0b010100 => .instr (.beql f.rs f.rt f.imm)
  | 0b010101 => .instr (.bnel f.rs f.rt f.imm)
  | 0b010110 => strict (f.rt == 0#5) (.blezl f.rs f.imm)
  | 0b010111 => strict (f.rt == 0#5) (.bgtzl f.rs f.imm)
  | 0b011000 => .instr (.daddi f.rs f.rt f.imm)
  | 0b011001 => .instr (.daddiu f.rs f.rt f.imm)
  | 0b011010 => .instr (.ldl f.rs f.rt f.imm)
  | 0b011011 => .instr (.ldr f.rs f.rt f.imm)
  | 0b100000 => .instr (.lb f.rs f.rt f.imm)
  | 0b100001 => .instr (.lh f.rs f.rt f.imm)
  | 0b100010 => .instr (.lwl f.rs f.rt f.imm)
  | 0b100011 => .instr (.lw f.rs f.rt f.imm)
  | 0b100100 => .instr (.lbu f.rs f.rt f.imm)
  | 0b100101 => .instr (.lhu f.rs f.rt f.imm)
  | 0b100110 => .instr (.lwr f.rs f.rt f.imm)
  | 0b100111 => .instr (.lwu f.rs f.rt f.imm)
  | 0b101000 => .instr (.sb f.rs f.rt f.imm)
  | 0b101001 => .instr (.sh f.rs f.rt f.imm)
  | 0b101010 => .instr (.swl f.rs f.rt f.imm)
  | 0b101011 => .instr (.sw f.rs f.rt f.imm)
  | 0b101100 => .instr (.sdl f.rs f.rt f.imm)
  | 0b101101 => .instr (.sdr f.rs f.rt f.imm)
  | 0b101110 => .instr (.swr f.rs f.rt f.imm)
  | 0b101111 => decodeCache f
  | 0b110000 => .instr (.ll f.rs f.rt f.imm)
  | 0b110001 => .instr (.lwc1 f.rs f.rt f.imm)
  | 0b110010 => .instr (.lwc2 f.rs f.rt f.imm)
  | 0b110011 => .instr (.pref f.rs f.rt f.imm)
  | 0b110100 => .instr (.lld f.rs f.rt f.imm)
  | 0b110101 => .instr (.ldc1 f.rs f.rt f.imm)
  | 0b110110 => .instr (.ldc2 f.rs f.rt f.imm)
  | 0b110111 => .instr (.ld f.rs f.rt f.imm)
  | 0b111000 => .instr (.sc f.rs f.rt f.imm)
  | 0b111001 => .instr (.swc1 f.rs f.rt f.imm)
  | 0b111010 => .instr (.swc2 f.rs f.rt f.imm)
  | 0b111100 => .instr (.scd f.rs f.rt f.imm)
  | 0b111101 => .instr (.sdc1 f.rs f.rt f.imm)
  | 0b111110 => .instr (.sdc2 f.rs f.rt f.imm)
  | 0b111111 => .instr (.sd f.rs f.rt f.imm)
  | _ => .reserved

/-- The instruction a word is (R453 step 2). -/
def decode (w : Word) : Decoded := decodeFields (Fields.ofWord w)

/-- The word of four bytes, the first the most significant: the big-endian order of R230. -/
def wordOfBytes (b0 b1 b2 b3 : Byte) : Word := b0 ++ b1 ++ b2 ++ b3

/-- Decode the first instruction of a byte stream laid out big-endian; the rest of the stream comes with it. An instruction
is four bytes and there is no other length (R450). -/
def decodeBytes : List Byte → Option (Decoded × List Byte)
  | b0 :: b1 :: b2 :: b3 :: rest => some (decode (wordOfBytes b0 b1 b2 b3), rest)
  | _ => none

/-- The bytes of a word, most significant first (R230, big endian). -/
def bytesOfWord (w : Word) : List Byte :=
  [w.extractLsb' 24 8, w.extractLsb' 16 8, w.extractLsb' 8 8, w.extractLsb' 0 8]

/-- The instruction the decoder reads from the `nbits` bits `w`, numbered as spec/opcode_table.json numbers them; bits above
`nbits` are 0. -/
def decodeTableWord (nbits w : Nat) : Option Instr :=
  match decodeBytes (bytesOfWord (BitVec.ofNat 32 (w % 2 ^ nbits))) with
  | some (.instr i, _) => some i
  | _ => none

/-- An R-type word (R452). -/
def Fields.reg (op : BitVec 6) (rs rt rd sa : BitVec 5) (fn : BitVec 6) : Fields := ⟨op, rs, rt, rd, sa, fn⟩

/-- An I-type word (R452). -/
def Fields.immediate (op : BitVec 6) (rs rt : BitVec 5) (i : BitVec 16) : Fields :=
  ⟨op, rs, rt, i.extractLsb' 11 5, i.extractLsb' 6 5, i.extractLsb' 0 6⟩

/-- A J-type word (R452). -/
def Fields.jump (op : BitVec 6) (t : BitVec 26) : Fields :=
  ⟨op, t.extractLsb' 21 5, t.extractLsb' 16 5, t.extractLsb' 11 5, t.extractLsb' 6 5, t.extractLsb' 0 6⟩

/-- SYSCALL and BREAK: a 20-bit code (R451). -/
def Fields.code20 (op : BitVec 6) (c : BitVec 20) (fn : BitVec 6) : Fields :=
  ⟨op, c.extractLsb' 15 5, c.extractLsb' 10 5, c.extractLsb' 5 5, c.extractLsb' 0 5, fn⟩

/-- The register traps: a 10-bit code (R464). -/
def Fields.code10 (op : BitVec 6) (rs rt : BitVec 5) (c : BitVec 10) (fn : BitVec 6) : Fields :=
  ⟨op, rs, rt, c.extractLsb' 5 5, c.extractLsb' 0 5, fn⟩

/-- The fields of an instruction, from the encodings of R455 to R463 and R485. -/
def encodeFields : Instr → Fields
  | .addi rs rt immediate => .immediate 0b001000#6 rs rt immediate
  | .addiu rs rt immediate => .immediate 0b001001#6 rs rt immediate
  | .slti rs rt immediate => .immediate 0b001010#6 rs rt immediate
  | .sltiu rs rt immediate => .immediate 0b001011#6 rs rt immediate
  | .andi rs rt immediate => .immediate 0b001100#6 rs rt immediate
  | .ori rs rt immediate => .immediate 0b001101#6 rs rt immediate
  | .xori rs rt immediate => .immediate 0b001110#6 rs rt immediate
  | .daddi rs rt immediate => .immediate 0b011000#6 rs rt immediate
  | .daddiu rs rt immediate => .immediate 0b011001#6 rs rt immediate
  | .lui rt immediate => .immediate 0b001111#6 0b00000#5 rt immediate
  | .add rs rt rd => .reg 0b000000#6 rs rt rd 0b00000#5 0b100000#6
  | .addu rs rt rd => .reg 0b000000#6 rs rt rd 0b00000#5 0b100001#6
  | .sub rs rt rd => .reg 0b000000#6 rs rt rd 0b00000#5 0b100010#6
  | .subu rs rt rd => .reg 0b000000#6 rs rt rd 0b00000#5 0b100011#6
  | .and rs rt rd => .reg 0b000000#6 rs rt rd 0b00000#5 0b100100#6
  | .or rs rt rd => .reg 0b000000#6 rs rt rd 0b00000#5 0b100101#6
  | .xor rs rt rd => .reg 0b000000#6 rs rt rd 0b00000#5 0b100110#6
  | .nor rs rt rd => .reg 0b000000#6 rs rt rd 0b00000#5 0b100111#6
  | .slt rs rt rd => .reg 0b000000#6 rs rt rd 0b00000#5 0b101010#6
  | .sltu rs rt rd => .reg 0b000000#6 rs rt rd 0b00000#5 0b101011#6
  | .dadd rs rt rd => .reg 0b000000#6 rs rt rd 0b00000#5 0b101100#6
  | .daddu rs rt rd => .reg 0b000000#6 rs rt rd 0b00000#5 0b101101#6
  | .dsub rs rt rd => .reg 0b000000#6 rs rt rd 0b00000#5 0b101110#6
  | .dsubu rs rt rd => .reg 0b000000#6 rs rt rd 0b00000#5 0b101111#6
  | .movz rs rt rd => .reg 0b000000#6 rs rt rd 0b00000#5 0b001010#6
  | .movn rs rt rd => .reg 0b000000#6 rs rt rd 0b00000#5 0b001011#6
  | .sll rt rd sa => .reg 0b000000#6 0b00000#5 rt rd sa 0b000000#6
  | .srl rt rd sa => .reg 0b000000#6 0b00000#5 rt rd sa 0b000010#6
  | .sra rt rd sa => .reg 0b000000#6 0b00000#5 rt rd sa 0b000011#6
  | .dsll rt rd sa => .reg 0b000000#6 0b00000#5 rt rd sa 0b111000#6
  | .dsrl rt rd sa => .reg 0b000000#6 0b00000#5 rt rd sa 0b111010#6
  | .dsra rt rd sa => .reg 0b000000#6 0b00000#5 rt rd sa 0b111011#6
  | .dsll32 rt rd sa => .reg 0b000000#6 0b00000#5 rt rd sa 0b111100#6
  | .dsrl32 rt rd sa => .reg 0b000000#6 0b00000#5 rt rd sa 0b111110#6
  | .dsra32 rt rd sa => .reg 0b000000#6 0b00000#5 rt rd sa 0b111111#6
  | .sllv rs rt rd => .reg 0b000000#6 rs rt rd 0b00000#5 0b000100#6
  | .srlv rs rt rd => .reg 0b000000#6 rs rt rd 0b00000#5 0b000110#6
  | .srav rs rt rd => .reg 0b000000#6 rs rt rd 0b00000#5 0b000111#6
  | .dsllv rs rt rd => .reg 0b000000#6 rs rt rd 0b00000#5 0b010100#6
  | .dsrlv rs rt rd => .reg 0b000000#6 rs rt rd 0b00000#5 0b010110#6
  | .dsrav rs rt rd => .reg 0b000000#6 rs rt rd 0b00000#5 0b010111#6
  | .mult rs rt => .reg 0b000000#6 rs rt 0b00000#5 0b00000#5 0b011000#6
  | .multu rs rt => .reg 0b000000#6 rs rt 0b00000#5 0b00000#5 0b011001#6
  | .div rs rt => .reg 0b000000#6 rs rt 0b00000#5 0b00000#5 0b011010#6
  | .divu rs rt => .reg 0b000000#6 rs rt 0b00000#5 0b00000#5 0b011011#6
  | .dmult rs rt => .reg 0b000000#6 rs rt 0b00000#5 0b00000#5 0b011100#6
  | .dmultu rs rt => .reg 0b000000#6 rs rt 0b00000#5 0b00000#5 0b011101#6
  | .ddiv rs rt => .reg 0b000000#6 rs rt 0b00000#5 0b00000#5 0b011110#6
  | .ddivu rs rt => .reg 0b000000#6 rs rt 0b00000#5 0b00000#5 0b011111#6
  | .mfhi rd => .reg 0b000000#6 0b00000#5 0b00000#5 rd 0b00000#5 0b010000#6
  | .mthi rs => .reg 0b000000#6 rs 0b00000#5 0b00000#5 0b00000#5 0b010001#6
  | .mflo rd => .reg 0b000000#6 0b00000#5 0b00000#5 rd 0b00000#5 0b010010#6
  | .mtlo rs => .reg 0b000000#6 rs 0b00000#5 0b00000#5 0b00000#5 0b010011#6
  | .movf rs cc rd => .reg 0b000000#6 rs (cc ++ 0b00#2) rd 0b00000#5 0b000001#6
  | .movt rs cc rd => .reg 0b000000#6 rs (cc ++ 0b01#2) rd 0b00000#5 0b000001#6
  | .lb base rt offset => .immediate 0b100000#6 base rt offset
  | .lbu base rt offset => .immediate 0b100100#6 base rt offset
  | .lh base rt offset => .immediate 0b100001#6 base rt offset
  | .lhu base rt offset => .immediate 0b100101#6 base rt offset
  | .lw base rt offset => .immediate 0b100011#6 base rt offset
  | .lwu base rt offset => .immediate 0b100111#6 base rt offset
  | .ld base rt offset => .immediate 0b110111#6 base rt offset
  | .sb base rt offset => .immediate 0b101000#6 base rt offset
  | .sh base rt offset => .immediate 0b101001#6 base rt offset
  | .sw base rt offset => .immediate 0b101011#6 base rt offset
  | .sd base rt offset => .immediate 0b111111#6 base rt offset
  | .lwl base rt offset => .immediate 0b100010#6 base rt offset
  | .lwr base rt offset => .immediate 0b100110#6 base rt offset
  | .ldl base rt offset => .immediate 0b011010#6 base rt offset
  | .ldr base rt offset => .immediate 0b011011#6 base rt offset
  | .swl base rt offset => .immediate 0b101010#6 base rt offset
  | .swr base rt offset => .immediate 0b101110#6 base rt offset
  | .sdl base rt offset => .immediate 0b101100#6 base rt offset
  | .sdr base rt offset => .immediate 0b101101#6 base rt offset
  | .ll base rt offset => .immediate 0b110000#6 base rt offset
  | .lld base rt offset => .immediate 0b110100#6 base rt offset
  | .sc base rt offset => .immediate 0b111000#6 base rt offset
  | .scd base rt offset => .immediate 0b111100#6 base rt offset
  | .lwc1 base ft offset => .immediate 0b110001#6 base ft offset
  | .ldc1 base ft offset => .immediate 0b110101#6 base ft offset
  | .swc1 base ft offset => .immediate 0b111001#6 base ft offset
  | .sdc1 base ft offset => .immediate 0b111101#6 base ft offset
  | .lwxc1 base index fd => .reg 0b010011#6 base index 0b00000#5 fd 0b000000#6
  | .ldxc1 base index fd => .reg 0b010011#6 base index 0b00000#5 fd 0b000001#6
  | .swxc1 base index fs => .reg 0b010011#6 base index fs 0b00000#5 0b001000#6
  | .sdxc1 base index fs => .reg 0b010011#6 base index fs 0b00000#5 0b001001#6
  | .pref base hint offset => .immediate 0b110011#6 base hint offset
  | .prefx base index hint => .reg 0b010011#6 base index hint 0b00000#5 0b001111#6
  | .sync => .reg 0b000000#6 0b00000#5 0b00000#5 0b00000#5 0b00000#5 0b001111#6
  | .cacheIndexInvalidateI base offset => .immediate 0b101111#6 base 0b00000#5 offset
  | .cacheIndexLoadTagI base offset => .immediate 0b101111#6 base 0b00100#5 offset
  | .cacheIndexStoreTagI base offset => .immediate 0b101111#6 base 0b01000#5 offset
  | .cacheHitInvalidateI base offset => .immediate 0b101111#6 base 0b10000#5 offset
  | .cacheBarrier base offset => .immediate 0b101111#6 base 0b10100#5 offset
  | .cacheIndexLoadDataI base offset => .immediate 0b101111#6 base 0b11000#5 offset
  | .cacheIndexStoreDataI base offset => .immediate 0b101111#6 base 0b11100#5 offset
  | .cacheIndexWritebackInvalidateD base offset => .immediate 0b101111#6 base 0b00001#5 offset
  | .cacheIndexLoadTagD base offset => .immediate 0b101111#6 base 0b00101#5 offset
  | .cacheIndexStoreTagD base offset => .immediate 0b101111#6 base 0b01001#5 offset
  | .cacheHitInvalidateD base offset => .immediate 0b101111#6 base 0b10001#5 offset
  | .cacheHitWritebackInvalidateD base offset => .immediate 0b101111#6 base 0b10101#5 offset
  | .cacheIndexLoadDataD base offset => .immediate 0b101111#6 base 0b11001#5 offset
  | .cacheIndexStoreDataD base offset => .immediate 0b101111#6 base 0b11101#5 offset
  | .cacheIndexWritebackInvalidateS base offset => .immediate 0b101111#6 base 0b00011#5 offset
  | .cacheIndexLoadTagS base offset => .immediate 0b101111#6 base 0b00111#5 offset
  | .cacheIndexStoreTagS base offset => .immediate 0b101111#6 base 0b01011#5 offset
  | .cacheHitInvalidateS base offset => .immediate 0b101111#6 base 0b10011#5 offset
  | .cacheHitWritebackInvalidateS base offset => .immediate 0b101111#6 base 0b10111#5 offset
  | .cacheIndexLoadDataS base offset => .immediate 0b101111#6 base 0b11011#5 offset
  | .cacheIndexStoreDataS base offset => .immediate 0b101111#6 base 0b11111#5 offset
  | .j target => .jump 0b000010#6 target
  | .jal target => .jump 0b000011#6 target
  | .jr rs => .reg 0b000000#6 rs 0b00000#5 0b00000#5 0b00000#5 0b001000#6
  | .jalr rs rd => .reg 0b000000#6 rs 0b00000#5 rd 0b00000#5 0b001001#6
  | .beq rs rt offset => .immediate 0b000100#6 rs rt offset
  | .bne rs rt offset => .immediate 0b000101#6 rs rt offset
  | .beql rs rt offset => .immediate 0b010100#6 rs rt offset
  | .bnel rs rt offset => .immediate 0b010101#6 rs rt offset
  | .blez rs offset => .immediate 0b000110#6 rs 0b00000#5 offset
  | .bgtz rs offset => .immediate 0b000111#6 rs 0b00000#5 offset
  | .blezl rs offset => .immediate 0b010110#6 rs 0b00000#5 offset
  | .bgtzl rs offset => .immediate 0b010111#6 rs 0b00000#5 offset
  | .bltz rs offset => .immediate 0b000001#6 rs 0b00000#5 offset
  | .bgez rs offset => .immediate 0b000001#6 rs 0b00001#5 offset
  | .bltzl rs offset => .immediate 0b000001#6 rs 0b00010#5 offset
  | .bgezl rs offset => .immediate 0b000001#6 rs 0b00011#5 offset
  | .bltzal rs offset => .immediate 0b000001#6 rs 0b10000#5 offset
  | .bgezal rs offset => .immediate 0b000001#6 rs 0b10001#5 offset
  | .bltzall rs offset => .immediate 0b000001#6 rs 0b10010#5 offset
  | .bgezall rs offset => .immediate 0b000001#6 rs 0b10011#5 offset
  | .tgei rs immediate => .immediate 0b000001#6 rs 0b01000#5 immediate
  | .tgeiu rs immediate => .immediate 0b000001#6 rs 0b01001#5 immediate
  | .tlti rs immediate => .immediate 0b000001#6 rs 0b01010#5 immediate
  | .tltiu rs immediate => .immediate 0b000001#6 rs 0b01011#5 immediate
  | .teqi rs immediate => .immediate 0b000001#6 rs 0b01100#5 immediate
  | .tnei rs immediate => .immediate 0b000001#6 rs 0b01110#5 immediate
  | .tge rs rt code => .code10 0b000000#6 rs rt code 0b110000#6
  | .tgeu rs rt code => .code10 0b000000#6 rs rt code 0b110001#6
  | .tlt rs rt code => .code10 0b000000#6 rs rt code 0b110010#6
  | .tltu rs rt code => .code10 0b000000#6 rs rt code 0b110011#6
  | .teq rs rt code => .code10 0b000000#6 rs rt code 0b110100#6
  | .tne rs rt code => .code10 0b000000#6 rs rt code 0b110110#6
  | .syscall code => .code20 0b000000#6 code 0b001100#6
  | .breakpoint code => .code20 0b000000#6 code 0b001101#6
  | .bc1f cc offset => .immediate 0b010001#6 0b01000#5 (cc ++ 0b00#2) offset
  | .bc1t cc offset => .immediate 0b010001#6 0b01000#5 (cc ++ 0b01#2) offset
  | .bc1fl cc offset => .immediate 0b010001#6 0b01000#5 (cc ++ 0b10#2) offset
  | .bc1tl cc offset => .immediate 0b010001#6 0b01000#5 (cc ++ 0b11#2) offset
  | .mfps rt reg => .reg 0b010000#6 0b00000#5 rt 0b11001#5 0b00000#5 (reg ++ 0b0#1)
  | .mfpc rt reg => .reg 0b010000#6 0b00000#5 rt 0b11001#5 0b00000#5 (reg ++ 0b1#1)
  | .mtps rt reg => .reg 0b010000#6 0b00100#5 rt 0b11001#5 0b00000#5 (reg ++ 0b0#1)
  | .mtpc rt reg => .reg 0b010000#6 0b00100#5 rt 0b11001#5 0b00000#5 (reg ++ 0b1#1)
  | .mfc0 rt rd => .reg 0b010000#6 0b00000#5 rt rd 0b00000#5 0b000000#6
  | .dmfc0 rt rd => .reg 0b010000#6 0b00001#5 rt rd 0b00000#5 0b000000#6
  | .mtc0 rt rd => .reg 0b010000#6 0b00100#5 rt rd 0b00000#5 0b000000#6
  | .dmtc0 rt rd => .reg 0b010000#6 0b00101#5 rt rd 0b00000#5 0b000000#6
  | .tlbr => .reg 0b010000#6 0b10000#5 0b00000#5 0b00000#5 0b00000#5 0b000001#6
  | .tlbwi => .reg 0b010000#6 0b10000#5 0b00000#5 0b00000#5 0b00000#5 0b000010#6
  | .tlbwr => .reg 0b010000#6 0b10000#5 0b00000#5 0b00000#5 0b00000#5 0b000110#6
  | .tlbp => .reg 0b010000#6 0b10000#5 0b00000#5 0b00000#5 0b00000#5 0b001000#6
  | .eret => .reg 0b010000#6 0b10000#5 0b00000#5 0b00000#5 0b00000#5 0b011000#6
  | .rfe => .reg 0b010000#6 0b10000#5 0b00000#5 0b00000#5 0b00000#5 0b010000#6
  | .bc0f offset => .immediate 0b010000#6 0b01000#5 0b00000#5 offset
  | .bc0t offset => .immediate 0b010000#6 0b01000#5 0b00001#5 offset
  | .bc0fl offset => .immediate 0b010000#6 0b01000#5 0b00010#5 offset
  | .bc0tl offset => .immediate 0b010000#6 0b01000#5 0b00011#5 offset
  | .cop2 code => .jump 0b010010#6 code
  | .lwc2 base rt offset => .immediate 0b110010#6 base rt offset
  | .ldc2 base rt offset => .immediate 0b110110#6 base rt offset
  | .swc2 base rt offset => .immediate 0b111010#6 base rt offset
  | .sdc2 base rt offset => .immediate 0b111110#6 base rt offset
  | .mfc1 rt fs => .reg 0b010001#6 0b00000#5 rt fs 0b00000#5 0b000000#6
  | .dmfc1 rt fs => .reg 0b010001#6 0b00001#5 rt fs 0b00000#5 0b000000#6
  | .cfc1 rt fs => .reg 0b010001#6 0b00010#5 rt fs 0b00000#5 0b000000#6
  | .mtc1 rt fs => .reg 0b010001#6 0b00100#5 rt fs 0b00000#5 0b000000#6
  | .dmtc1 rt fs => .reg 0b010001#6 0b00101#5 rt fs 0b00000#5 0b000000#6
  | .ctc1 rt fs => .reg 0b010001#6 0b00110#5 rt fs 0b00000#5 0b000000#6
  | .addS ft fs fd => .reg 0b010001#6 0b10000#5 ft fs fd 0b000000#6
  | .subS ft fs fd => .reg 0b010001#6 0b10000#5 ft fs fd 0b000001#6
  | .mulS ft fs fd => .reg 0b010001#6 0b10000#5 ft fs fd 0b000010#6
  | .divS ft fs fd => .reg 0b010001#6 0b10000#5 ft fs fd 0b000011#6
  | .sqrtS fs fd => .reg 0b010001#6 0b10000#5 0b00000#5 fs fd 0b000100#6
  | .absS fs fd => .reg 0b010001#6 0b10000#5 0b00000#5 fs fd 0b000101#6
  | .movS fs fd => .reg 0b010001#6 0b10000#5 0b00000#5 fs fd 0b000110#6
  | .negS fs fd => .reg 0b010001#6 0b10000#5 0b00000#5 fs fd 0b000111#6
  | .recipS fs fd => .reg 0b010001#6 0b10000#5 0b00000#5 fs fd 0b010101#6
  | .rsqrtS fs fd => .reg 0b010001#6 0b10000#5 0b00000#5 fs fd 0b010110#6
  | .roundLS fs fd => .reg 0b010001#6 0b10000#5 0b00000#5 fs fd 0b001000#6
  | .truncLS fs fd => .reg 0b010001#6 0b10000#5 0b00000#5 fs fd 0b001001#6
  | .ceilLS fs fd => .reg 0b010001#6 0b10000#5 0b00000#5 fs fd 0b001010#6
  | .floorLS fs fd => .reg 0b010001#6 0b10000#5 0b00000#5 fs fd 0b001011#6
  | .roundWS fs fd => .reg 0b010001#6 0b10000#5 0b00000#5 fs fd 0b001100#6
  | .truncWS fs fd => .reg 0b010001#6 0b10000#5 0b00000#5 fs fd 0b001101#6
  | .ceilWS fs fd => .reg 0b010001#6 0b10000#5 0b00000#5 fs fd 0b001110#6
  | .floorWS fs fd => .reg 0b010001#6 0b10000#5 0b00000#5 fs fd 0b001111#6
  | .cvtWS fs fd => .reg 0b010001#6 0b10000#5 0b00000#5 fs fd 0b100100#6
  | .cvtLS fs fd => .reg 0b010001#6 0b10000#5 0b00000#5 fs fd 0b100101#6
  | .movfS cc fs fd => .reg 0b010001#6 0b10000#5 (cc ++ 0b00#2) fs fd 0b010001#6
  | .movtS cc fs fd => .reg 0b010001#6 0b10000#5 (cc ++ 0b01#2) fs fd 0b010001#6
  | .movzS rt fs fd => .reg 0b010001#6 0b10000#5 rt fs fd 0b010010#6
  | .movnS rt fs fd => .reg 0b010001#6 0b10000#5 rt fs fd 0b010011#6
  | .addD ft fs fd => .reg 0b010001#6 0b10001#5 ft fs fd 0b000000#6
  | .subD ft fs fd => .reg 0b010001#6 0b10001#5 ft fs fd 0b000001#6
  | .mulD ft fs fd => .reg 0b010001#6 0b10001#5 ft fs fd 0b000010#6
  | .divD ft fs fd => .reg 0b010001#6 0b10001#5 ft fs fd 0b000011#6
  | .sqrtD fs fd => .reg 0b010001#6 0b10001#5 0b00000#5 fs fd 0b000100#6
  | .absD fs fd => .reg 0b010001#6 0b10001#5 0b00000#5 fs fd 0b000101#6
  | .movD fs fd => .reg 0b010001#6 0b10001#5 0b00000#5 fs fd 0b000110#6
  | .negD fs fd => .reg 0b010001#6 0b10001#5 0b00000#5 fs fd 0b000111#6
  | .recipD fs fd => .reg 0b010001#6 0b10001#5 0b00000#5 fs fd 0b010101#6
  | .rsqrtD fs fd => .reg 0b010001#6 0b10001#5 0b00000#5 fs fd 0b010110#6
  | .roundLD fs fd => .reg 0b010001#6 0b10001#5 0b00000#5 fs fd 0b001000#6
  | .truncLD fs fd => .reg 0b010001#6 0b10001#5 0b00000#5 fs fd 0b001001#6
  | .ceilLD fs fd => .reg 0b010001#6 0b10001#5 0b00000#5 fs fd 0b001010#6
  | .floorLD fs fd => .reg 0b010001#6 0b10001#5 0b00000#5 fs fd 0b001011#6
  | .roundWD fs fd => .reg 0b010001#6 0b10001#5 0b00000#5 fs fd 0b001100#6
  | .truncWD fs fd => .reg 0b010001#6 0b10001#5 0b00000#5 fs fd 0b001101#6
  | .ceilWD fs fd => .reg 0b010001#6 0b10001#5 0b00000#5 fs fd 0b001110#6
  | .floorWD fs fd => .reg 0b010001#6 0b10001#5 0b00000#5 fs fd 0b001111#6
  | .cvtWD fs fd => .reg 0b010001#6 0b10001#5 0b00000#5 fs fd 0b100100#6
  | .cvtLD fs fd => .reg 0b010001#6 0b10001#5 0b00000#5 fs fd 0b100101#6
  | .movfD cc fs fd => .reg 0b010001#6 0b10001#5 (cc ++ 0b00#2) fs fd 0b010001#6
  | .movtD cc fs fd => .reg 0b010001#6 0b10001#5 (cc ++ 0b01#2) fs fd 0b010001#6
  | .movzD rt fs fd => .reg 0b010001#6 0b10001#5 rt fs fd 0b010010#6
  | .movnD rt fs fd => .reg 0b010001#6 0b10001#5 rt fs fd 0b010011#6
  | .cvtSD fs fd => .reg 0b010001#6 0b10001#5 0b00000#5 fs fd 0b100000#6
  | .cvtSW fs fd => .reg 0b010001#6 0b10100#5 0b00000#5 fs fd 0b100000#6
  | .cvtSL fs fd => .reg 0b010001#6 0b10101#5 0b00000#5 fs fd 0b100000#6
  | .cvtDS fs fd => .reg 0b010001#6 0b10000#5 0b00000#5 fs fd 0b100001#6
  | .cvtDW fs fd => .reg 0b010001#6 0b10100#5 0b00000#5 fs fd 0b100001#6
  | .cvtDL fs fd => .reg 0b010001#6 0b10101#5 0b00000#5 fs fd 0b100001#6
  | .cFS ft fs cc => .reg 0b010001#6 0b10000#5 ft fs (cc ++ 0b00#2) 0b110000#6
  | .cFD ft fs cc => .reg 0b010001#6 0b10001#5 ft fs (cc ++ 0b00#2) 0b110000#6
  | .cUnS ft fs cc => .reg 0b010001#6 0b10000#5 ft fs (cc ++ 0b00#2) 0b110001#6
  | .cUnD ft fs cc => .reg 0b010001#6 0b10001#5 ft fs (cc ++ 0b00#2) 0b110001#6
  | .cEqS ft fs cc => .reg 0b010001#6 0b10000#5 ft fs (cc ++ 0b00#2) 0b110010#6
  | .cEqD ft fs cc => .reg 0b010001#6 0b10001#5 ft fs (cc ++ 0b00#2) 0b110010#6
  | .cUeqS ft fs cc => .reg 0b010001#6 0b10000#5 ft fs (cc ++ 0b00#2) 0b110011#6
  | .cUeqD ft fs cc => .reg 0b010001#6 0b10001#5 ft fs (cc ++ 0b00#2) 0b110011#6
  | .cOltS ft fs cc => .reg 0b010001#6 0b10000#5 ft fs (cc ++ 0b00#2) 0b110100#6
  | .cOltD ft fs cc => .reg 0b010001#6 0b10001#5 ft fs (cc ++ 0b00#2) 0b110100#6
  | .cUltS ft fs cc => .reg 0b010001#6 0b10000#5 ft fs (cc ++ 0b00#2) 0b110101#6
  | .cUltD ft fs cc => .reg 0b010001#6 0b10001#5 ft fs (cc ++ 0b00#2) 0b110101#6
  | .cOleS ft fs cc => .reg 0b010001#6 0b10000#5 ft fs (cc ++ 0b00#2) 0b110110#6
  | .cOleD ft fs cc => .reg 0b010001#6 0b10001#5 ft fs (cc ++ 0b00#2) 0b110110#6
  | .cUleS ft fs cc => .reg 0b010001#6 0b10000#5 ft fs (cc ++ 0b00#2) 0b110111#6
  | .cUleD ft fs cc => .reg 0b010001#6 0b10001#5 ft fs (cc ++ 0b00#2) 0b110111#6
  | .cSfS ft fs cc => .reg 0b010001#6 0b10000#5 ft fs (cc ++ 0b00#2) 0b111000#6
  | .cSfD ft fs cc => .reg 0b010001#6 0b10001#5 ft fs (cc ++ 0b00#2) 0b111000#6
  | .cNgleS ft fs cc => .reg 0b010001#6 0b10000#5 ft fs (cc ++ 0b00#2) 0b111001#6
  | .cNgleD ft fs cc => .reg 0b010001#6 0b10001#5 ft fs (cc ++ 0b00#2) 0b111001#6
  | .cSeqS ft fs cc => .reg 0b010001#6 0b10000#5 ft fs (cc ++ 0b00#2) 0b111010#6
  | .cSeqD ft fs cc => .reg 0b010001#6 0b10001#5 ft fs (cc ++ 0b00#2) 0b111010#6
  | .cNglS ft fs cc => .reg 0b010001#6 0b10000#5 ft fs (cc ++ 0b00#2) 0b111011#6
  | .cNglD ft fs cc => .reg 0b010001#6 0b10001#5 ft fs (cc ++ 0b00#2) 0b111011#6
  | .cLtS ft fs cc => .reg 0b010001#6 0b10000#5 ft fs (cc ++ 0b00#2) 0b111100#6
  | .cLtD ft fs cc => .reg 0b010001#6 0b10001#5 ft fs (cc ++ 0b00#2) 0b111100#6
  | .cNgeS ft fs cc => .reg 0b010001#6 0b10000#5 ft fs (cc ++ 0b00#2) 0b111101#6
  | .cNgeD ft fs cc => .reg 0b010001#6 0b10001#5 ft fs (cc ++ 0b00#2) 0b111101#6
  | .cLeS ft fs cc => .reg 0b010001#6 0b10000#5 ft fs (cc ++ 0b00#2) 0b111110#6
  | .cLeD ft fs cc => .reg 0b010001#6 0b10001#5 ft fs (cc ++ 0b00#2) 0b111110#6
  | .cNgtS ft fs cc => .reg 0b010001#6 0b10000#5 ft fs (cc ++ 0b00#2) 0b111111#6
  | .cNgtD ft fs cc => .reg 0b010001#6 0b10001#5 ft fs (cc ++ 0b00#2) 0b111111#6
  | .maddS fr ft fs fd => .reg 0b010011#6 fr ft fs fd 0b100000#6
  | .maddD fr ft fs fd => .reg 0b010011#6 fr ft fs fd 0b100001#6
  | .msubS fr ft fs fd => .reg 0b010011#6 fr ft fs fd 0b101000#6
  | .msubD fr ft fs fd => .reg 0b010011#6 fr ft fs fd 0b101001#6
  | .nmaddS fr ft fs fd => .reg 0b010011#6 fr ft fs fd 0b110000#6
  | .nmaddD fr ft fs fd => .reg 0b010011#6 fr ft fs fd 0b110001#6
  | .nmsubS fr ft fs fd => .reg 0b010011#6 fr ft fs fd 0b111000#6
  | .nmsubD fr ft fs fd => .reg 0b010011#6 fr ft fs fd 0b111001#6

/-- The word of an instruction. -/
def encode (i : Instr) : Word := (encodeFields i).toWord

end

end Sys2Proof
end

