-- ==== Sys2Proof/Machine/Bits.lean ====
section
/-! DEFINITION. Bit-field helpers: extension, insertion of a field, parity, population count, byte-lane masks. -/

namespace Sys2Proof.Machine

/-- `sext_64` of an immediate or offset (R15). -/
def sext16 (i : BitVec 16) : DWord := i.signExtend 64

/-- `zext_64` of an immediate. -/
def zext16 (i : BitVec 16) : DWord := i.setWidth 64

/-- `sext_64` of a word (R32). -/
def sext32 (w : Word) : DWord := w.signExtend 64

/-- `0^32 || w` (R38). -/
def zext32 (w : Word) : DWord := w.setWidth 64

/-- Bits 31:0. -/
def low32 (v : DWord) : Word := v.extractLsb' 0 32

/-- Bits 63:32. -/
def high32 (v : DWord) : Word := v.extractLsb' 32 32

/-- `not NotWord(v)`: v is a sign-extended 32-bit value (R702). -/
def isWord (v : DWord) : Bool := v == sext32 (low32 v)

/-- A Bool as a register value: 1 or 0. -/
def boolD (b : Bool) : DWord := if b then 1#64 else 0#64

/-- `new` where the mask is one, `old` elsewhere. -/
def mergeMask {n : Nat} (mask old new : BitVec n) : BitVec n := (old &&& ~~~mask) ||| (new &&& mask)

/-- Replace the `m` bits of `v` from bit `lo` up by `f`. -/
def putField {n m : Nat} (v : BitVec n) (lo : Nat) (f : BitVec m) : BitVec n :=
  mergeMask (((BitVec.allOnes m).setWidth n) <<< lo) v ((f.setWidth n) <<< lo)

/-- Replace one bit. -/
def putBit {n : Nat} (v : BitVec n) (i : Nat) (b : Bool) : BitVec n := putField v i (BitVec.ofBool b)

/-- Number of ones among the low `k` bits. -/
def onesUpTo {n : Nat} (v : BitVec n) : Nat → Nat
  | 0 => 0
  | k + 1 => (if v.getLsbD k then 1 else 0) + onesUpTo v k

/-- Number of ones. -/
def popCount {n : Nat} (v : BitVec n) : Nat := onesUpTo v n

/-- Even parity bit: the XOR of the bits (R300). -/
def parityBit {n : Nat} (v : BitVec n) : Bool := popCount v % 2 == 1

/-- Even parity of each byte of a word, bit k for bits 8k+7..8k (R300). -/
def byteParity (w : Word) : BitVec 4 :=
  BitVec.ofBool (parityBit (w.extractLsb' 24 8)) ++ BitVec.ofBool (parityBit (w.extractLsb' 16 8)) ++
    BitVec.ofBool (parityBit (w.extractLsb' 8 8)) ++ BitVec.ofBool (parityBit (w.extractLsb' 0 8))

/-- The byte mask of one lane bit. -/
def laneByte (b : Bool) : Byte := if b then 0xFF#8 else 0x00#8

/-- The 64-bit mask of eight byte lanes; lane k is bits 8k+7..8k (R230). -/
def laneMask (l : BitVec 8) : DWord :=
  laneByte (l.getLsbD 7) ++ laneByte (l.getLsbD 6) ++ laneByte (l.getLsbD 5) ++ laneByte (l.getLsbD 4) ++
    laneByte (l.getLsbD 3) ++ laneByte (l.getLsbD 2) ++ laneByte (l.getLsbD 1) ++ laneByte (l.getLsbD 0)

/-- Byte lane k of a doubleword. -/
def laneOf (d : DWord) (k : Nat) : Byte := d.extractLsb' (8 * k) 8

end Sys2Proof.Machine
end

