-- ==== Sys2Proof/Config.lean ====
section
/-! DEFINITION. What one part or one system fixes (spec/92_eei_decisions.md section 2, spec/70 R1160), and the free values:
opaque constants without a body, so that nothing can be proved of them, applied to the counter `State.ctr` that every step
advances (a fresh value for each use) or to the operands. notes/assumptions/7.md. -/

namespace Sys2Proof.Config

/-! ## Parameters of the part -/

/-- PRId.Rev: "not defined here" (R121). -/
opaque pridRev : BitVec 8

/-- FCR0.Rev: "not defined here" (R46). -/
opaque fcr0Rev : BitVec 8

/-- The mode bits a Cold Reset latches (R1160), with the values of D4: Kseg0CA 3, PrcReqMax 3, MemEnd 1 (big endian), and
SysClkDiv and SCClkDiv 1, whose value 0 is reserved. notes/assumptions/3.md. -/
def resetModeBits : DWord := 3#64 ||| (3#64 <<< 7) ||| (1#64 <<< 9) ||| (1#64 <<< 15) ||| (1#64 <<< 19)

/-! ## Undefined results of integer instructions -/

/-- The destination of a 32-bit operation on a value that is not a sign-extended word (R702, I16). -/
opaque notWordResult : Nat → DWord
/-- HI in that case (R702). -/
opaque notWordHi : Nat → DWord
/-- LO in that case (R702). -/
opaque notWordLo : Nat → DWord
/-- HI after a division by zero or an overflowing division (R752, R753, R756, R757, I17). -/
opaque divideHi : Nat → DWord
/-- LO in that case. -/
opaque divideLo : Nat → DWord
/-- Bits 63:32 after LWL or LWR that does not load bit 31 into a register that held no sign-extended word (R821, I18). -/
opaque partWordUpper : Nat → BitVec 32

/-! ## CP0 -/

/-- What the counter Random holds, before it is brought into [Wired, 63] (R84, D10). -/
opaque randomDraw : Nat → BitVec 6
/-- How many times Count is incremented between two instructions (R1087, D36). -/
opaque countTicks : Nat → BitVec 32
/-- Whether the comparison sets TimerIP again in the period in which Compare is written with Count's value (R1088, I32). -/
opaque timerRearm : Nat → Bool
/-- Occurrences of an event that depends on the microarchitecture, for counter 0 (R1107, D37). -/
opaque perfEvents0 : Nat → BitVec 4 → BitVec 32
/-- The same for counter 1. -/
opaque perfEvents1 : Nat → BitVec 4 → BitVec 32
/-- Cause.CE after an exception other than Coprocessor Unusable (R113, I14). -/
opaque causeCe : Nat → BitVec 2
/-- Context.BadVPN2 after an Address Error (R1031, I12). -/
opaque addressErrorContext : Nat → BitVec 19
/-- XContext.R and BadVPN2 after an Address Error (R1031, I12). -/
opaque addressErrorXContext : Nat → BitVec 33
/-- EntryHi.R after an Address Error (R1031, I12). -/
opaque addressErrorRegion : Nat → BitVec 2
/-- EntryHi.VPN2 after an Address Error (R1031, I12). -/
opaque addressErrorVpn2 : Nat → BitVec 31
/-- Index[5:0] after an unsuccessful TLBP (R595, I10). -/
opaque probeIndex : Nat → BitVec 6
/-- A read of CP0 register 7, 23, 24 or 31 (R175, I6). -/
opaque undefinedCp0 : Nat → DWord
/-- What DMFC0 reads from a 32-bit register (R584, I7). -/
opaque dmfc0Narrow : Nat → DWord
/-- What DMTC0 writes into a 32-bit register (R585, I7). -/
opaque dmtc0Narrow : Nat → DWord
/-- What CFC1 reads from a control register other than 0 and 31 (R925, I41). -/
opaque undefinedFcr : Nat → DWord
/-- Diagnostic.ITLBM (R150, I47). -/
opaque diagItlbm : Nat → BitVec 4
/-- Diagnostic.BSIdx, of which as many low bits are read as `DiagLayout` says it has: R150 does not give its width. -/
opaque diagBsIdx : Nat → DWord
/-- Diagnostic.BRCV, BRCW, BRCH and MP (R150, I47). -/
opaque diagBranch : Nat → BitVec 4
/-- The new 2-bit counter of a branch that is verified under the 2-bit counter scheme (R58, R150). -/
opaque branchCounter : Nat → BitVec 2
/-- Whether the branch prediction table is updated before an MFC0 of Diagnostic reads it (R151). -/
opaque branchTableLag : Nat → Bool
/-- Which of several matching TLB entries a lookup uses (R203, I8): an index into the list of matches, modulo its length. -/
opaque tlbPick : Nat → Nat
/-- ErrorEPC after a Soft Reset: the PC is unreliable (R1153, R1155, I46). -/
opaque softResetPc : Nat → DWord
/-- ErrorEPC after a Cold Reset: any value (R1155). -/
opaque coldResetPc : Nat → DWord

/-! ## Memory and caches -/

/-- Whether the access replaces the way the LRU bit does not name (R271, I31); D-cache. -/
opaque dVictim : Nat → Bool
/-- The same for the instruction cache. -/
opaque iVictim : Nat → Bool
/-- The same for the secondary cache. -/
opaque sVictim : Nat → Bool
/-- Which way a lookup that matches both ways uses (R535 covers only CACHE operations). -/
opaque bothWays : Nat → Bool
/-- The state the external agent returns with a block (R276). -/
opaque fillState : Nat → BitVec 2
/-- Whether an uncached accelerated store that is issued by itself has the write cause 3, identical; else 2, sequential (R371 gives
it neither). -/
opaque loneIdentical : Nat → Bool
/-- Whether a Store Conditional that follows a Load Linked to an uncached address can succeed (R511, I25). -/
opaque scUncached : Nat → Bool
/-- Whether Index Load Data (D) leaves TagHi as it was; otherwise it zeroes it (R571). -/
opaque indexLoadKeepsTagHi : Nat → Bool
/-- Which column of the check matrix stands for each bit of a secondary tag; the matrix is not recoverable (R316). -/
opaque tagColumn : Nat → Nat
/-- The same for each bit of a quadword of the secondary data array. -/
opaque dataColumn : Nat → Nat
/-- The predecoder of the instruction cache, whose function the source does not give (R542). -/
opaque predecode : Word → BitVec 36

/-! ## Floating point -/

/-- FpUnimplementedOperand (R640, D29): whether the unit does not perform an operation on denormalized or NaN operands. The
arguments are the low six bits of the instruction, whether the format is D, and the operands. -/
opaque fpUnimplementedOperand : BitVec 6 → Bool → List DWord → Bool
/-- The error of RECIP, in units in the last place modulo 3 (0, +1, -1), where the exact result is not representable: "the MIPS
IV architecture allows an error of up to one" (R650, RecipExact). The arguments are whether the format is D, and the operand. -/
opaque recipError : Bool → DWord → Nat
/-- The error of RSQRT, modulo 5 (0, +1, -1, +2, -2): up to two units (R650). -/
opaque rsqrtError : Bool → DWord → Nat
/-- Which of two NaN operands is delivered (R650). -/
opaque nanChoice : Nat → Bool
/-- The fraction of the quiet NaN a conversion between S and D delivers (R650); S. -/
opaque nanFractionS : Nat → BitVec 22
/-- The same for D. -/
opaque nanFractionD : Nat → BitVec 51
/-- The sign of that NaN. -/
opaque nanSign : Nat → Bool

/-! ## JTAG and cache test mode -/

/-- The value captured into the JTAG instruction register (R1133, I33). -/
opaque jtagCaptureIr : Nat → BitVec 4
/-- What the direction cell of the boundary register captures (R1135). -/
opaque jtagCaptureDirection : Nat → Bool
/-- Unused fields of a cache test mode read: "read as 'undefined'" (R1205). -/
opaque ctmUnused : Nat → BitVec 40
/-- JTDO, SysUncErr* and SysCorErr* in cache test mode: "any output signals not listed above are undefined" (R1201). -/
opaque ctmOutputs : Nat → BitVec 3

end Sys2Proof.Config
end

