-- ==== Sys2Proof/Machine/Sparse.lean ====
section
/-! DEFINITION. Sparse maps from Nat to data, in one canonical form: keys strictly rising, no entry equal to the value an
unlisted key reads as. Memory and every cache array are kept in it, so that equal contents are equal data. -/

namespace Sys2Proof.Machine

/-- A list of (key, value) pairs; the canonical form is `Sparse.wf`. -/
abbrev Sparse (α : Type) := List (Nat × α)

/-- The value at a key; `d` where nothing is listed. -/
def Sparse.get {α : Type} (d : α) : Sparse α → Nat → α
  | [], _ => d
  | (k, v) :: m, a => if a = k then v else if a < k then d else Sparse.get d m a

/-- Put an entry at its place, replacing the one that stands there. -/
def Sparse.insert {α : Type} : Sparse α → Nat → α → Sparse α
  | [], a, x => [(a, x)]
  | (k, v) :: m, a, x =>
    if a = k then (a, x) :: m else if a < k then (a, x) :: (k, v) :: m else (k, v) :: Sparse.insert m a x

/-- Take away the entry at a key. -/
def Sparse.erase {α : Type} : Sparse α → Nat → Sparse α
  | [], _ => []
  | (k, v) :: m, a => if a = k then m else if a < k then (k, v) :: m else (k, v) :: Sparse.erase m a

/-- Write a value at a key, keeping the canonical form: the value an unlisted key reads as is not listed. -/
def Sparse.set {α : Type} [DecidableEq α] (d : α) (m : Sparse α) (a : Nat) (x : α) : Sparse α :=
  if x = d then Sparse.erase m a else Sparse.insert m a x

/-- Every key of the map is above `a`. -/
def Sparse.above {α : Type} (a : Nat) : Sparse α → Bool
  | [] => true
  | (k, _) :: _ => decide (a < k)

/-- The canonical form. -/
def Sparse.wf {α : Type} [DecidableEq α] (d : α) : Sparse α → Bool
  | [] => true
  | (k, v) :: m => decide (v ≠ d) && Sparse.above k m && Sparse.wf d m

end Sys2Proof.Machine
end

