-- ==== Sys2Proof/Machine/State.lean ====
section
/-! DEFINITION. The state of the machine: every piece of state the spec gives it (spec/10_state.md), as plain data. What the
model adds for itself is said to be the model's own. Layouts of the CP0 registers: spec/11; TLB entry: spec/20 R195; cache
arrays: spec/21 R262 to R284. Reset: R70, R1150; a value the spec leaves undefined is named in notes/assumptions/1.md. -/

namespace Sys2Proof.Machine

/-! ## Registers -/

/-- Integer registers (R30, R33). `gpr[0]` is never read nor written (R31): `State.gpr` and `State.setGpr` see to it. -/
structure IntRegs where
  /-- the general registers, R30 -/
  gpr : Vector DWord 32
  /-- HI, R33 -/
  hi : DWord
  /-- LO, R33 -/
  lo : DWord
  deriving DecidableEq, Repr

/-- The branch-delay state (R35, R861): whether the next instruction stands in a delay slot, and where control goes after it
(none: the branch was not taken). -/
inductive Delay where
  /-- the next instruction is in no delay slot -/
  | none
  /-- it is in the slot of the branch at pc - 4 -/
  | slot (target : Option DWord)
  deriving DecidableEq, Repr

/-- Floating-point registers (R36) and FCR31, the FSR (R47). FCR0 is a constant (R46). -/
structure FpRegs where
  /-- the floating-point general registers, R36 -/
  fpr : Vector DWord 32
  /-- FCR31, R47 -/
  fsr : Word
  deriving DecidableEq, Repr

/-- The load link (R50). `uncached` is the model's own: the link was set by an LL or LLD to an uncached address, after which
the outcome of an SC is not specified (I25). -/
structure Link where
  /-- LLbit, R50 -/
  bit : Bool
  /-- LLblock, R50 -/
  block : PAddr
  /-- the model's own -/
  uncached : Bool
  deriving DecidableEq, Repr

/-- The CP0 registers that software reads and writes as words (R51), and the stored pieces of Cause (R113) and of Diagnostic
(R150). Reserved bits hold zero. PRId is a constant (R121); Config is the mode bits but for K0 (R124). -/
structure Cp0 where
  /-- Index (0), R82 -/
  index : Word
  /-- Random (1), bits 5:0, R84: 63 after reset and a write of Wired, then free within [Wired, 63] -/
  random : BitVec 6
  /-- EntryLo0 (2), R86 -/
  entryLo0 : DWord
  /-- EntryLo1 (3), R86 -/
  entryLo1 : DWord
  /-- Context (4), R90 -/
  context : DWord
  /-- PageMask (5), R92 -/
  pageMask : Word
  /-- Wired (6), bits 5:0, R94 -/
  wired : BitVec 6
  /-- BadVAddr (8), R96 -/
  badVAddr : DWord
  /-- Count (9), R98 -/
  count : Word
  /-- EntryHi (10), R101 -/
  entryHi : DWord
  /-- Compare (11), R99 -/
  compare : Word
  /-- Status (12), R105 -/
  status : Word
  /-- Cause.BD, R113 -/
  causeBd : Bool
  /-- Cause.CE, R113 -/
  causeCe : BitVec 2
  /-- Cause.IP[1:0], R1085 -/
  causeIpSw : BitVec 2
  /-- Cause.ExcCode, R114 -/
  causeCode : BitVec 5
  /-- EPC (14), R117 -/
  epc : DWord
  /-- Config.K0, R124 -/
  k0 : BitVec 3
  /-- LLAddr (17), R128 -/
  llAddr : Word
  /-- WatchLo (18), R130 -/
  watchLo : Word
  /-- WatchHi (19), R130 -/
  watchHi : Word
  /-- XContext (20), R134 -/
  xContext : DWord
  /-- FrameMask (21), R138 -/
  frameMask : Word
  /-- Diagnostic.DBRC, R150 -/
  diagDbrc : Bool
  /-- Diagnostic.BPMode, R150 -/
  diagBpMode : BitVec 2
  /-- Diagnostic.BPState, R150 -/
  diagBpState : BitVec 2
  /-- Diagnostic.BPIdx, R150 -/
  diagBpIdx : BitVec 9
  /-- Diagnostic.BPOp, R150 -/
  diagBpOp : BitVec 2
  /-- a read of the branch prediction table has been started and has not reached Diagnostic.BPState, R151 -/
  diagPending : Bool
  /-- ECC (26), R158 -/
  ecc : Word
  /-- CacheErr (27), R160 -/
  cacheErr : Word
  /-- TagLo (28), R165 -/
  tagLo : Word
  /-- TagHi (29), R165 -/
  tagHi : Word
  /-- ErrorEPC (30), R170 -/
  errorEpc : DWord
  deriving DecidableEq, Repr

/-- The performance counters and their control registers (R59, R1100 to R1102). -/
structure Perf where
  /-- PerfCtl[0] -/
  ctl0 : Word
  /-- PerfCtl[1] -/
  ctl1 : Word
  /-- PerfCnt[0] -/
  cnt0 : Word
  /-- PerfCnt[1] -/
  cnt1 : Word
  deriving DecidableEq, Repr

/-! ## TLB -/

/-- One page of a TLB entry (R195). -/
structure TlbPage where
  /-- uncached attribute -/
  uc : BitVec 2
  /-- page frame number, PA[39:12] -/
  pfn : BitVec 28
  /-- cache algorithm -/
  c : BitVec 3
  /-- writable -/
  d : Bool
  /-- valid -/
  v : Bool
  deriving DecidableEq, Repr

/-- A TLB entry (R52, R195). `dead` is set when a TLB write invalidates the entry (R207, D24). -/
structure TlbEntry where
  /-- MASK, R195 -/
  mask : BitVec 12
  /-- R, R195 -/
  r : BitVec 2
  /-- VPN2, R195 -/
  vpn2 : BitVec 31
  /-- G, R195 -/
  g : Bool
  /-- ASID, R195 -/
  asid : BitVec 8
  /-- the even page -/
  even : TlbPage
  /-- the odd page -/
  odd : TlbPage
  /-- matches nothing until rewritten -/
  dead : Bool
  deriving DecidableEq, Repr

/-! ## Caches (R53) -/

/-- The state of a primary data or secondary block (R266, R275), in the order of its encoding. -/
inductive BlockState where
  /-- 00 -/
  | invalid
  /-- 01 -/
  | shared
  /-- 10 -/
  | cleanExclusive
  /-- 11 -/
  | dirtyExclusive
  deriving DecidableEq, Repr

/-- Tag of a primary instruction cache block (R262, R300). -/
structure ITag where
  /-- PA[39:12] -/
  tag : BitVec 28
  /-- Valid -/
  valid : Bool
  /-- TP -/
  tagParity : Bool
  /-- SP -/
  stateParity : Bool
  deriving DecidableEq, Repr

/-- The 36 bits of a word of the instruction cache (R542): the predecoded form of a word, or bits that Index Store Data (I)
put there. -/
inductive IBits where
  /-- the predecoded form of this word -/
  | plain (w : Word)
  /-- bits stored by software -/
  | raw (b : BitVec 36)
  deriving DecidableEq, Repr

/-- A word of the instruction cache with its parity bit (R300): `none` is the right parity, which a refill writes. -/
structure IWord where
  /-- the word -/
  bits : IBits
  /-- the parity bit software stored -/
  parity : Option Bool
  deriving DecidableEq, Repr

/-- Tag of a primary data cache block (R265 to R267, R300, R301). -/
structure DTag where
  /-- PA[39:12] -/
  tag : BitVec 28
  /-- PState -/
  state : BlockState
  /-- StateMod -/
  mod : BitVec 3
  /-- SCWay -/
  scWay : Bool
  /-- TP -/
  tagParity : Bool
  /-- SP -/
  stateParity : Bool
  deriving DecidableEq, Repr

/-- A word of the data cache with its four byte-parity bits (R300). -/
structure DLine where
  /-- the word -/
  data : Word
  /-- byte parity -/
  parity : BitVec 4
  deriving DecidableEq, Repr

/-- Check bits of the secondary cache (R302, R303): the right ones, which the hardware generates, or bits software stored. -/
inductive Check (n : Nat) where
  /-- generated by the hardware -/
  | good
  /-- stored by a CACHE instruction -/
  | given (b : BitVec n)
  deriving DecidableEq, Repr

/-- A secondary cache tag (R277). -/
structure STag where
  /-- PA[39:18] -/
  tag : BitVec 22
  /-- PIdx, VA[13:12] -/
  pidx : BitVec 2
  /-- state -/
  state : BlockState
  /-- SCTagChk -/
  ecc : Check 7
  deriving DecidableEq, Repr

/-- A quadword of the secondary cache data array (R280, R303). -/
structure SQuad where
  /-- the data -/
  data : QWord
  /-- SCDataChk: parity in bit 9, ECC in bits 8:0 -/
  check : Check 10
  deriving DecidableEq, Repr

/-- What an entry of the instruction cache tag array holds after reset (notes/assumptions/5.md). -/
def ITag.default : ITag := ⟨0, false, false, false⟩
/-- What a word of the instruction cache holds after reset. -/
def IWord.default : IWord := ⟨.plain 0, none⟩
/-- What an entry of the data cache tag array holds after reset: Invalid, StateMod Normal. -/
def DTag.default : DTag := ⟨0, .invalid, 0b001#3, false, false, false⟩
/-- What a word of the data cache holds after reset. -/
def DLine.default : DLine := ⟨0, 0⟩
/-- What an entry of the secondary tag array holds after reset. -/
def STag.default : STag := ⟨0, 0, .invalid, .good⟩
/-- What a quadword of the secondary cache holds after reset. -/
def SQuad.default : SQuad := ⟨0, .good⟩

/-- The cache arrays. Keys: a block of way w and set s is entry 2 s + w; its k-th word (quadword) is entry
`(2 s + w) * n + k`, with n words (quadwords) to the block. -/
structure Caches where
  /-- instruction tags, 2 x 256, R262 -/
  iTag : Sparse ITag
  /-- instruction words, 2 x 256 x 16, R262 -/
  iData : Sparse IWord
  /-- instruction LRU bits, 256, R262 -/
  iLru : Sparse Bool
  /-- data tags, 2 x 512, R265 -/
  dTag : Sparse DTag
  /-- data words, 2 x 512 x 8, R265 -/
  dData : Sparse DLine
  /-- data LRU bits, 512, R265 -/
  dLru : Sparse Bool
  /-- secondary tags, R277 -/
  sTag : Sparse STag
  /-- secondary quadwords, R280 -/
  sData : Sparse SQuad
  /-- way prediction table, 8192 x 1, R281 -/
  sMru : Sparse Bool
  /-- the model's own: 36-bit values that were read from the instruction cache as the predecoded form of a word, each with its
  word, newest first; these values alone mean an instruction when software stores them back (R573, I43) -/
  predecoded : List (BitVec 36 × Word)
  deriving DecidableEq, Repr

/-! ## Pending events and the System interface -/

/-- A unit's local CacheErr register (R308, R1025): the image CacheErr is loaded with (its EW bit included), and whether a
Cache Error exception is posted. -/
structure LocalErr where
  /-- the register -/
  info : Word
  /-- posted and not yet taken -/
  posted : Bool
  deriving DecidableEq, Repr

/-- Interrupt and pending-event state (R54, R55). -/
structure Pending where
  /-- the Interrupt register, R54 -/
  interrupt : BitVec 5
  /-- WatchPending, R1056 -/
  watch : Bool
  /-- TimerIP, R1088 -/
  timer : Bool
  /-- NMIPending, R1154 -/
  nmi : Bool
  /-- SoftResetPending, R1153 -/
  softReset : Bool
  /-- a Cold Reset with the mode bits driven during it, R1150 -/
  coldReset : Option DWord
  /-- instruction cache unit -/
  iErr : LocalErr
  /-- data cache unit -/
  dErr : LocalErr
  /-- secondary cache unit -/
  sErr : LocalErr
  /-- System interface unit -/
  siErr : LocalErr
  /-- the model's own: at how many instruction boundaries in a row an interrupt has been due, R1006 (InterruptLatency) -/
  waited : Nat
  deriving DecidableEq, Repr

/-- An uncached accelerated store held in the gatherer (R345): where it goes, how many bytes, its data. -/
structure Gathered where
  /-- the aligned address of the doubleword -/
  base : PAddr
  /-- which byte lanes -/
  lanes : BitVec 8
  /-- the doubleword, lane by lane -/
  data : DWord
  deriving DecidableEq, Repr

/-- The gathering automaton of the uncached buffer (R345); `data` is oldest first. -/
inductive Gather where
  /-- nothing is gathered -/
  | idle
  /-- one block-aligned store -/
  | one (base : PAddr) (attr : BitVec 2) (size : Nat) (data : List Gathered)
  /-- sequential mode, next address `next`, `bytes` bytes gathered -/
  | seq (attr : BitVec 2) (next : PAddr) (bytes : Nat) (data : List Gathered)
  /-- identical mode -/
  | ident (addr : PAddr) (attr : BitVec 2) (bytes : Nat) (data : List Gathered)
  deriving DecidableEq, Repr

/-- An entry of the gatherer that is ready for issue (R345): the doublewords of one request, or of the disjoint requests of a block
that was not gathered completely. -/
structure Buffered where
  /-- they come from uncached accelerated stores -/
  accelerated : Bool
  /-- a completely gathered block: one block write request -/
  whole : Bool
  /-- the write cause, R371 -/
  cause : BitVec 2
  /-- the uncached attribute -/
  attr : BitVec 2
  /-- oldest first -/
  data : List Gathered
  deriving DecidableEq, Repr

/-- An uncached store in the FIFO of the uncached buffer (R345). -/
structure UncachedStore where
  /-- its algorithm is uncached accelerated -/
  accelerated : Bool
  /-- its physical address, inverted as R231 says -/
  pa : PAddr
  /-- its uncached attribute -/
  attr : BitVec 2
  /-- the size of a singleword or doubleword store, which alone can be gathered (R220) -/
  size : Option Nat
  /-- its data -/
  data : Gathered
  deriving DecidableEq, Repr

/-- What an entry of the outgoing buffer is (R344, R401). -/
inductive OutgoingKind where
  /-- a typical entry: a block write request -/
  | write
  /-- a typical entry that an intervention changed into a coherency data response, whose data begin at the quadword named -/
  | converted (first : PAddr)
  /-- the special entry: the coherency data response of an intervention, with the state it carries (R397) -/
  | special (state : BlockState) (first : PAddr)
  deriving DecidableEq, Repr

/-- An entry of the outgoing buffer (R344). -/
structure Outgoing where
  /-- what it is -/
  kind : OutgoingKind
  /-- the address of the secondary block -/
  pa : PAddr
  /-- the secondary cache block way -/
  way : Bool
  /-- the quadwords, in address order, each with its Uncorrectable Error flag -/
  quads : List (QWord × Bool)
  deriving DecidableEq, Repr

/-- An uncached read, a write request or a coherency response that the processor has put on the System interface (R440:
`UncachedRead`, `UncachedWrite`; R350, R357, R359, R361, R396, R397). The size of a single write is the number of its byte lanes. -/
inductive BusEvent where
  /-- typical block write: address, way, quadwords with their data quality -/
  | block (pa : PAddr) (way : Bool) (quads : List (QWord × Bool))
  /-- block write of a completely gathered uncached accelerated block -/
  | gathered (pa : PAddr) (cause attr : BitVec 2) (data : List Gathered)
  /-- double, single or partial-word write -/
  | single (pa : PAddr) (cause attr : BitVec 2) (data : Gathered)
  /-- coherency state response: the former state of the block, SysState[1:0], and the tag quality, SysState[2] (R396) -/
  | stateResponse (former : BlockState) (tagError : Bool)
  /-- coherency data response (R397): the quadword-aligned address at which the data begin, the state of the block, SysCmd[2:1], and the
  quadwords in the order they are sent (R352) with their data quality, SysCmd[5] -/
  | response (pa : PAddr) (state : BlockState) (quads : List (QWord × Bool))
  /-- double, single or partial-word read of `size` bytes -/
  | read (pa : PAddr) (size : Nat) (attr : BitVec 2)
  deriving DecidableEq, Repr

/-- A completion response of the external agent (R380, R388). -/
inductive Completion where
  /-- successful -/
  | ack
  /-- not accepted: the request is made again -/
  | nack
  /-- unsuccessful: Bus Error -/
  | err
  /-- SysResp parity error: the response is lost (R308, R313) -/
  | parity
  /-- the Reserved indication: the response is ignored (R315) -/
  | reserved
  deriving DecidableEq, Repr

/-- An external data response to a read or upgrade request (R343, R385, R386). -/
structure DataResponse where
  /-- the cache block state of block data; none: one that the agent does not say -/
  state : Option (BitVec 2)
  /-- the doubleword of an uncached read; none: what memory holds -/
  word : Option DWord
  /-- Uncorrectable Error flags of the incoming buffer, bit k for doubleword k of the block in address order -/
  bad : BitVec 16
  /-- a data cycle had a correctable error, R312 -/
  fixed : Bool
  deriving DecidableEq, Repr

/-- One answer of the external agent to an outstanding read or upgrade request: a completion response, and the last of the data responses
that came since the answer before it, if any did (R343, R384, R388). -/
structure Reply where
  /-- the completion response -/
  completion : Completion
  /-- the data response; it stays in the incoming buffer if the completion response is lost or ignored -/
  data : Option DataResponse
  deriving DecidableEq, Repr

/-- System interface state an instruction can show (R56): the uncached buffer, the mode bits (R57), the pins of R331 that an
instruction waits for or pulses, and what the external agent will answer (the environment's own, notes/assumptions/41.md). -/
structure Bus where
  /-- the gatherer entry that gathers, R345 -/
  gather : Gather
  /-- gatherer entries that are ready for issue and wait for SysWrRdy*, oldest first, R345 -/
  ready : List Buffered
  /-- the mode bits, R1160 -/
  modeBits : DWord
  /-- doubleword addresses that answer ERR -/
  errAddrs : List Nat
  /-- the FIFO before the gatherer, oldest first, R345 -/
  fifo : List UncachedStore
  /-- SysWrRdy* is asserted, R331 -/
  wrRdy : Bool
  /-- SysGblPerf* is asserted, R412 -/
  gblPerf : Bool
  /-- the answers to the next requests, in order; without one a request is ACKed, or answered ERR by `errAddrs` -/
  replies : List Reply
  /-- the processor hangs: an uncached read lost its completion response, R313 -/
  hung : Bool
  /-- SysCorErr* is pulsed by this step, R305 -/
  corErr : Bool
  /-- SysUncErr* is pulsed by this step, R306 -/
  uncErr : Bool
  /-- the outgoing buffer, oldest entry first, R344 -/
  outgoing : List Outgoing
  /-- the uncached reads, writes and data responses put on the System interface since the last step began, in order, R440 -/
  sent : List BusEvent
  deriving DecidableEq, Repr

/-! ## Parameters (R11) -/

/-- `DiagLayout`: the lowest bit of each field of Diagnostic (R150, D17). -/
structure DiagLayout where
  /-- BPOp, 2 bits -/
  bpOp : Nat
  /-- BPIdx, 9 bits -/
  bpIdx : Nat
  /-- BPState, 2 bits -/
  bpState : Nat
  /-- BPMode, 2 bits -/
  bpMode : Nat
  /-- DBRC, 1 bit -/
  dbrc : Nat
  /-- ITLBM, 4 bits, read only -/
  itlbm : Nat
  /-- BSIdx, read only -/
  bsIdx : Nat
  /-- the width of BSIdx, which R150 does not give: a parameter; its default 2, which R150 suggests, is a DESIGN CHOICE
  (notes/assumptions/12.md) -/
  bsIdxWidth : Nat
  /-- BRCV, 1 bit, read only -/
  brcv : Nat
  /-- BRCW, 1 bit, read only -/
  brcw : Nat
  /-- BRCH, 1 bit, read only -/
  brch : Nat
  /-- MP, 1 bit, read only -/
  mp : Nat
  deriving DecidableEq, Repr

/-- `CacheErrLayout`: the lowest bit of each field of CacheErr (R160). -/
structure CacheErrLayout where
  /-- the error source, 2 bits -/
  source : Nat
  /-- EW -/
  ew : Nat
  /-- EE -/
  ee : Nat
  /-- D, 2 bits -/
  d : Nat
  /-- TA, 2 bits -/
  ta : Nat
  /-- TS, 2 bits -/
  ts : Nat
  /-- TM, 2 bits -/
  tm : Nat
  /-- SA -/
  sa : Nat
  /-- SC -/
  sc : Nat
  /-- SR -/
  sr : Nat
  /-- PIdx of the instruction cache, 8 bits -/
  pidxI : Nat
  /-- PIdx of the data cache, 11 bits -/
  pidxD : Nat
  /-- SIdx, 17 bits -/
  sidx : Nat
  deriving DecidableEq, Repr

/-- `PerfCtlEnableOrder`: the bits of the count enables in a performance control register (R1102). -/
structure EnableOrder where
  /-- K -/
  k : Fin 4
  /-- S -/
  s : Fin 4
  /-- U -/
  u : Fin 4
  /-- EXL -/
  exl : Fin 4
  deriving DecidableEq, Repr

/-- The named parameters of 92_eei_decisions.md section 2 that are plain data: "all are arguments of the model" (R11), and one of the
model's own. No step changes them, and a claim about every state holds for every choice of them. -/
structure Params where
  /-- `CvtLLimit`, R641 -/
  cvtLLimit : Nat
  /-- `MaddFused`, R650 -/
  maddFused : Bool
  /-- `RecipExact`, R650 -/
  recipExact : Bool
  /-- `ReFetchSwap`, R231 -/
  reFetchSwap : Bool
  /-- `CompatSegUncachedAttr`, R219; none: VA[58:57] -/
  compatAttr : Option (BitVec 2)
  /-- `PerfCtlEnableOrder`, R1102 -/
  enables : EnableOrder
  /-- `DiagLayout`, R150 -/
  diag : DiagLayout
  /-- `CacheErrLayout`, R160 -/
  cacheErr : CacheErrLayout
  /-- `SpeculativeRefills`, R247 -/
  speculativeRefills : Bool
  /-- `InterruptLatency`, R1006: instruction boundaries between an interrupt becoming due and its being taken -/
  interruptLatency : Nat
  /-- the model's own, for a point on which rules of the spec disagree: whether a Kernel access to xksseg with KX = 1 and SX = 0 is mapped,
  so that R1023 and D33 choose the vector of its miss, or an Address Error (R188, R190); DESIGN CHOICE (notes/assumptions/66.md) -/
  xkssegRefill : Bool
  /-- the model's own, for a point on which rules of the spec disagree: whether Index Store Tag (D) puts StateMod 001 for the code 000 into
  an entry it makes Invalid, so that "every tag becomes well-formed" (R1165), or writes the code "directly" (R564); DESIGN CHOICE
  (notes/assumptions/64.md) -/
  storeTagNormal : Bool
  deriving DecidableEq, Repr

/-! ## JTAG and cache test mode -/

/-- The sixteen states of the TAP controller (R1132). -/
inductive Tap where
  /-- Test-Logic-Reset -/
  | reset
  /-- Run-Test/Idle -/
  | idle
  /-- Select-DR-Scan -/
  | selectDr
  /-- Capture-DR -/
  | captureDr
  /-- Shift-DR -/
  | shiftDr
  /-- Exit1-DR -/
  | exit1Dr
  /-- Pause-DR -/
  | pauseDr
  /-- Exit2-DR -/
  | exit2Dr
  /-- Update-DR -/
  | updateDr
  /-- Select-IR-Scan -/
  | selectIr
  /-- Capture-IR -/
  | captureIr
  /-- Shift-IR -/
  | shiftIr
  /-- Exit1-IR -/
  | exit1Ir
  /-- Pause-IR -/
  | pauseIr
  /-- Exit2-IR -/
  | exit2Ir
  /-- Update-IR -/
  | updateIr
  deriving DecidableEq, Repr

/-- The JTAG port (R60). The boundary register is 333 cells and the direction bit, which is the bit nearest JTDI's far end
(bit 333); `latch` is its update stage. -/
structure Jtag where
  /-- TAP controller, R1132 -/
  tap : Tap
  /-- shift stage of the instruction register, R1133 -/
  irShift : BitVec 4
  /-- its parallel output, R1133 -/
  ir : BitVec 4
  /-- bypass register, R1134 -/
  bypass : Bool
  /-- boundary register, shift stage, R1135 -/
  boundary : BitVec 334
  /-- boundary register, update stage: its top bit is the direction of the bidirectional pins, R1135 -/
  latch : BitVec 334
  /-- JTDO, R1131 -/
  tdo : Bool
  deriving DecidableEq, Repr

/-- What cache test mode remembers of the last command (R1206 to R1209). -/
structure CtmMemory where
  /-- lastAddr -/
  addr : BitVec 12
  /-- lastWay -/
  way : Bool
  /-- lastData, of the last write -/
  data : BitVec 40
  /-- the last command was a write -/
  wrote : Bool
  deriving DecidableEq, Repr

/-- Cache test mode (R1203): entered while CTM is loaded and SysReset* is held. -/
structure Ctm where
  /-- the processor is in cache test mode -/
  active : Bool
  /-- the last command, if any -/
  last : Option CtmMemory
  deriving DecidableEq, Repr

/-! ## The machine -/

/-- What the last instruction did, for the performance counters (R1107); the model's own. -/
inductive Note where
  /-- it completed -/
  | none
  /-- it took an exception; `refill`: a TLB Refill -/
  | excepted (refill : Bool)
  /-- a Store Conditional that stored nothing -/
  | scFailed
  /-- it waits and has not graduated -/
  | waiting
  deriving DecidableEq, Repr

/-- The machine. -/
structure State where
  /-- integer registers -/
  int : IntRegs
  /-- the virtual address of the instruction to execute, R34 -/
  pc : DWord
  /-- branch-delay state, R35 -/
  delay : Delay
  /-- floating point -/
  fp : FpRegs
  /-- load link, R50 -/
  link : Link
  /-- coprocessor 0, R51 -/
  cp0 : Cp0
  /-- performance counters, R59 -/
  perf : Perf
  /-- the TLB, R52 -/
  tlb : Vector TlbEntry 64
  /-- the branch prediction table, 512 x 2, R58; unlisted entries are 00 -/
  bpt : Sparse (BitVec 2)
  /-- caches, R53 -/
  caches : Caches
  /-- interrupts and pending events, R54, R55 -/
  pending : Pending
  /-- System interface, R56, R57 -/
  bus : Bus
  /-- JTAG, R60 -/
  jtag : Jtag
  /-- cache test mode, R1203 -/
  ctm : Ctm
  /-- physical memory, R180: canonical, an unlisted byte reads 0 (notes/assumptions/6.md) -/
  mem : List Host.Cell
  /-- the supply of free values; the model's own -/
  ctr : Nat
  /-- what the last instruction did; the model's own -/
  note : Note
  /-- the word of the instruction that waits at pc, which has been fetched and is not fetched again, for an uncached read is made
  "exactly once" (R440); the model's own (notes/assumptions/67.md) -/
  held : Option Word
  /-- the parameters of the model, R11; no step changes them -/
  params : Params
  deriving DecidableEq, Repr

/-- Where the model stops: behaviour the spec calls undefined, invalid or reserved and to which it gives no effect. Every
one is safe (the machine stops where the hardware does something). -/
inductive Fault where
  /-- an access uses cache algorithm 0, 1 or 6: "Accessing a reserved space results in undefined behavior" (R218, I1).
  Raised by address translation; safe. -/
  | reservedCacheAlgorithm
  /-- a TLB write with a PageMask not in Table 14-6: "the operation of the TLB is undefined" (R92, I11). Raised by TLBWI and
  TLBWR; safe. -/
  | pageMaskInvalid
  /-- a branch or jump in a delay slot, undefined in the architecture (R862, I38). Raised by the branches and jumps; safe. -/
  | branchInDelaySlot
  /-- "ERET must not itself be placed in a branch delay slot" (R592, I38). Raised by ERET; safe. -/
  | eretInDelaySlot
  /-- a doubleword access names an odd FP register with FR = 0: "the load/store is invalid" (R622, I40). Raised by the FP
  doubleword loads, stores and moves; safe. -/
  | fpOddDoubleword
  /-- a performance register number above 1 (R590, I34). Raised by MFPC, MTPC, MFPS and MTPS; safe. -/
  | perfRegisterInvalid
  /-- "Encodings not listed in this table are undefined" (R531, I23). Raised by step; safe. -/
  | undefinedCacheOp
  /-- "the operation of this instruction on uncached addresses is also undefined" (R534, I23). Raised by CACHE; safe. -/
  | cacheOpUncached
  /-- "The operation is undefined if a CacheOp hit occurs in both ways" (R535, I23). Raised by the Hit operations; safe. -/
  | cacheOpBothWays
  /-- a must-be-zero field is not zero: "outside the specified behaviour; treatment `refuse`" (R470, D26, I22), where the class of the
  word takes no exception first (R478). Raised by step; safe. -/
  | mustBeZeroField
  /-- "The execution of undefined COP0 functions is undefined" (R602, I22). Raised by step; safe. -/
  | undefinedCop0
  /-- a cached access to a block in the refill state "will hang the processor" (R1153, I35). Raised by cached accesses; safe. -/
  | refillStateBlock
  /-- 36 bits that came from no Index Load Data (I) are fetched (R573, I43). Raised by fetch; safe. -/
  | unknownPredecode
  /-- the processor is in cache test mode and executes nothing (R1203). Raised by step; safe. -/
  | cacheTestMode
  deriving DecidableEq, Repr

/-- Where the model has no meaning. -/
inductive Refusal where
  /-- the instruction has no meaning yet; raised by the dispatcher; safe -/
  | notModelled (mnemonic : String)
  deriving DecidableEq, Repr

/-- The outcome of a step or of an instruction. -/
abbrev Out := Host.Outcome State Fault Refusal

/-! ## Reset -/

/-- A TLB page of zeros. -/
def TlbPage.zero : TlbPage := ⟨0, 0, 0, false, false⟩

/-- A TLB entry that matches nothing (R208; notes/assumptions/4.md). -/
def TlbEntry.zero : TlbEntry := ⟨0, 0, 0, false, 0, TlbPage.zero, TlbPage.zero, true⟩

/-- CP0 after Cold Reset (R70): ERL = BEV = 1, SR = TS = 0, Random 63, Wired 0, FrameMask 0, K0 from the mode bits. -/
def Cp0.reset : Cp0 where
  index := 0
  random := 63
  entryLo0 := 0
  entryLo1 := 0
  context := 0
  pageMask := 0
  wired := 0
  badVAddr := 0
  count := 0
  entryHi := 0
  compare := 0
  status := 0x00400004
  causeBd := false
  causeCe := 0
  causeIpSw := 0
  causeCode := 0
  epc := 0
  k0 := Config.resetModeBits.extractLsb' 0 3
  llAddr := 0
  watchLo := 0
  watchHi := 0
  xContext := 0
  frameMask := 0
  diagDbrc := false
  diagBpMode := 0
  diagBpState := 0
  diagBpIdx := 0
  diagBpOp := 0
  diagPending := false
  ecc := 0
  cacheErr := 0
  tagLo := 0
  tagHi := 0
  errorEpc := 0

/-- A unit with nothing posted. -/
def LocalErr.none : LocalErr := ⟨0, false⟩

/-- The caches after reset (notes/assumptions/5.md). -/
def Caches.reset : Caches := ⟨[], [], [], [], [], [], [], [], [], []⟩

/-- Nothing pending (R70). -/
def Pending.reset : Pending :=
  ⟨0, false, false, false, false, .none, LocalErr.none, LocalErr.none, LocalErr.none, LocalErr.none, 0⟩

/-- The JTAG port after reset: Test-Logic-Reset, instruction register 1111, direction 0 (R1133, R1135). DESIGN CHOICE: the shift stages,
the bypass bit, the boundary cells and JTDO, of which nothing has been shifted out yet, are 0, where R60 and R1131 to R1135 give no value
(notes/assumptions/1.md, 42.md). -/
def Jtag.reset : Jtag := ⟨.reset, 0, 0b1111, false, 0, 0, false⟩

/-- The System interface after reset (R70): nothing buffered, nothing written, the mode bits of D4, and an external agent that accepts every
request, holds SysWrRdy* and SysGblPerf* asserted (R412) and ACKs (D38; notes/assumptions/41.md). -/
def Bus.reset : Bus := ⟨.idle, [], Config.resetModeBits, [], [], true, true, [], false, false, false, [], []⟩

/-- The defaults of 92_eei_decisions.md section 2; `DiagLayout`, which has none, is the model's (notes/assumptions/12.md), and so are
`xkssegRefill`, false as R188 and R190 have it (notes/assumptions/66.md), and `storeTagNormal`, false as R564 has it
(notes/assumptions/64.md). -/
def Params.default : Params where
  cvtLLimit := 2 ^ 51
  maddFused := false
  recipExact := true
  reFetchSwap := false
  compatAttr := .none
  enables := ⟨3, 2, 1, 0⟩
  diag := ⟨0, 2, 11, 13, 15, 22, 20, 2, 19, 18, 17, 16⟩
  cacheErr := ⟨30, 29, 28, 26, 24, 22, 20, 25, 24, 23, 6, 3, 6⟩
  speculativeRefills := false
  interruptLatency := 0
  xkssegRefill := false
  storeTagNormal := false

/-- The machine right after a Cold Reset (R70, R1150). -/
def State.reset : State where
  int := ⟨Vector.replicate 32 0, 0, 0⟩
  pc := 0xFFFFFFFFBFC00000
  delay := .none
  fp := ⟨Vector.replicate 32 0, 0⟩
  link := ⟨false, 0, false⟩
  cp0 := Cp0.reset
  perf := ⟨0, 0, 0, 0⟩
  tlb := Vector.replicate 64 TlbEntry.zero
  bpt := []
  caches := Caches.reset
  pending := Pending.reset
  bus := Bus.reset
  jtag := Jtag.reset
  ctm := ⟨false, .none⟩
  mem := []
  ctr := 0
  note := .none
  held := .none
  params := Params.default

end Sys2Proof.Machine
end

