-- ==== Sys2Proof/Machine/Ops.lean ====
section
/-! DEFINITION. The shared operations: reading and writing registers, the fields of Status and the mode they make, taking an
exception (R1020), the reset group (R1150, R1153, R1154), Cache Error (R1025), and the return from an exception (R592). -/

namespace Sys2Proof.Machine

/-! ## General registers -/

/-- GPR[r]; GPR[0] reads as zero (R31). -/
def State.gpr (s : State) (r : BitVec 5) : DWord :=
  if r = 0#5 then 0#64 else s.int.gpr[r.toNat]'r.isLt

/-- Write GPR[r]; a write to GPR[0] is discarded (R31). -/
def State.setGpr (s : State) (r : BitVec 5) (v : DWord) : State :=
  if r = 0#5 then s else { s with int := { s.int with gpr := s.int.gpr.set r.toNat v r.isLt } }

/-- Write HI (R33). -/
def State.setHi (s : State) (v : DWord) : State := { s with int := { s.int with hi := v } }

/-- Write LO (R33). -/
def State.setLo (s : State) (v : DWord) : State := { s with int := { s.int with lo := v } }

/-! ## Status (R105) and the mode (R110) -/

/-- Status.XX -/
def State.xx (s : State) : Bool := s.cp0.status.getLsbD 31
/-- Status.CU2 -/
def State.cu2 (s : State) : Bool := s.cp0.status.getLsbD 30
/-- Status.CU1 -/
def State.cu1 (s : State) : Bool := s.cp0.status.getLsbD 29
/-- Status.CU0 -/
def State.cu0 (s : State) : Bool := s.cp0.status.getLsbD 28
/-- Status.FR -/
def State.fr (s : State) : Bool := s.cp0.status.getLsbD 26
/-- Status.RE -/
def State.re (s : State) : Bool := s.cp0.status.getLsbD 25
/-- Status.BEV -/
def State.bev (s : State) : Bool := s.cp0.status.getLsbD 22
/-- Status.DE -/
def State.de (s : State) : Bool := s.cp0.status.getLsbD 16
/-- Status.IM -/
def State.im (s : State) : BitVec 8 := s.cp0.status.extractLsb' 8 8
/-- Status.KX -/
def State.kx (s : State) : Bool := s.cp0.status.getLsbD 7
/-- Status.SX -/
def State.sx (s : State) : Bool := s.cp0.status.getLsbD 6
/-- Status.UX -/
def State.ux (s : State) : Bool := s.cp0.status.getLsbD 5
/-- Status.KSU -/
def State.ksu (s : State) : BitVec 2 := s.cp0.status.extractLsb' 3 2
/-- Status.ERL -/
def State.erl (s : State) : Bool := s.cp0.status.getLsbD 2
/-- Status.EXL -/
def State.exl (s : State) : Bool := s.cp0.status.getLsbD 1
/-- Status.IE -/
def State.ie (s : State) : Bool := s.cp0.status.getLsbD 0

/-- Write Status. -/
def State.setStatus (s : State) (w : Word) : State := { s with cp0 := { s.cp0 with status := w } }

/-- The processor mode (R110). -/
inductive Mode where
  /-- Kernel -/
  | kernel
  /-- Supervisor -/
  | supervisor
  /-- User -/
  | user
  deriving DecidableEq, Repr

/-- The mode, from ERL, EXL and KSU; KSU = 11 is implemented as User mode (R110). -/
def State.mode (s : State) : Mode :=
  if s.erl || s.exl || s.ksu == 0b00#2 then .kernel else if s.ksu == 0b01#2 then .supervisor else .user

/-- `Addr64` (R107, R181). -/
def State.addr64 (s : State) : Bool :=
  match s.mode with
  | .kernel => s.kx
  | .supervisor => s.sx
  | .user => s.ux

/-- `Mips3Enabled` (R107). -/
def State.mips3 (s : State) : Bool :=
  match s.mode with
  | .kernel => true
  | .supervisor => s.sx
  | .user => s.ux

/-- `Mips4Enabled` (R107). -/
def State.mips4 (s : State) : Bool :=
  match s.mode with
  | .user => s.xx
  | _ => true

/-- CP0 is usable "if the processor is in Kernel mode, or if bit 28 (CU0) is set" (R80). -/
def State.cp0Usable (s : State) : Bool := s.mode == .kernel || s.cu0

/-- The memory byte order, mode bit MemEnd = Config.BE: true is big endian (R230). -/
def State.memEnd (s : State) : Bool := s.bus.modeBits.getLsbD 15

/-- `ReverseEndian` (R231). -/
def State.reverseEndian (s : State) : Bool := s.re && s.mode == .user

/-- `BigEndianCPU` (R231). -/
def State.bigEndianCpu (s : State) : Bool := s.memEnd != s.reverseEndian

/-! ## Interrupts (R1061, R1083) -/

/-- The overflow interrupt of a counter: a level (R1110). -/
def perfIp (ctl cnt : Word) : Bool := cnt.getLsbD 31 && ctl.getLsbD 4

/-- Cause.IP[7] (R1110). -/
def State.ip7 (s : State) : Bool :=
  s.pending.timer || perfIp s.perf.ctl0 s.perf.cnt0 || perfIp s.perf.ctl1 s.perf.cnt1

/-- Cause.IP[7:0], live (R1083). -/
def State.ip (s : State) : BitVec 8 := BitVec.ofBool s.ip7 ++ s.pending.interrupt ++ s.cp0.causeIpSw

/-- `InterruptTaken` (R1061). -/
def State.interruptTaken (s : State) : Bool := s.ie && !s.exl && !s.erl && (s.ip &&& s.im) != 0#8

/-- An interrupt is taken at this boundary: it has been due at more boundaries than `InterruptLatency` (R1006). -/
def State.interruptDue (s : State) : Bool := s.interruptTaken && decide (s.params.interruptLatency < s.pending.waited)

/-! ## Moving on -/

/-- The instruction completes and falls through: to the pending target after a delay slot, else to pc + 4 (R860, R861). -/
def State.advance (s : State) : State :=
  match s.delay with
  | .slot (some t) => { s with pc := t, delay := .none }
  | _ => { s with pc := s.pc + 4#64, delay := .none }

/-- The next instruction stands in no delay slot. -/
def State.inSlot (s : State) : Bool := s.delay != .none

/-- Where execution resumes if the instruction at pc is not executed: the branch, when it is in a delay slot (R1021). -/
def State.resumePc (s : State) : DWord := if s.inSlot then s.pc - 4#64 else s.pc

/-! ## Taking an exception (R1020 to R1024) -/

/-- ExcCode values (R114). -/
def excInt : BitVec 5 := 0
/-- Mod -/
def excMod : BitVec 5 := 1
/-- TLBL -/
def excTlbl : BitVec 5 := 2
/-- TLBS -/
def excTlbs : BitVec 5 := 3
/-- AdEL -/
def excAdel : BitVec 5 := 4
/-- AdES -/
def excAdes : BitVec 5 := 5
/-- IBE -/
def excIbe : BitVec 5 := 6
/-- DBE -/
def excDbe : BitVec 5 := 7
/-- Sys -/
def excSys : BitVec 5 := 8
/-- Bp -/
def excBp : BitVec 5 := 9
/-- RI -/
def excRi : BitVec 5 := 10
/-- CpU -/
def excCpu : BitVec 5 := 11
/-- Ov -/
def excOv : BitVec 5 := 12
/-- Tr -/
def excTr : BitVec 5 := 13
/-- FPE -/
def excFpe : BitVec 5 := 15
/-- WATCH -/
def excWatch : BitVec 5 := 23

/-- `VectorBase` (R1024). -/
def vectorBase (bev : Bool) : DWord := if bev then 0xFFFFFFFFBFC00200#64 else 0xFFFFFFFF80000000#64

/-- The offset of the general vector (R1024). -/
def generalOffset : DWord := 0x180#64

/-- The reset vector (R1024). -/
def resetVector : DWord := 0xFFFFFFFFBFC00000#64

/-- `TakeException` (R1020): the exception is raised by the instruction at pc, or before it. `ce` is Cause.CE (for any code but
CpU a free value, R113); `offset` is the vector offset used when EXL was 0; `refill` notes a TLB Refill. With EXL = 1 neither
EPC nor BD is written and the general vector is used (R1022). The link is broken (R510). -/
def State.enter (s : State) (code : BitVec 5) (ce : BitVec 2) (offset : DWord) (refill : Bool) : State :=
  { s with
    cp0 := { s.cp0 with
      epc := if s.exl then s.cp0.epc else s.resumePc
      causeBd := if s.exl then s.cp0.causeBd else s.inSlot
      causeCode := code
      causeCe := ce
      status := putBit s.cp0.status 1 true }
    pc := vectorBase s.bev + (if s.exl then generalOffset else offset)
    delay := .none
    link := { s.link with bit := false }
    note := .excepted refill }

/-- An exception with the general vector (R1020). -/
def State.takeException (s : State) (code : BitVec 5) : State :=
  s.enter code (Config.causeCe s.ctr) generalOffset false

/-- `CoprocessorUnusable(n)` (R1046). -/
def State.coprocessorUnusable (s : State) (n : BitVec 2) : State := s.enter excCpu n generalOffset false

/-- `XtlbVector(va)` (R1023). -/
def State.xtlbVector (s : State) (va : DWord) : Bool :=
  match (va.extractLsb' 62 2).toNat with
  | 0 => s.ux
  | 1 => s.sx
  | _ => s.kx

/-- What every TLB exception writes besides R1020 (R1032 to R1034). -/
def State.setTlbFault (s : State) (va : DWord) : State :=
  { s with
    cp0 := { s.cp0 with
      badVAddr := va
      context := putField s.cp0.context 4 (va.extractLsb' 13 19)
      xContext := putField s.cp0.xContext 4 (va.extractLsb' 62 2 ++ va.extractLsb' 13 31)
      entryHi := putField (putField s.cp0.entryHi 13 (va.extractLsb' 13 31)) 62 (va.extractLsb' 62 2) } }

/-- `TlbRefill` (R1035): the 32-bit or the 64-bit refill vector when EXL was 0 (R1023). -/
def State.tlbRefill (s : State) (store : Bool) (va : DWord) : State :=
  (s.setTlbFault va).enter (if store then excTlbs else excTlbl) (Config.causeCe s.ctr)
    (if s.xtlbVector va then 0x080#64 else 0x000#64) true

/-- `TlbInvalid` (R1035). -/
def State.tlbInvalid (s : State) (store : Bool) (va : DWord) : State :=
  (s.setTlbFault va).takeException (if store then excTlbs else excTlbl)

/-- `TlbModified` (R1036). -/
def State.tlbModified (s : State) (va : DWord) : State := (s.setTlbFault va).takeException excMod

/-- `AddressError` (R1031): BadVAddr is the address; the VPN fields of Context, XContext and EntryHi are undefined (I12). -/
def State.addressError (s : State) (store : Bool) (va : DWord) : State :=
  { s with
    cp0 := { s.cp0 with
      badVAddr := va
      context := putField s.cp0.context 4 (Config.addressErrorContext s.ctr)
      xContext := putField s.cp0.xContext 4 (Config.addressErrorXContext s.ctr)
      entryHi := putField (putField s.cp0.entryHi 13 (Config.addressErrorVpn2 s.ctr)) 62
        (Config.addressErrorRegion s.ctr) } }.takeException (if store then excAdes else excAdel)

/-! ## Cache Error (R1025 to R1027) -/

/-- Post an error of a unit with local register `l` (R1027): the first error's information is kept, a later one sets EW, which
is bit `ew` (R160). -/
def LocalErr.post (l : LocalErr) (ew : Nat) (info : Word) : LocalErr :=
  if l.posted then { l with info := putBit l.info ew true } else ⟨info, true⟩

/-- Post to the instruction cache unit, unless Status.DE suppresses it (R309). -/
def State.postI (s : State) (info : Word) : State :=
  if s.de then s else { s with pending := { s.pending with iErr := s.pending.iErr.post s.params.cacheErr.ew info } }

/-- Post to the data cache unit (R309). -/
def State.postD (s : State) (info : Word) : State :=
  if s.de then s else { s with pending := { s.pending with dErr := s.pending.dErr.post s.params.cacheErr.ew info } }

/-- Post to the secondary cache unit (R309). -/
def State.postS (s : State) (info : Word) : State :=
  if s.de then s else { s with pending := { s.pending with sErr := s.pending.sErr.post s.params.cacheErr.ew info } }

/-- Post to the System interface unit (R309). -/
def State.postSi (s : State) (info : Word) : State :=
  if s.de then s else { s with pending := { s.pending with siErr := s.pending.siErr.post s.params.cacheErr.ew info } }

/-- SysUncErr* is pulsed when a tag error or a bus error is detected, whatever Status.DE says (R306). -/
def State.pulseUnc (s : State) (b : Bool) : State := { s with bus := { s.bus with uncErr := s.bus.uncErr || b } }

/-- SysCorErr* is pulsed when an error is corrected (R305). -/
def State.pulseCor (s : State) (b : Bool) : State := { s with bus := { s.bus with corErr := s.bus.corErr || b } }

/-- `CacheErrPending` (R1027). -/
def Pending.cacheErr (p : Pending) : Bool := p.iErr.posted || p.dErr.posted || p.sErr.posted || p.siErr.posted

/-- The highest-priority posted error, and the pending state with it consumed (R1025). -/
def Pending.takeCacheErr (p : Pending) : Word × Pending :=
  if p.iErr.posted then (p.iErr.info, { p with iErr := { p.iErr with posted := false } })
  else if p.dErr.posted then (p.dErr.info, { p with dErr := { p.dErr with posted := false } })
  else if p.sErr.posted then (p.sErr.info, { p with sErr := { p.sErr with posted := false } })
  else (p.siErr.info, { p with siErr := { p.siErr with posted := false } })

/-- The Cache Error vector (R1024). -/
def cacheErrorVector (bev : Bool) : DWord := if bev then 0xFFFFFFFFBFC00300#64 else 0xFFFFFFFFA0000100#64

/-- `TakeCacheError` (R1025): CacheErr is the unit's local register, with a sticky EW (R1027); ErrorEPC is the branch when the
next instruction is in a delay slot (D34). -/
def State.takeCacheError (s : State) : State :=
  { s with
    cp0 := { s.cp0 with
      cacheErr := s.pending.takeCacheErr.1 ||| (s.cp0.cacheErr &&& (1#32 <<< s.params.cacheErr.ew))
      status := putBit s.cp0.status 2 true
      errorEpc := s.resumePc }
    pending := s.pending.takeCacheErr.2
    pc := cacheErrorVector s.bev
    delay := .none
    link := { s.link with bit := false }
    note := .excepted false }

/-- A posted error is taken at once, unless ERL or DE holds it back (R1006, R1027). -/
def State.cacheErrorDue (s : State) : Bool := s.pending.cacheErr && !s.erl && !s.de

/-! ## The reset group -/

/-- Nothing is posted any more: "pending Cache Error exceptions" are cleared (R1150, R1153, R1154). -/
def Pending.clearCacheErr (p : Pending) : Pending :=
  { p with
    iErr := { p.iErr with posted := false }
    dErr := { p.dErr with posted := false }
    sErr := { p.sErr with posted := false }
    siErr := { p.siErr with posted := false } }

/-- Status after Soft Reset or NMI: ERL, SR and BEV set, TS cleared, NMI as given (R1153, R1154). -/
def resetStatus (w : Word) (nmi : Bool) : Word :=
  putBit (putBit (putBit (putBit (putBit w 2 true) 20 true) 22 true) 21 false) 19 nmi

/-- `NMI` (R1154). -/
def State.nmi (s : State) : State :=
  { s with
    cp0 := { s.cp0 with errorEpc := s.resumePc, status := resetStatus s.cp0.status true }
    pending := { s.pending.clearCacheErr with nmi := false }
    pc := resetVector
    delay := .none
    link := { s.link with bit := false }
    note := .excepted false }

/-- Before an event from outside, as before a step, the free values are new ones (notes/assumptions/7.md). -/
def State.fresh (s : State) : State := { s with ctr := s.ctr + 1 }

/-- Asserting SysReset* resets the TAP controller, which selects the bypass register and the input direction (R1132, R1133,
R1135). -/
def Jtag.sysReset (j : Jtag) : Jtag := { j with tap := .reset, ir := 0b1111, latch := putBit j.latch 333 false }

/-- The System interface in slave state with nothing outstanding (R1150, R1153): what the uncached and the outgoing buffer held is lost, answers
not given yet are forgotten, and the processor hangs no more. The error pulses stay as they are: the next step ends them, and cache
test mode makes them free (R1201). -/
def Bus.initialise (b : Bus) : Bus := { b with gather := .idle, ready := [], fifo := [], replies := [], hung := false, outgoing := [] }

/-- `SoftReset` (R1153): ErrorEPC is any value (I46). Out of the hang of R313 CacheErr shows the System interface's error. DESIGN CHOICE: it
shows what the System interface's local register holds, which is not the response error of the hang if that was not posted, with DE = 1
(R309), or if an earlier error was still posted (R1027); R313 does not say (notes/assumptions/9.md). -/
def State.softReset (s : State) : State :=
  { s with
    cp0 := { s.cp0 with
      errorEpc := Config.softResetPc s.ctr
      status := resetStatus s.cp0.status false
      cacheErr := if s.bus.hung then
          s.pending.siErr.info ||| (s.cp0.cacheErr &&& (1#32 <<< s.params.cacheErr.ew))
        else s.cp0.cacheErr }
    pending := { s.pending.clearCacheErr with softReset := false, watch := false, interrupt := 0 }
    bus := s.bus.initialise
    jtag := s.jtag.sysReset
    pc := resetVector
    delay := .none
    link := { s.link with bit := false }
    note := .excepted false }

/-- `ColdReset` (R1150) with the mode bits driven during it. What R70 calls undefined keeps what it held; a Soft Reset or NMI
still pending is forgotten (DESIGN CHOICE; both: notes/assumptions/9.md). -/
def State.coldReset (s : State) (modeBits : DWord) : State :=
  { s with
    cp0 := { s.cp0 with
      k0 := modeBits.extractLsb' 0 3
      status := putBit (putBit (putBit (putBit s.cp0.status 20 false) 21 false) 2 true) 22 true
      random := 63
      wired := 0
      frameMask := 0
      cacheErr := putBit s.cp0.cacheErr s.params.cacheErr.ew false
      errorEpc := Config.coldResetPc s.ctr
      diagBpMode := 0 }
    perf := { s.perf with ctl0 := putField s.perf.ctl0 5 0#4, ctl1 := putField s.perf.ctl1 5 0#4 }
    bpt := []
    pending := { s.pending.clearCacheErr with
      coldReset := .none, softReset := false, nmi := false, watch := false, interrupt := 0 }
    bus := { s.bus.initialise with modeBits := modeBits }
    jtag := s.jtag.sysReset
    pc := resetVector
    delay := .none
    link := { s.link with bit := false }
    note := .excepted false }

/-! ## Return from an exception (R592, R1028) -/

/-- ERET: through ErrorEPC when ERL = 1, else through EPC; the link is broken. -/
def State.exceptionReturn (s : State) : State :=
  if s.erl then
    { s.setStatus (putBit s.cp0.status 2 false) with
      pc := s.cp0.errorEpc, delay := .none, link := { s.link with bit := false } }
  else
    { s.setStatus (putBit s.cp0.status 1 false) with
      pc := s.cp0.epc, delay := .none, link := { s.link with bit := false } }

/-! ## Small pieces -/

/-- Break the load link (R510). -/
def State.breakLink (s : State) : State := { s with link := { s.link with bit := false } }

/-- The instruction waits: it has not graduated, and the next step runs it again. -/
def State.waitHere (s : State) : State := { s with note := .waiting }

/-- Run `k` where a condition holds, else take an exception (R478). -/
def State.require (s : State) (ok : Bool) (code : BitVec 5) (k : Out) : Out :=
  if ok then k else .next (s.takeException code)

/-- CP0 usability (R80, R580). -/
def State.requireCp0 (s : State) (k : Out) : Out := if s.cp0Usable then k else .next (s.coprocessorUnusable 0)

/-- CP1 usability (R474). -/
def State.requireCp1 (s : State) (k : Out) : Out := if s.cu1 then k else .next (s.coprocessorUnusable 1)

/-- MIPS III gating of an integer instruction (R472). -/
def State.requireMips3 (s : State) (k : Out) : Out := s.require s.mips3 excRi k

/-- MIPS IV gating of an integer or COP1X instruction (R473). -/
def State.requireMips4 (s : State) (k : Out) : Out := s.require s.mips4 excRi k

end Sys2Proof.Machine
end

