-- ==== Sys2Proof/Machine/Operands.lean ====
section
/-! DEFINITION. Operand forms: effective addresses (R800), 32-bit operands and results (R702), overflow (R701), shift amounts,
branch and jump targets (R864), and an instruction that writes one general register. -/

namespace Sys2Proof.Machine

/-- base + offset (R800). -/
def State.ea (s : State) (base : BitVec 5) (offset : BitVec 16) : DWord := s.gpr base + sext16 offset

/-- base + index (R800). -/
def State.eaIndexed (s : State) (base index : BitVec 5) : DWord := s.gpr base + s.gpr index

/-- The instruction writes GPR[rd] and falls through. -/
def State.put (s : State) (rd : BitVec 5) (v : DWord) : Out := .next (s.setGpr rd v).advance

/-- A 32-bit result, sign-extended; a free value where a source held no sign-extended word (R702). -/
def State.wordResult (s : State) (ok : Bool) (w : Word) : DWord := if ok then sext32 w else Config.notWordResult s.ctr

/-- The instruction writes a 32-bit result to GPR[rd] and falls through. -/
def State.putWord (s : State) (rd : BitVec 5) (ok : Bool) (w : Word) : Out := s.put rd (s.wordResult ok w)

/-- Write GPR[rd] unless an Integer Overflow is raised (R701). -/
def State.putUnless (s : State) (overflow : Bool) (rd : BitVec 5) (v : DWord) : Out :=
  if overflow then .next (s.takeException excOv) else s.put rd v

/-- A signed 32-bit value. -/
def sInt32 (v : DWord) : Int := (low32 v).toInt

/-- An unsigned 32-bit value. -/
def uNat32 (v : DWord) : Nat := (low32 v).toNat

/-- The sum does not fit in n bits of two's complement (R701). -/
def sumOverflows {n : Nat} (a b : BitVec n) : Bool := (a + b).toInt != a.toInt + b.toInt

/-- The difference does not fit. -/
def diffOverflows {n : Nat} (a b : BitVec n) : Bool := (a - b).toInt != a.toInt - b.toInt

/-- A 5-bit shift amount of a register (R733). -/
def shift5 (v : DWord) : Nat := (v.extractLsb' 0 5).toNat

/-- A 6-bit shift amount of a register (R742). -/
def shift6 (v : DWord) : Nat := (v.extractLsb' 0 6).toNat

/-- Write HI and LO and fall through. -/
def State.putHiLo (s : State) (hi lo : DWord) : Out := .next ((s.setHi hi).setLo lo).advance

/-- HI and LO from a 64-bit product of words; free where a source held no sign-extended word (R702, R750). -/
def State.putProduct (s : State) (ok : Bool) (p : DWord) : Out :=
  if ok then s.putHiLo (sext32 (high32 p)) (sext32 (low32 p))
  else s.putHiLo (Config.notWordHi s.ctr) (Config.notWordLo s.ctr)

/-- HI and LO are any value: a divisor of zero, or an overflow (R752, R756). -/
def State.putDivideFree (s : State) : Out := s.putHiLo (Config.divideHi s.ctr) (Config.divideLo s.ctr)

/-- The target of a conditional branch (R864). -/
def State.branchTarget (s : State) (offset : BitVec 16) : DWord :=
  s.pc + 4#64 + (offset ++ 0#2).signExtend 64

/-- The target of J and JAL (R864). -/
def State.jumpTarget (s : State) (index : BitVec 26) : DWord :=
  (s.pc + 4#64).extractLsb' 28 36 ++ index ++ 0#2

/-- The link value (R864). -/
def State.linkValue (s : State) : DWord := s.pc + 8#64

end Sys2Proof.Machine
end

