-- ==== Sys2Proof/Machine/Flags.lean ====
section
/-! DEFINITION. The floating-point status register (spec/43_fpu.md R630 to R638, spec/10_state.md R47) and access to the
floating-point registers (R622). The integer unit has no condition codes (R700). -/

namespace Sys2Proof.Machine

/-! ## FSR fields -/

/-- Status of an operation, in the order of FSR.Cause: E V Z O U I (R633). -/
abbrev FpStatus := BitVec 6

/-- E, Unimplemented Operation -/
def fpE : FpStatus := 0b100000
/-- V, Invalid Operation -/
def fpV : FpStatus := 0b010000
/-- Z, Division by Zero -/
def fpZ : FpStatus := 0b001000
/-- O, Overflow -/
def fpO : FpStatus := 0b000100
/-- U, Underflow -/
def fpU : FpStatus := 0b000010
/-- I, Inexact -/
def fpI : FpStatus := 0b000001

/-- The FSR bit of condition cc (R47). -/
def conditionBit (cc : BitVec 3) : Nat := if cc = 0#3 then 23 else 24 + cc.toNat

/-- `FSR.CC[cc]` (R631). -/
def State.condition (s : State) (cc : BitVec 3) : Bool := s.fp.fsr.getLsbD (conditionBit cc)

/-- Write FCR31. -/
def State.setFsr (s : State) (w : Word) : State := { s with fp := { s.fp with fsr := w } }

/-- Write one condition bit (R631). -/
def State.setCondition (s : State) (cc : BitVec 3) (b : Bool) : State := s.setFsr (putBit s.fp.fsr (conditionBit cc) b)

/-- FSR.FS (R632). -/
def State.flush (s : State) : Bool := s.fp.fsr.getLsbD 24

/-- FSR.Enable.U (R634). -/
def State.trapU (s : State) : Bool := s.fp.fsr.getLsbD 8

/-- FSR.RM (R636). -/
def State.rm (s : State) : BitVec 2 := s.fp.fsr.extractLsb' 0 2

/-- Whether a status raises the exception under FSR.Enable (R637). -/
def fpTraps (fsr : Word) (c : FpStatus) : Bool :=
  c.getLsbD 5 || (c.extractLsb' 0 5 &&& fsr.extractLsb' 7 5) != 0#5

/-- FSR with its Cause field replaced (R637). -/
def fsrCause (fsr : Word) (c : FpStatus) : Word := putField fsr 12 c

/-- FSR with the flags of a status accumulated (R635). -/
def fsrFlags (fsr : Word) (c : FpStatus) : Word := putField fsr 2 (fsr.extractLsb' 2 5 ||| c.extractLsb' 0 5)

/-- `Complete` (R637): the Cause field is replaced; then the Floating-Point exception, or the flags accumulate and the result
is written by `w`. -/
def State.completeFp (s : State) (c : FpStatus) (w : State → State) : Out :=
  let fsr := fsrCause s.fp.fsr c
  if fpTraps s.fp.fsr c then .next ((s.setFsr fsr).takeException excFpe)
  else .next (w (s.setFsr (fsrFlags fsr c))).advance

/-- Unimplemented Operation, decided before the operation: Cause is 100000 (R640). -/
def State.unimplemented (s : State) : Out := s.completeFp fpE id

/-! ## Floating-point registers (R622) -/

/-- The FPR a register number names in arithmetic: the low bit is forced to zero when FR = 0. -/
def State.fpReg (s : State) (n : BitVec 5) : BitVec 5 := if s.fr then n else n &&& 0b11110#5

/-- One FPR. -/
def State.fpr (s : State) (n : BitVec 5) : DWord := s.fp.fpr[n.toNat]'n.isLt

/-- Write one FPR. -/
def State.setFpr (s : State) (n : BitVec 5) (v : DWord) : State :=
  { s with fp := { s.fp with fpr := s.fp.fpr.set n.toNat v n.isLt } }

/-- `OperandS`, in the low half of a doubleword. -/
def State.operandS (s : State) (n : BitVec 5) : DWord := zext32 (low32 (s.fpr (s.fpReg n)))

/-- `OperandD`. -/
def State.operandD (s : State) (n : BitVec 5) : DWord := s.fpr (s.fpReg n)

/-- `ResultS`: the upper half is cleared (R623). -/
def State.resultS (s : State) (n : BitVec 5) (v : DWord) : State := s.setFpr (s.fpReg n) (zext32 (low32 v))

/-- `ResultD`. -/
def State.resultD (s : State) (n : BitVec 5) (v : DWord) : State := s.setFpr (s.fpReg n) v

/-- `Fpr32Read`. -/
def State.fpr32 (s : State) (n : BitVec 5) : Word :=
  if s.fr then low32 (s.fpr n)
  else if n.getLsbD 0 then high32 (s.fpr (n &&& 0b11110#5)) else low32 (s.fpr n)

/-- `Fpr32Write`. -/
def State.setFpr32 (s : State) (n : BitVec 5) (w : Word) : State :=
  if s.fr then s.setFpr n (zext32 w)
  else
    let e := n &&& 0b11110#5
    if n.getLsbD 0 then s.setFpr e (w ++ low32 (s.fpr e)) else s.setFpr e (high32 (s.fpr e) ++ w)

/-- A doubleword access is valid: FR = 1 or an even register (R622). -/
def State.fpr64Ok (s : State) (n : BitVec 5) : Bool := s.fr || !n.getLsbD 0

/-- Run `k` if a doubleword access to register n is valid; "if the register selected is odd, the load/store is invalid"
(R622, I40). -/
def State.requireFpr64 (s : State) (n : BitVec 5) (k : Out) : Out := if s.fpr64Ok n then k else .fault .fpOddDoubleword

end Sys2Proof.Machine
end

