-- ==== Sys2Proof/Machine/Branch.lean ====
section
/-! DEFINITION. Jumps, branches, branch-likely, conditional traps, SYSCALL and BREAK (spec/46_branch_jump_trap_isa.md R860 to
R917). -/

namespace Sys2Proof.Machine

/-! ## Control transfer -/

/-- Run a control transfer unless it stands in a delay slot, where it is undefined (R862, I38). -/
def State.notInSlot (s : State) (k : Out) : Out := if s.inSlot then .fault .branchInDelaySlot else k

/-- A taken transfer: the delay slot is next, then the target (R861). -/
def State.jumpTo (s : State) (t : DWord) : State := { s with pc := s.pc + 4#64, delay := .slot (some t) }

/-- A branch that is not taken: the next instruction still stands in a delay slot (R861). -/
def State.notTaken (s : State) : State := { s with pc := s.pc + 4#64, delay := .slot none }

/-- A likely branch that is not taken nullifies its slot (R863). -/
def State.skipSlot (s : State) : State := { s with pc := s.pc + 8#64, delay := .none }

/-- Under the 2-bit counter scheme a verified conditional branch, likely ones apart, writes its new 2-bit counter to the
prediction table and to Diagnostic.BPState (R58, R150, R863). DESIGN CHOICE (notes/assumptions/36.md): in the other modes of BPMode it leaves
both as they are, where R150 does not say whether a verified branch still updates them. -/
def State.predict (s : State) : State :=
  if s.cp0.diagBpMode = 0#2 then
    { s with
      bpt := Sparse.set 0 s.bpt (s.pc.extractLsb' 3 9).toNat (Config.branchCounter s.ctr)
      cp0 := { s.cp0 with diagBpState := Config.branchCounter s.ctr } }
  else s

/-- A conditional branch (R861). -/
def State.branch (s : State) (taken : Bool) (offset : BitVec 16) : Out :=
  s.notInSlot (.next (if taken then s.predict.jumpTo (s.branchTarget offset) else s.predict.notTaken))

/-- A likely branch (R863). -/
def State.branchLikely (s : State) (taken : Bool) (offset : BitVec 16) : Out :=
  s.notInSlot (.next (if taken then s.jumpTo (s.branchTarget offset) else s.skipSlot))

/-- The link register write of a linking branch: r31, whether or not it is taken (R881). -/
def State.setLinkReg (s : State) : State := s.setGpr 31#5 s.linkValue

/-- Trap if the condition holds (R900). -/
def State.trapIf (s : State) (c : Bool) : Out := if c then .next (s.takeException excTr) else .next s.advance

/-- Signed 64-bit `a <= 0`. -/
def nonPositive (v : DWord) : Bool := v.sle 0#64

/-! ## Jumps -/

/-- J (R870). -/
def execJ (target : BitVec 26) (s : State) : Out :=
  s.notInSlot (.next (s.jumpTo (s.jumpTarget target)))

/-- JAL (R871). -/
def execJal (target : BitVec 26) (s : State) : Out :=
  s.notInSlot (.next (s.setLinkReg.jumpTo (s.jumpTarget target)))

/-- A jump-register "gives priority for C0_Diag to access BPT": a read of the prediction table that MTC0 started is complete (R151). -/
def State.completeBptRead (s : State) : State :=
  if s.cp0.diagPending then
    { s with cp0 := { s.cp0 with diagBpState := Sparse.get 0 s.bpt s.cp0.diagBpIdx.toNat, diagPending := false } }
  else s

/-- JR (R872); through a register other than r31 it completes a read of the prediction table (R151: "ry != r31"). -/
def execJr (rs : Reg) (s : State) : Out :=
  s.notInSlot (.next ((if rs = 31#5 then s else s.completeBptRead).jumpTo (s.gpr rs)))

/-- JALR (R873): rs is read first. -/
def execJalr (rs : Reg) (rd : Reg) (s : State) : Out :=
  s.notInSlot (.next ((s.setGpr rd s.linkValue).jumpTo (s.gpr rs)))

/-! ## Conditional branches on general registers (R875 to R890) -/

/-- BEQ (R875). -/
def execBeq (rs : Reg) (rt : Reg) (offset : BitVec 16) (s : State) : Out :=
  s.branch (s.gpr rs == s.gpr rt) offset

/-- BEQL (R883). -/
def execBeql (rs : Reg) (rt : Reg) (offset : BitVec 16) (s : State) : Out :=
  s.branchLikely (s.gpr rs == s.gpr rt) offset

/-- BNE (R876). -/
def execBne (rs : Reg) (rt : Reg) (offset : BitVec 16) (s : State) : Out :=
  s.branch (s.gpr rs != s.gpr rt) offset

/-- BNEL (R884). -/
def execBnel (rs : Reg) (rt : Reg) (offset : BitVec 16) (s : State) : Out :=
  s.branchLikely (s.gpr rs != s.gpr rt) offset

/-- BLEZ (R877). -/
def execBlez (rs : Reg) (offset : BitVec 16) (s : State) : Out :=
  s.branch (nonPositive (s.gpr rs)) offset

/-- BLEZL (R885). -/
def execBlezl (rs : Reg) (offset : BitVec 16) (s : State) : Out :=
  s.branchLikely (nonPositive (s.gpr rs)) offset

/-- BGTZ (R878). -/
def execBgtz (rs : Reg) (offset : BitVec 16) (s : State) : Out :=
  s.branch (!nonPositive (s.gpr rs)) offset

/-- BGTZL (R886). -/
def execBgtzl (rs : Reg) (offset : BitVec 16) (s : State) : Out :=
  s.branchLikely (!nonPositive (s.gpr rs)) offset

/-- BLTZ (R879). -/
def execBltz (rs : Reg) (offset : BitVec 16) (s : State) : Out :=
  s.branch ((s.gpr rs).msb) offset

/-- BLTZL (R887). -/
def execBltzl (rs : Reg) (offset : BitVec 16) (s : State) : Out :=
  s.branchLikely ((s.gpr rs).msb) offset

/-- BGEZ (R880). -/
def execBgez (rs : Reg) (offset : BitVec 16) (s : State) : Out :=
  s.branch (!(s.gpr rs).msb) offset

/-- BGEZL (R888). -/
def execBgezl (rs : Reg) (offset : BitVec 16) (s : State) : Out :=
  s.branchLikely (!(s.gpr rs).msb) offset

/-- BLTZAL (R881). -/
def execBltzal (rs : Reg) (offset : BitVec 16) (s : State) : Out :=
  s.setLinkReg.branch ((s.gpr rs).msb) offset

/-- BLTZALL (R889). -/
def execBltzall (rs : Reg) (offset : BitVec 16) (s : State) : Out :=
  s.setLinkReg.branchLikely ((s.gpr rs).msb) offset

/-- BGEZAL (R882). -/
def execBgezal (rs : Reg) (offset : BitVec 16) (s : State) : Out :=
  s.setLinkReg.branch (!(s.gpr rs).msb) offset

/-- BGEZALL (R890). -/
def execBgezall (rs : Reg) (offset : BitVec 16) (s : State) : Out :=
  s.setLinkReg.branchLikely (!(s.gpr rs).msb) offset

/-! ## Branches on a floating-point condition (R892 to R895) -/

/-- CP1 usability, then MIPS IV for a condition other than 0 (R478). -/
def State.requireCondition (s : State) (cc : BitVec 3) (k : Out) : Out :=
  s.requireCp1 (if cc = 0#3 then k else s.requireMips4 k)

/-- BC1F (R892). -/
def execBc1f (cc : BitVec 3) (offset : BitVec 16) (s : State) : Out :=
  s.requireCondition cc (s.branch (!s.condition cc) offset)

/-- BC1T (R893). -/
def execBc1t (cc : BitVec 3) (offset : BitVec 16) (s : State) : Out :=
  s.requireCondition cc (s.branch (s.condition cc) offset)

/-- BC1FL (R894). -/
def execBc1fl (cc : BitVec 3) (offset : BitVec 16) (s : State) : Out :=
  s.requireCondition cc (s.branchLikely (!s.condition cc) offset)

/-- BC1TL (R895). -/
def execBc1tl (cc : BitVec 3) (offset : BitVec 16) (s : State) : Out :=
  s.requireCondition cc (s.branchLikely (s.condition cc) offset)

/-! ## Conditional traps (R900 to R911) -/

/-- TGE (R900). -/
def execTge (rs : Reg) (rt : Reg) (_code : BitVec 10) (s : State) : Out :=
  s.trapIf (!(s.gpr rs).slt (s.gpr rt))

/-- TGEI (R906). -/
def execTgei (rs : Reg) (immediate : BitVec 16) (s : State) : Out :=
  s.trapIf (!(s.gpr rs).slt (sext16 immediate))

/-- TGEU (R901). -/
def execTgeu (rs : Reg) (rt : Reg) (_code : BitVec 10) (s : State) : Out :=
  s.trapIf (!(s.gpr rs).ult (s.gpr rt))

/-- TGEIU (R907). -/
def execTgeiu (rs : Reg) (immediate : BitVec 16) (s : State) : Out :=
  s.trapIf (!(s.gpr rs).ult (sext16 immediate))

/-- TLT (R902). -/
def execTlt (rs : Reg) (rt : Reg) (_code : BitVec 10) (s : State) : Out :=
  s.trapIf ((s.gpr rs).slt (s.gpr rt))

/-- TLTI (R908). -/
def execTlti (rs : Reg) (immediate : BitVec 16) (s : State) : Out :=
  s.trapIf ((s.gpr rs).slt (sext16 immediate))

/-- TLTU (R903). -/
def execTltu (rs : Reg) (rt : Reg) (_code : BitVec 10) (s : State) : Out :=
  s.trapIf ((s.gpr rs).ult (s.gpr rt))

/-- TLTIU (R909). -/
def execTltiu (rs : Reg) (immediate : BitVec 16) (s : State) : Out :=
  s.trapIf ((s.gpr rs).ult (sext16 immediate))

/-- TEQ (R904). -/
def execTeq (rs : Reg) (rt : Reg) (_code : BitVec 10) (s : State) : Out :=
  s.trapIf (s.gpr rs == s.gpr rt)

/-- TEQI (R910). -/
def execTeqi (rs : Reg) (immediate : BitVec 16) (s : State) : Out :=
  s.trapIf (s.gpr rs == sext16 immediate)

/-- TNE (R905). -/
def execTne (rs : Reg) (rt : Reg) (_code : BitVec 10) (s : State) : Out :=
  s.trapIf (s.gpr rs != s.gpr rt)

/-- TNEI (R911). -/
def execTnei (rs : Reg) (immediate : BitVec 16) (s : State) : Out :=
  s.trapIf (s.gpr rs != sext16 immediate)

/-! ## SYSCALL and BREAK (R915, R916) -/

/-- SYSCALL (R915). -/
def execSyscall (_code : BitVec 20) (s : State) : Out :=
  .next (s.takeException excSys)

/-- BREAK (R916). -/
def execBreakpoint (_code : BitVec 20) (s : State) : Out :=
  .next (s.takeException excBp)

end Sys2Proof.Machine
end

