-- ==== Sys2Proof/Machine/Ecc.lean ====
section
/-! DEFINITION. The error correcting codes of the secondary cache (spec/21 R302, R303, R316). The check matrices are lost; what
survives is the weight of their columns: 3 for the tag, 3 or 5 for the data. A code is any matrix with distinct columns of those
weights, chosen by free values, so it has the SECDED property whatever the choice (notes/assumptions/51.md). -/

namespace Sys2Proof.Machine

/-- The n-bit columns whose weight is one of `ws`, in rising order. -/
def columnsOf (n : Nat) (ws : List Nat) : List (BitVec n) :=
  ((List.range (2 ^ n)).map (BitVec.ofNat n)).filter fun c => ws.contains (popCount c)

/-- `k` different elements of a list, chosen by a sequence of draws. -/
def chooseFrom {α : Type} (draw : Nat → Nat) : Nat → List α → List α
  | 0, _ => []
  | k + 1, l =>
    match l[draw k % l.length]? with
    | some c => c :: chooseFrom draw k (l.eraseIdx (draw k % l.length))
    | .none => []

/-- The matrix of the tag code: a 7-bit column for each of 26 bits. -/
def tagMatrix : List (BitVec 7) := chooseFrom Config.tagColumn 26 (columnsOf 7 [3])

/-- The matrix of the data code: a 9-bit column for each of 128 bits. -/
def dataMatrix : List (BitVec 9) := chooseFrom Config.dataColumn 128 (columnsOf 9 [3, 5])

/-- The check bits of a value: the xor of the columns of its ones, from bit i up. -/
def checkBits {n m : Nat} (v : BitVec m) : List (BitVec n) → Nat → BitVec n
  | [], _ => 0
  | c :: l, i => (if v.getLsbD i then c else 0) ^^^ checkBits v l (i + 1)

/-- What a checker delivers: the value, whether an uncorrectable error was found, whether one was corrected. -/
structure Checked (α : Type) where
  /-- the value, corrected -/
  value : α
  /-- an uncorrectable error -/
  bad : Bool
  /-- a corrected error -/
  fixed : Bool
  deriving DecidableEq, Repr

/-- A value through the corrector: no error, a single wrong bit, which is put right, or uncorrectable (R316). -/
def correct {n m : Nat} (matrix : List (BitVec n)) (v : BitVec m) (c : BitVec n) : Checked (BitVec m) :=
  let syndrome := checkBits v matrix 0 ^^^ c
  if syndrome = 0 then ⟨v, false, false⟩
  else if matrix.contains syndrome then ⟨v ^^^ (1#m <<< matrix.idxOf syndrome), false, true⟩
  else if popCount syndrome = 1 then ⟨v, false, true⟩
  else ⟨v, true, false⟩

/-- The 7-bit ECC of a secondary tag (R302). -/
def tagEcc (v : BitVec 26) : BitVec 7 := checkBits v tagMatrix 0

/-- The tag corrector (R302). -/
def tagCorrect (v : BitVec 26) (c : BitVec 7) : Checked (BitVec 26) := correct tagMatrix v c

/-- The 9-bit ECC of a quadword (R303). -/
def dataEcc (v : QWord) : BitVec 9 := checkBits v dataMatrix 0

/-- The data corrector (R303). -/
def dataCorrect (v : QWord) (c : BitVec 9) : Checked QWord := correct dataMatrix v c

end Sys2Proof.Machine
end

