-- ==== Sys2Proof/Machine/Memory.lean ====
section
/-! DEFINITION. Physical memory: 2^40 bytes (R180) in one canonical form (`Sparse`), read and written by aligned doublewords
under byte lanes. The byte at address A sits on lane A mod 8 (little endian) or 7 - (A mod 8) (big endian) (R230). -/

namespace Sys2Proof.Machine

/-- What a byte that nothing has written reads as (notes/assumptions/6.md). -/
def memDefault : Byte := 0

/-- One byte. -/
def Memory.read (m : List Host.Cell) (a : Nat) : Byte := Sparse.get memDefault m a

/-- Write one byte, keeping the canonical form. -/
def Memory.write (m : List Host.Cell) (a : Nat) (b : Byte) : List Host.Cell := Sparse.set memDefault m a b

/-- The canonical form. -/
def Memory.wf (m : List Host.Cell) : Bool := Sparse.wf memDefault m

/-- The address within a doubleword of the byte on lane k (R230). -/
def laneAddress (be : Bool) (k : Nat) : Nat := if be then 7 - k else k

/-- The doubleword at an aligned address. -/
def Memory.readDouble (be : Bool) (m : List Host.Cell) (base : Nat) : DWord :=
  let b (k : Nat) : Byte := Memory.read m (base + laneAddress be k)
  b 7 ++ b 6 ++ b 5 ++ b 4 ++ b 3 ++ b 2 ++ b 1 ++ b 0

/-- Write lane k of a doubleword if it is selected. -/
def Memory.writeLane (be : Bool) (lanes : BitVec 8) (d : DWord) (base k : Nat) (m : List Host.Cell) : List Host.Cell :=
  if lanes.getLsbD k then Memory.write m (base + laneAddress be k) (laneOf d k) else m

/-- Write the selected lanes of the doubleword at an aligned address. -/
def Memory.writeDouble (be : Bool) (m : List Host.Cell) (base : Nat) (lanes : BitVec 8) (d : DWord) : List Host.Cell :=
  let w := Memory.writeLane be lanes d base
  w 7 (w 6 (w 5 (w 4 (w 3 (w 2 (w 1 (w 0 m)))))))

end Sys2Proof.Machine
end

