-- ==== Sys2Proof/Machine/Tlb.lean ====
section
/-! DEFINITION. Address spaces, the TLB and address translation (spec/20_memory.md R180 to R209). -/

namespace Sys2Proof.Machine

/-- What a memory reference is for (R200). -/
inductive Access where
  /-- instruction fetch -/
  | fetch
  /-- load -/
  | load
  /-- store -/
  | store
  /-- CACHE instruction -/
  | cacheOp
  /-- prefetch -/
  | pref
  deriving DecidableEq, Repr

/-- Where a reference goes: physical address, cache algorithm, uncached attribute (R200). -/
structure Phys where
  /-- PA[39:0] -/
  pa : PAddr
  /-- the cache algorithm, R215 -/
  alg : BitVec 3
  /-- the uncached attribute, R219 -/
  attr : BitVec 2
  deriving DecidableEq, Repr

/-- What an address of the virtual space is (R190): illegal, unmapped, or mapped through the TLB. -/
inductive Segment where
  /-- Address Error -/
  | illegal
  /-- no TLB lookup -/
  | unmapped (p : Phys)
  /-- through the TLB -/
  | mapped
  deriving DecidableEq, Repr

/-- The result of translation (R200). -/
inductive Xlate where
  /-- the physical address -/
  | ok (p : Phys)
  /-- Address Error -/
  | addressError
  /-- TLB Refill -/
  | refill
  /-- TLB Invalid -/
  | invalid
  /-- TLB Modified -/
  | modified
  deriving DecidableEq, Repr

/-- The cache algorithms (R215). -/
def algUncached : BitVec 3 := 2
/-- Uncached accelerated. -/
def algAccelerated : BitVec 3 := 7

/-- Algorithms 3, 4 and 5 are cached (R217). -/
def algCached (c : BitVec 3) : Bool := c == 3#3 || c == 4#3 || c == 5#3

/-- Algorithms 0, 1 and 6 are reserved (R218). -/
def algReserved (c : BitVec 3) : Bool := c == 0#3 || c == 1#3 || c == 6#3

/-- The uncached attribute of an unmapped reference (R219). -/
def unmappedAttr (va : DWord) : BitVec 2 := va.extractLsb' 57 2

/-- kseg0, kseg1 and their 64-bit forms: PA is va[28:0] (R187); `attr` is the parameter `CompatSegUncachedAttr` (R219). -/
def physSegment (attr : Option (BitVec 2)) (va : DWord) (alg : BitVec 3) : Segment :=
  .unmapped ⟨(va.extractLsb' 0 29).setWidth 40, alg, attr.getD (unmappedAttr va)⟩

/-- The user region with ERL = 1: PA is va[30:0], uncached (R191). -/
def erlSegment (va : DWord) : Segment :=
  .unmapped ⟨(va.extractLsb' 0 31).setWidth 40, algUncached, unmappedAttr va⟩

/-- xkphys (R189). -/
def xkphys (va : DWord) : Segment :=
  let c := va.extractLsb' 59 3
  let legal := if c == algUncached || c == algAccelerated then va.extractLsb' 40 17 == 0#17 else va.extractLsb' 40 19 == 0#19
  if legal then .unmapped ⟨va.extractLsb' 0 40, c, unmappedAttr va⟩ else .illegal

/-- The compatibility segments of Kernel mode, 0xFFFFFFFF_80000000 and above (R187, R188); K0 is Config.K0. -/
def compatSegment (attr : Option (BitVec 2)) (k0 : BitVec 3) (va : DWord) : Segment :=
  match (va.extractLsb' 29 2).toNat with
  | 0 => physSegment attr va k0
  | 1 => physSegment attr va algUncached
  | _ => .mapped

/-- Kernel mode, 32-bit addressing (R187, R191; column K32 of R190). -/
def kernel32 (attr : Option (BitVec 2)) (k0 : BitVec 3) (erl : Bool) (va : DWord) : Segment :=
  if va.toNat < 0x80000000 then (if erl then erlSegment va else .mapped)
  else if 0xFFFFFFFF80000000 ≤ va.toNat then compatSegment attr k0 va
  else .illegal

/-- Kernel mode, 64-bit addressing (R188, R189, R191; columns K64 of R190); `xks`: xksseg is mapped. -/
def kernel64 (attr : Option (BitVec 2)) (k0 : BitVec 3) (erl ux xks : Bool) (va : DWord) : Segment :=
  match (va.extractLsb' 62 2).toNat with
  | 0 =>
    if va.toNat < 0x80000000 then (if erl then erlSegment va else .mapped)
    else if va.toNat < 0x100000000000 then (if ux && !erl then .mapped else .illegal)
    else .illegal
  | 1 => if va.toNat < 0x4000100000000000 && xks then .mapped else .illegal
  | 2 => xkphys va
  | _ =>
    if 0xFFFFFFFF80000000 ≤ va.toNat then compatSegment attr k0 va
    else if va.toNat < 0xC0000FFF00000000 then .mapped
    else .illegal

/-- sseg and csseg: 0xFFFFFFFF_C0000000 to 0xFFFFFFFF_DFFFFFFF (R186). -/
def supervisorHigh (va : DWord) : Bool := 0xFFFFFFFFC0000000 ≤ va.toNat && va.toNat < 0xFFFFFFFFE0000000

/-- Supervisor mode (R186; columns S32 and S64 of R190). -/
def supervisorSegment (sx ux : Bool) (va : DWord) : Segment :=
  if va.toNat < 0x80000000 || supervisorHigh va then .mapped
  else if sx && ux && va.toNat < 0x100000000000 then .mapped
  else if sx && 0x4000000000000000 ≤ va.toNat && va.toNat < 0x4000100000000000 then .mapped
  else .illegal

/-- User mode (R185; columns U32 and U64 of R190). -/
def userSegment (ux : Bool) (va : DWord) : Segment :=
  if va.toNat < (if ux then 0x100000000000 else 0x80000000) then .mapped else .illegal

/-- Whether xksseg is mapped in Kernel mode: with SX = 1. With SX = 0 "access to any address in the space ... causes an address error"
(R188, R190), but R1023 and D33 send a Kernel access there to the 32-bit Refill vector, which supposes that it is mapped and misses; no
entry of spec/90_conflicts.md decides. DESIGN CHOICE (notes/assumptions/66.md): a parameter of the model's own takes either reading. -/
def State.xkssegMapped (s : State) : Bool := s.sx || s.params.xkssegRefill

/-- What an address is in the current mode (R190). -/
def State.segment (s : State) (va : DWord) : Segment :=
  match s.mode with
  | .kernel => if s.kx then kernel64 s.params.compatAttr s.cp0.k0 s.erl s.ux s.xkssegMapped va
    else kernel32 s.params.compatAttr s.cp0.k0 s.erl va
  | .supervisor => supervisorSegment s.sx s.ux va
  | .user => userSegment s.ux va

/-! ## The TLB -/

/-- MASK extended to the width of VPN2: `0^19 || MASK` (R197). -/
def maskVpn (m : BitVec 12) : BitVec 31 := m.setWidth 31

/-- The current ASID (R199). -/
def State.asid (s : State) : BitVec 8 := s.cp0.entryHi.extractLsb' 0 8

/-- Whether an entry matches a region, a VPN2 and an ASID (R197); a dead entry matches nothing (R207). -/
def TlbEntry.hits (e : TlbEntry) (r : BitVec 2) (vpn2 : BitVec 31) (asid : BitVec 8) : Bool :=
  !e.dead && e.r == r && (e.vpn2 &&& ~~~(maskVpn e.mask)) == (vpn2 &&& ~~~(maskVpn e.mask)) && (e.g || e.asid == asid)

/-- Whether an entry matches a virtual address (R197). -/
def TlbEntry.matchesVa (e : TlbEntry) (va : DWord) (asid : BitVec 8) : Bool :=
  e.hits (va.extractLsb' 62 2) (va.extractLsb' 13 31) asid

/-- The element a lookup uses: the only one; of several, any one (R203, I8). -/
def pickMatch {α : Type} (pick : Nat) : List α → Option α
  | [] => .none
  | [a] => some a
  | a :: b :: l => (a :: b :: l)[pick % (l.length + 2)]?

/-- The entry that translates an address. -/
def State.tlbLookup (s : State) (va : DWord) : Option TlbEntry :=
  pickMatch (Config.tlbPick s.ctr) (s.tlb.toList.filter fun e => e.matchesVa va s.asid)

/-- The page of an entry that an address selects: bit 12 + n, n the number of ones of MASK (R196). -/
def TlbEntry.page (e : TlbEntry) (va : DWord) : TlbPage :=
  if va.getLsbD (12 + popCount e.mask) then e.odd else e.even

/-- The physical address: PFN[27:n] above the offset va[11+n:0] (R201). -/
def TlbEntry.physAddr (e : TlbEntry) (p : TlbPage) (va : DWord) : PAddr :=
  let n := popCount e.mask
  let off : PAddr := BitVec.ofNat 40 (2 ^ (12 + n) - 1)
  mergeMask off (p.pfn ++ 0#12) (va.setWidth 40)

/-- Translation through one entry (R200). -/
def TlbEntry.translate (e : TlbEntry) (va : DWord) (kind : Access) : Xlate :=
  let p := e.page va
  if !p.v then .invalid
  else if kind == .store && !p.d then .modified
  else .ok ⟨e.physAddr p va, p.c, p.uc⟩

/-- The address after the adjustment of 32-bit User mode for data references (R182). -/
def State.dataAddress (s : State) (va : DWord) : DWord :=
  if s.mode == .user && !s.ux then (low32 va).setWidth 64 else va

/-- `Translate` without the alignment test, on an adjusted address (R200). -/
def State.translate (s : State) (va : DWord) (kind : Access) : Xlate :=
  match s.segment va with
  | .illegal => .addressError
  | .unmapped p => .ok p
  | .mapped =>
    match s.tlbLookup va with
    | .none => .refill
    | some e => e.translate va kind

/-- The exception of a failed translation (R1031, R1035, R1036); `store` chooses AdES and TLBS. -/
def State.xlateException (s : State) (store : Bool) (va : DWord) (x : Xlate) : State :=
  match x with
  | .ok _ => s
  | .addressError => s.addressError store va
  | .refill => s.tlbRefill store va
  | .invalid => s.tlbInvalid store va
  | .modified => s.tlbModified va

/-! ## TLB instructions (R595 to R598, R207) -/

/-- `Overlap`: some address and ASID could match both (R207). -/
def TlbEntry.overlaps (a b : TlbEntry) : Bool :=
  let m := maskVpn (a.mask ||| b.mask)
  a.r == b.r && (a.vpn2 &&& ~~~m) == (b.vpn2 &&& ~~~m) && (a.g || b.g || a.asid == b.asid)

/-- The page an EntryLo register describes, PFN bits masked by FrameMask and by MASK (R597). -/
def tlbPageOf (lo : DWord) (frameMask : BitVec 16) (m : BitVec 12) : TlbPage where
  uc := lo.extractLsb' 62 2
  pfn := lo.extractLsb' 6 28 &&& ~~~(frameMask ++ 0#12) &&& ~~~(m.setWidth 28)
  c := lo.extractLsb' 3 3
  d := lo.getLsbD 2
  v := lo.getLsbD 1

/-- The entry a TLB write presents (R597). -/
def Cp0.tlbEntry (c : Cp0) : TlbEntry :=
  let m := c.pageMask.extractLsb' 13 12
  { mask := m
    r := c.entryHi.extractLsb' 62 2
    vpn2 := c.entryHi.extractLsb' 13 31 &&& ~~~(maskVpn m)
    g := c.entryLo0.getLsbD 0 && c.entryLo1.getLsbD 0
    asid := c.entryHi.extractLsb' 0 8
    even := tlbPageOf c.entryLo0 (c.frameMask.extractLsb' 0 16) m
    odd := tlbPageOf c.entryLo1 (c.frameMask.extractLsb' 0 16) m
    dead := false }

/-- The seven legal MASK values of Table 14-6 (R92). -/
def maskLegal (m : BitVec 12) : Bool :=
  m == 0x000#12 || m == 0x003#12 || m == 0x00F#12 || m == 0x03F#12 || m == 0x0FF#12 || m == 0x3FF#12 || m == 0xFFF#12

/-- An entry of the TLB as a conflicting write leaves it (R207): a live entry that overlaps dies; one that is dead stays so. -/
def TlbEntry.afterConflict (e new : TlbEntry) : TlbEntry := if !e.dead && e.overlaps new then { e with dead := true } else e

/-- Whether writing `new` into slot i conflicts with another live entry, and so sets Status.TS (R207). DESIGN CHOICE: a dead entry makes
no conflict, because it "matches nothing until it is rewritten", though the formula `Overlap` of R207 compares its fields without a
test of the flag (notes/assumptions/69.md). -/
def State.tlbConflict (s : State) (i : BitVec 6) (new : TlbEntry) : Bool :=
  (List.finRange 64).any fun j => decide (j ≠ i.toFin) && !(s.tlb.get j).dead && (s.tlb.get j).overlaps new

/-- `TLBWrite(i)` (R597) with the conflict rule (R207). -/
def State.tlbWrite (s : State) (i : BitVec 6) : State :=
  let new := s.cp0.tlbEntry
  let status := if s.tlbConflict i new then putBit s.cp0.status 21 true else s.cp0.status
  { s with
    tlb := (s.tlb.map fun e => e.afterConflict new).set i.toNat new i.isLt
    cp0 := { s.cp0 with status := status } }

/-- The value Random takes when an instruction graduates: any value in [Wired, 63] (R84, D10). -/
def State.nextRandom (s : State) : BitVec 6 :=
  BitVec.ofNat 6 (s.cp0.wired.toNat + (Config.randomDraw s.ctr).toNat % (64 - s.cp0.wired.toNat))

/-- `TLBR` (R596): the entry Index names, into PageMask, EntryHi, EntryLo0 and EntryLo1. -/
def State.tlbRead (s : State) : State :=
  let e := s.tlb.get (s.cp0.index.extractLsb' 0 6).toFin
  let lo (p : TlbPage) : DWord :=
    p.uc ++ 0#28 ++ p.pfn ++ p.c ++ BitVec.ofBool p.d ++ BitVec.ofBool p.v ++ BitVec.ofBool e.g
  { s with
    cp0 := { s.cp0 with
      pageMask := 0#7 ++ e.mask ++ 0#13
      entryHi := e.r ++ 0#18 ++ (e.vpn2 &&& ~~~(maskVpn e.mask)) ++ 0#5 ++ e.asid
      entryLo1 := lo e.odd
      entryLo0 := lo e.even } }

/-- The slots whose entry matches EntryHi (R595). -/
def State.probeMatches (s : State) : List (Fin 64) :=
  (List.finRange 64).filter fun j =>
    (s.tlb.get j).hits (s.cp0.entryHi.extractLsb' 62 2) (s.cp0.entryHi.extractLsb' 13 31) s.asid

/-- `TLBP` (R595): the matching slot, or P = 1 with the Index field undefined (I10). -/
def State.tlbProbe (s : State) : State :=
  let index : Word :=
    match pickMatch (Config.tlbPick s.ctr) s.probeMatches with
    | some j => BitVec.ofNat 32 j.val
    | .none => 1#1 ++ 0#25 ++ Config.probeIndex s.ctr
  { s with cp0 := { s.cp0 with index := index } }

end Sys2Proof.Machine
end

