-- ==== Sys2Proof/Machine/Caches.lean ====
section
/-! DEFINITION. The caches (spec/21_caches_coherency.md R260 to R316): reading and writing the arrays, write backs and purges,
finding or filling a block in the secondary cache, the data cache and the instruction cache, and the data of a hit. -/

namespace Sys2Proof.Machine

/-- The result of an access below translation: a value; a Bus Error (an ERR completion, R388); an uncorrectable error that
was posted and is taken at once (R306); the instruction stays where it is, in the hang of R313 or before a full uncached buffer (R345); a
stop. Each but the last holds the state it leaves. -/
inductive Res (α : Type) where
  /-- it succeeds -/
  | ok (a : α) (s : State)
  /-- Bus Error -/
  | busError (s : State)
  /-- Cache Error -/
  | cacheError (s : State)
  /-- the instruction waits -/
  | wait (s : State)
  /-- the model stops -/
  | stop (f : Fault)

/-- Go on with the value. -/
def Res.bind {α β : Type} (x : Res α) (f : α → State → Res β) : Res β :=
  match x with
  | .ok a s => f a s
  | .busError s => .busError s
  | .cacheError s => .cacheError s
  | .wait s => .wait s
  | .stop r => .stop r

/-- After an error was posted: it is taken at once, unless ERL or DE holds it back, and then the data are used (R306, R309). -/
def State.goOn {α : Type} (s : State) (a : α) : Res α := if s.cacheErrorDue then .cacheError s else .ok a s

/-! ## The arrays -/

/-- The entry of way w of set i. -/
def wayKey (i : Nat) (w : Bool) : Nat := 2 * i + w.toNat

/-- Index of a primary instruction cache set, VA[13:6] (R262). -/
def iSet (va : DWord) : Nat := (va.extractLsb' 6 8).toNat
/-- Index of a primary data cache set, VA[13:5] (R265). -/
def dSet (va : DWord) : Nat := (va.extractLsb' 5 9).toNat

/-- Instruction tag. -/
def State.iTagAt (s : State) (k : Nat) : ITag := Sparse.get ITag.default s.caches.iTag k
/-- Data tag. -/
def State.dTagAt (s : State) (k : Nat) : DTag := Sparse.get DTag.default s.caches.dTag k
/-- Secondary tag. -/
def State.sTagAt (s : State) (k : Nat) : STag := Sparse.get STag.default s.caches.sTag k
/-- Instruction word i of a block. -/
def State.iWordAt (s : State) (k i : Nat) : IWord := Sparse.get IWord.default s.caches.iData (16 * k + i)
/-- Data word i of a block. -/
def State.dWordAt (s : State) (k i : Nat) : DLine := Sparse.get DLine.default s.caches.dData (8 * k + i)
/-- Instruction LRU bit of a set. -/
def State.iLruAt (s : State) (i : Nat) : Bool := Sparse.get false s.caches.iLru i
/-- Data LRU bit of a set. -/
def State.dLruAt (s : State) (i : Nat) : Bool := Sparse.get false s.caches.dLru i
/-- An entry of the way prediction table. -/
def State.mruAt (s : State) (i : Nat) : Bool := Sparse.get false s.caches.sMru i

/-- Write an instruction tag. -/
def State.setITag (s : State) (k : Nat) (t : ITag) : State :=
  { s with caches := { s.caches with iTag := Sparse.set ITag.default s.caches.iTag k t } }
/-- Write a data tag. -/
def State.setDTag (s : State) (k : Nat) (t : DTag) : State :=
  { s with caches := { s.caches with dTag := Sparse.set DTag.default s.caches.dTag k t } }
/-- Write a secondary tag. -/
def State.setSTag (s : State) (k : Nat) (t : STag) : State :=
  { s with caches := { s.caches with sTag := Sparse.set STag.default s.caches.sTag k t } }
/-- Write a word of an instruction block. -/
def State.setIWord (s : State) (k i : Nat) (w : IWord) : State :=
  { s with caches := { s.caches with iData := Sparse.set IWord.default s.caches.iData (16 * k + i) w } }
/-- Write a word of a data block. -/
def State.setDWord (s : State) (k i : Nat) (w : DLine) : State :=
  { s with caches := { s.caches with dData := Sparse.set DLine.default s.caches.dData (8 * k + i) w } }
/-- Write an instruction LRU bit. -/
def State.setILru (s : State) (i : Nat) (b : Bool) : State :=
  { s with caches := { s.caches with iLru := Sparse.set false s.caches.iLru i b } }
/-- Write a data LRU bit. -/
def State.setDLru (s : State) (i : Nat) (b : Bool) : State :=
  { s with caches := { s.caches with dLru := Sparse.set false s.caches.dLru i b } }
/-- Write an entry of the way prediction table. -/
def State.setMru (s : State) (i : Nat) (b : Bool) : State :=
  { s with caches := { s.caches with sMru := Sparse.set false s.caches.sMru i b } }
/-- Replace physical memory. -/
def State.setMem (s : State) (m : List Host.Cell) : State := { s with mem := m }

/-! ### Secondary cache geometry (R270, R280, R281) -/

/-- Mode bit SCBlkSize: 32-word blocks. -/
def State.scBlkSize (s : State) : Bool := s.bus.modeBits.getLsbD 13
/-- Mode bit SCCorEn (R304). -/
def State.scCorEn (s : State) : Bool := s.bus.modeBits.getLsbD 14
/-- Mode bits SCSize. -/
def State.scSize (s : State) : Nat := (s.bus.modeBits.extractLsb' 16 3).toNat
/-- log2 of the block size in bytes. -/
def State.sBlkBits (s : State) : Nat := if s.scBlkSize then 7 else 6
/-- Quadwords to a block. -/
def State.sQuads (s : State) : Nat := if s.scBlkSize then 8 else 4
/-- The set of a physical address, PA[17+n : 6] or PA[17+n : 7] (R280). -/
def State.sSet (s : State) (pa : PAddr) : Nat := (pa.toNat >>> s.sBlkBits) % 2 ^ (18 + s.scSize - s.sBlkBits)
/-- The entry of a way. -/
def State.sKey (s : State) (pa : PAddr) (w : Bool) : Nat := wayKey (s.sSet pa) w
/-- The way prediction table entry of an address (R281). -/
def State.mruIndex (s : State) (pa : PAddr) : Nat :=
  (pa.toNat >>> s.sBlkBits) % 2 ^ (min (18 + s.scSize) (13 + s.sBlkBits) - s.sBlkBits)
/-- The quadword of its block that an address lies in. -/
def State.sQuadIndex (s : State) (pa : PAddr) : Nat := (pa.toNat >>> 4) % s.sQuads
/-- A physical address with the offset in its secondary block cleared. -/
def State.blockBase (s : State) (pa : PAddr) : PAddr := (pa >>> s.sBlkBits) <<< s.sBlkBits
/-- Quadword q of a block. -/
def State.sQuadAt (s : State) (k q : Nat) : SQuad := Sparse.get SQuad.default s.caches.sData (s.sQuads * k + q)
/-- Write quadword q of a block. -/
def State.setSQuad (s : State) (k q : Nat) (d : SQuad) : State :=
  { s with caches := { s.caches with sData := Sparse.set SQuad.default s.caches.sData (s.sQuads * k + q) d } }
/-- Whether the external agent answers ERR, unless it says otherwise, to a request for the `2^n` bytes around pa (R388). -/
def State.errBlock (s : State) (n : Nat) (pa : PAddr) : Bool :=
  s.bus.errAddrs.any fun a => a >>> n == pa.toNat >>> n

/-! ## Words and quadwords -/

/-- The two words of a doubleword in address order (R230). -/
def wordsOf (be : Bool) (d : DWord) : Word × Word := if be then (high32 d, low32 d) else (low32 d, high32 d)

/-- The doubleword of two words in address order (R230). -/
def doubleOf (be : Bool) (a b : Word) : DWord := if be then a ++ b else b ++ a

/-- The doubleword of a quadword with PA[3] = 0 is bits 127:64 (R352). -/
def quadEven (q : QWord) : DWord := q.extractLsb' 64 64
/-- The doubleword with PA[3] = 1. -/
def quadOdd (q : QWord) : DWord := q.extractLsb' 0 64

/-- The doubleword of a quadword that PA[3] names (R352, R572). -/
def quadPart (q : QWord) (pa : PAddr) : DWord := if pa.getLsbD 3 then quadOdd q else quadEven q

/-- A data word with its right parity (R300). -/
def dLineOf (w : Word) : DLine := ⟨w, byteParity w⟩

/-- The four words of a quadword in address order. -/
def quadWords (be : Bool) (q : QWord) : List Word :=
  [(wordsOf be (quadEven q)).1, (wordsOf be (quadEven q)).2, (wordsOf be (quadOdd q)).1, (wordsOf be (quadOdd q)).2]

/-- Put words into a data block from word i on. -/
def State.putDWords (s : State) (k i : Nat) : List Word → State
  | [] => s
  | w :: l => (s.setDWord k i (dLineOf w)).putDWords k (i + 1) l

/-- Put words into an instruction block from word i on. -/
def State.putIWords (s : State) (k i : Nat) : List Word → State
  | [] => s
  | w :: l => (s.setIWord k i ⟨.plain w, none⟩).putIWords k (i + 1) l

/-! ## Tags -/

/-- The bits of a block state (R266). -/
def BlockState.bits : BlockState → BitVec 2
  | .invalid => 0
  | .shared => 1
  | .cleanExclusive => 2
  | .dirtyExclusive => 3

/-- The block state of two bits. -/
def BlockState.ofBits (b : BitVec 2) : BlockState :=
  if b = 0#2 then .invalid else if b = 1#2 then .shared else if b = 2#2 then .cleanExclusive else .dirtyExclusive

/-- SP of a data tag: even parity of PState and Way (R300). -/
def dStateParity (st : BlockState) (scWay : Bool) : Bool := parityBit (st.bits ++ BitVec.ofBool scWay)

/-- A data tag with right parities. -/
def dTagOf (tag : BitVec 28) (st : BlockState) (mod : BitVec 3) (scWay : Bool) : DTag :=
  ⟨tag, st, mod, scWay, parityBit tag, dStateParity st scWay⟩

/-- The page number of a physical address, PA[39:12]. -/
def pageOf (pa : PAddr) : BitVec 28 := pa.extractLsb' 12 28

/-- A primary data block is invalidated: state 00, SCWay 0, StateMod Normal, state parity 0 (R536, R546). -/
def State.dInvalidate (s : State) (k : Nat) : State :=
  s.setDTag k { s.dTagAt k with state := .invalid, scWay := false, mod := 0b001#3, stateParity := false }

/-- A primary instruction block is invalidated (R545). -/
def State.iInvalidate (s : State) (k : Nat) : State := s.setITag k { s.iTagAt k with valid := false, stateParity := false }

/-- Inconsistent: StateMod 010 (R267). -/
def DTag.inconsistent (t : DTag) : Bool := t.mod == 0b010#3

/-! ## CacheErr images (R160) -/

/-- A field of a CacheErr image. -/
def errField {n : Nat} (lo : Nat) (f : BitVec n) : Word := f.setWidth 32 <<< lo

/-- The local CacheErr of the instruction cache for set i; each pair is way 1, way 0. -/
def State.iErrInfo (s : State) (i : BitVec 8) (d ta ts : BitVec 2) : Word :=
  let p := s.params.cacheErr
  errField p.d d ||| errField p.ta ta ||| errField p.ts ts ||| errField p.pidxI i

/-- The local CacheErr of the data cache for a doubleword index. -/
def State.dErrInfo (s : State) (idx : BitVec 11) (ee : Bool) (d ta ts tm : BitVec 2) : Word :=
  let p := s.params.cacheErr
  errField p.source 1#2 ||| errField p.ee (BitVec.ofBool ee) ||| errField p.d d ||| errField p.ta ta ||| errField p.ts ts |||
    errField p.tm tm ||| errField p.pidxD idx

/-- The local CacheErr of the secondary cache. -/
def State.sErrInfo (s : State) (pa : PAddr) (d ta : BitVec 2) : Word :=
  let p := s.params.cacheErr
  errField p.source 2#2 ||| errField p.d d ||| errField p.ta ta ||| errField p.sidx ((s.blockBase pa).extractLsb' 6 17)

/-- The local CacheErr of the System interface for block data with the error flag set: EE for an exclusive block. -/
def State.siDataInfo (s : State) (pa : PAddr) (ee : Bool) (d : BitVec 2) : Word :=
  let p := s.params.cacheErr
  errField p.source 3#2 ||| errField p.ee (BitVec.ofBool ee) ||| errField p.d d |||
    errField p.sidx ((s.blockBase pa).extractLsb' 6 17)

/-- The local CacheErr of the System interface for a SysResp parity error. -/
def State.siResponseInfo (s : State) : Word := errField s.params.cacheErr.source 3#2 ||| errField s.params.cacheErr.sr 1#1

/-- One bit for the way in question. -/
def wayBit (w bad : Bool) : BitVec 2 := if bad then (if w then 2#2 else 1#2) else 0#2

/-! ## Check bits -/

/-- The check bits of a secondary tag (R277). -/
def STag.eccBits (t : STag) : BitVec 7 :=
  match t.ecc with
  | .good => tagEcc (t.tag ++ t.pidx ++ t.state.bits)
  | .given e => e

/-- The check bits of a quadword: parity, then ECC (R158, R303). -/
def SQuad.checkBits (q : SQuad) : BitVec 10 :=
  match q.check with
  | .good => BitVec.ofBool (parityBit q.data) ++ dataEcc q.data
  | .given c => c

/-! ## Reading the secondary data array (R303, R304) -/

/-- Whether the parity bit of a quadword, SCDataChk(9), is wrong (R304). -/
def SQuad.parityWrong (q : SQuad) : Bool :=
  match q.check with
  | .good => false
  | .given c => c.getLsbD 9 != parityBit q.data

/-- A quadword as the data corrector delivers it (R303). -/
def SQuad.corrected (q : SQuad) : Checked QWord :=
  match q.check with
  | .good => ⟨q.data, false, false⟩
  | .given c => dataCorrect q.data (c.extractLsb' 0 9)

/-- `n` quadwords of a block from quadword q on, as they stand. -/
def State.sQuadsFrom (s : State) (k q n : Nat) : List SQuad := (List.range n).map fun j => s.sQuadAt k (q + j)

/-- `n` quadwords of a block from quadword q on, each with its Uncorrectable Error flag (R344), and whether the read found an
uncorrectable or a corrected error (R304): in correction mode the quadwords go through the corrector; in noncorrection mode they are
used as they stand, unless one has wrong parity: then "the secondary cache block is again read through a data corrector", the
whole of it. -/
def State.sReadQuads (s : State) (k q n : Nat) : Checked (List (QWord × Bool)) :=
  let l := s.sQuadsFrom k q n
  let again := !s.scCorEn && l.any SQuad.parityWrong
  if s.scCorEn || again then
    let r := l.map SQuad.corrected
    let all := if again then (s.sQuadsFrom k 0 s.sQuads).map SQuad.corrected else r
    ⟨r.map fun c => (c.value, c.bad), all.any Checked.bad, all.any Checked.fixed⟩
  else ⟨l.map fun x => (x.data, false), false, false⟩

/-- What a read of the secondary data array reports: a correction on SysCorErr*, an uncorrectable error as a Cache Error (R303). -/
def State.reportSData {α : Type} (s : State) (pa : PAddr) (w : Bool) (r : Checked α) : State :=
  let s1 := s.pulseCor r.fixed
  if r.bad then s1.postS (s1.sErrInfo pa (wayBit w true) 0) else s1

/-! ## Write back and purge (R290, R536) -/

/-- The doubleword j of a data block, numerically. -/
def State.dDouble (s : State) (k j : Nat) : DWord :=
  doubleOf s.memEnd (s.dWordAt k (2 * j)).data (s.dWordAt k (2 * j + 1)).data

/-- Whether a word's bytes under a lane mask all have the right parity (R300). -/
def DLine.parityOk (l : DLine) (lanes : BitVec 4) : Bool := (l.parity ^^^ byteParity l.data) &&& lanes == 0#4

/-- Whether all words of a data block have the right parity. -/
def State.dBlockOk (s : State) (k : Nat) : Bool := (List.range 8).all fun i => (s.dWordAt k i).parityOk 0xF#4

/-- The physical address of the data block in set i whose tag is `tag`: the page from the tag, bits 11:5 from the index. -/
def dBlockAddr (tag : BitVec 28) (i : Nat) : PAddr := tag ++ BitVec.ofNat 7 i ++ 0#5

/-- Write an Inconsistent data block back to the secondary cache, to the address of its tag and the way SCWay; only the data
field of the secondary cache changes (R546). A parity error of the data is posted and the write back goes on (R306). DESIGN CHOICE: PIdx,
VA[13:3], then names doubleword 0 of the block, whichever word is wrong, where R308 is silent (notes/assumptions/34.md). -/
def State.dWriteBack (s : State) (i : Nat) (w : Bool) : State :=
  let k := wayKey i w
  let t := s.dTagAt k
  if t.inconsistent then
    let pa := dBlockAddr t.tag i
    let key := s.sKey pa t.scWay
    let q := s.sQuadIndex pa
    let s1 := if s.dBlockOk k then s else
      s.postD (s.dErrInfo (BitVec.ofNat 9 i ++ 0#2) false (wayBit w true) 0 0 0)
    (s1.setSQuad key q ⟨s.dDouble k 0 ++ s.dDouble k 1, .good⟩).setSQuad key (q + 1) ⟨s.dDouble k 2 ++ s.dDouble k 3, .good⟩
  else s

/-- Two ways' bits, way 1 first. -/
def wayPair (b1 b0 : Bool) : BitVec 2 := BitVec.ofBool b1 ++ BitVec.ofBool b0

/-- A StateMod code without an error: 001, 010 and 100; "every other value is an error" (R266, R301), also in an Invalid entry. What
R1165 says of tags stored from TagHi 0 is a matter of what is stored (`State.storedMod`). -/
def DTag.modOk (t : DTag) : Bool := t.mod == 0b001#3 || t.mod == 0b010#3 || t.mod == 0b100#3

/-- Tag address, state and mod errors of a data tag (R300, R301). -/
def DTag.errors (t : DTag) : Bool × Bool × Bool :=
  (parityBit t.tag != t.tagParity, dStateParity t.state t.scWay != t.stateParity, !t.modOk)

/-- A data tag with any error. -/
def DTag.bad (t : DTag) : Bool := t.errors.1 || t.errors.2.1 || t.errors.2.2

/-- Tag address and state errors of an instruction tag (R300). -/
def ITag.errors (t : ITag) : Bool × Bool := (parityBit t.tag != t.tagParity, t.valid != t.stateParity)

/-- An instruction tag with any error. -/
def ITag.bad (t : ITag) : Bool := t.errors.1 || t.errors.2

/-- Check both tags of data set i, read for the doubleword index `idx`: their errors are posted (R308). DESIGN CHOICE: an interrogation,
which reads no doubleword, gives the index of doubleword 0 of the block (notes/assumptions/63.md). -/
def State.checkDTags (s : State) (i : Nat) (idx : BitVec 11) : State :=
  let t0 := s.dTagAt (wayKey i false)
  let t1 := s.dTagAt (wayKey i true)
  if t0.bad || t1.bad then
    let ee := (t0.bad && t0.inconsistent) || (t1.bad && t1.inconsistent)
    (s.pulseUnc true).postD (s.dErrInfo idx ee 0 (wayPair t1.errors.1 t0.errors.1)
      (wayPair t1.errors.2.1 t0.errors.2.1) (wayPair t1.errors.2.2 t0.errors.2.2))
  else s

/-- Check both tags of instruction set i: their errors are posted (R308). -/
def State.checkITags (s : State) (i : Nat) : State :=
  let t0 := s.iTagAt (wayKey i false)
  let t1 := s.iTagAt (wayKey i true)
  if t0.bad || t1.bad then
    (s.pulseUnc true).postI (s.iErrInfo (BitVec.ofNat 8 i) 0 (wayPair t1.errors.1 t0.errors.1)
      (wayPair t1.errors.2 t0.errors.2))
  else s

/-- What an interrogation of the primary caches writes back (R278, R290, R296, R400, R547, R550, R553). -/
inductive Purge where
  /-- nothing -/
  | drop
  /-- Inconsistent blocks -/
  | inconsistent
  /-- Inconsistent blocks whose state is DirtyExclusive (R547) -/
  | dirty
  deriving DecidableEq, Repr

/-- Whether a data block is written back. -/
def Purge.writes (m : Purge) (t : DTag) : Bool :=
  match m with
  | .drop => false
  | .inconsistent => t.inconsistent
  | .dirty => t.inconsistent && t.state == .dirtyExclusive

/-- Purge one way of a data set if it holds the block at pa: write back where the mode says so, then invalidate. DESIGN CHOICE
(notes/assumptions/43.md): the PState of a block in the refill state counts as it stands. -/
def State.dPurge (s : State) (m : Purge) (i : Nat) (pa : PAddr) (w : Bool) : State :=
  let t := s.dTagAt (wayKey i w)
  if t.state != .invalid && t.tag == pageOf pa then
    (if m.writes t then s.dWriteBack i w else s).dInvalidate (wayKey i w)
  else s

/-- Invalidate one way of an instruction set if it holds the block at pa. -/
def State.iPurge (s : State) (i : Nat) (pa : PAddr) (w : Bool) : State :=
  let t := s.iTagAt (wayKey i w)
  if t.valid && t.tag == pageOf pa then s.iInvalidate (wayKey i w) else s

/-- The primary set index bits under PIdx: VA[13:12] from PIdx, VA[11:0] from PA[11:0] (R278). -/
def aliasVa (pidx : BitVec 2) (pa : PAddr) : DWord := 0#50 ++ pidx ++ pa.extractLsb' 0 12

/-- Purge a data set of the block at pa. The tags are checked as in any other read (R308); that an interrogation checks them is a
DESIGN CHOICE where the rules are silent (R547, R550, R553; notes/assumptions/63.md). -/
def State.dPurgeSet (s : State) (m : Purge) (i : Nat) (pa : PAddr) : State :=
  ((s.checkDTags i (BitVec.ofNat 9 i ++ 0#2)).dPurge m i pa false).dPurge m i pa true

/-- Purge an instruction set of the block at pa; the tags are checked, as in `State.dPurgeSet`. -/
def State.iPurgeSet (s : State) (i : Nat) (pa : PAddr) : State := ((s.checkITags i).iPurge i pa false).iPurge i pa true

/-- Purge the primary blocks that lie in the `n` data-block sized pieces from pa on: the data sets, and the instruction set of
every second piece, whose blocks are twice as long. -/
def State.purgeFrom (s : State) (m : Purge) (pidx : BitVec 2) (pa : PAddr) : Nat → State
  | 0 => s
  | n + 1 =>
    let va := aliasVa pidx pa
    let s1 := s.dPurgeSet m (dSet va) pa
    (if pa.getLsbD 5 then s1 else s1.iPurgeSet (iSet va) pa).purgeFrom m pidx (pa + 32#40) n

/-- Purge the primary blocks that are subsets of the secondary block at pa (R278, R290). -/
def State.purge (s : State) (m : Purge) (pidx : BitVec 2) (pa : PAddr) : State :=
  s.purgeFrom m pidx (s.blockBase pa) (2 ^ (s.sBlkBits - 5))

/-- A data block of way w of set i that holds the block at pa takes a state; a block being refilled has none yet (R266, R267),
and is left as it is (DESIGN CHOICE, notes/assumptions/43.md). -/
def State.dMatch (s : State) (i : Nat) (pa : PAddr) (st : BlockState) (w : Bool) : State :=
  let t := s.dTagAt (wayKey i w)
  if t.state != .invalid && t.tag == pageOf pa && t.mod != 0b100#3 then
    s.setDTag (wayKey i w) { dTagOf t.tag st t.mod t.scWay with tagParity := t.tagParity }
  else s

/-- The data blocks of `n` data-block sized pieces from pa on take a state. -/
def State.dMatchFrom (s : State) (pidx : BitVec 2) (pa : PAddr) (st : BlockState) : Nat → State
  | 0 => s
  | n + 1 =>
    let i := dSet (aliasVa pidx pa)
    ((s.dMatch i pa st false).dMatch i pa st true).dMatchFrom pidx (pa + 32#40) st n

/-- Write quadwords to memory. -/
def State.writeQuads (s : State) (base : Nat) : List QWord → State
  | [] => s
  | q :: l =>
    let m := Memory.writeDouble s.memEnd s.mem base 0xFF#8 (quadEven q)
    (s.setMem (Memory.writeDouble s.memEnd m (base + 8) 0xFF#8 (quadOdd q))).writeQuads (base + 16) l

/-- The address of a secondary block: PA[39:18] from the tag, the rest from the index of an address in its set (R536). -/
def State.sBlockAddr (s : State) (tag : BitVec 22) (pa : PAddr) : PAddr := s.blockBase (tag ++ pa.extractLsb' 0 18)

/-- A tag through the checker: corrected, or as it stands if it cannot be (R302). -/
def STag.checked (t : STag) : Checked STag :=
  match t.ecc with
  | .good => ⟨t, false, false⟩
  | .given e =>
    let c := tagCorrect (t.tag ++ t.pidx ++ t.state.bits) e
    ⟨{ t with
        tag := c.value.extractLsb' 4 22, pidx := c.value.extractLsb' 2 2
        state := BlockState.ofBits (c.value.extractLsb' 0 2) }, c.bad, c.fixed⟩

/-- A secondary tag as the tag checker delivers it (R302). -/
def State.sTagRead (s : State) (k : Nat) : STag := (s.sTagAt k).checked.value

/-! ### The outgoing buffer (R344, R347, R357) -/

/-- Something goes out on the System interface: it is recorded (R440). -/
def State.record (s : State) (w : BusEvent) : State := { s with bus := { s.bus with sent := s.bus.sent ++ [w] } }

/-- Replace the outgoing buffer. -/
def State.setOutgoing (s : State) (l : List Outgoing) : State := { s with bus := { s.bus with outgoing := l } }

/-- A block write request. -/
def OutgoingKind.isWrite (k : OutgoingKind) : Bool :=
  match k with
  | .write => true
  | _ => false

/-- The special entry. -/
def OutgoingKind.isSpecial (k : OutgoingKind) : Bool :=
  match k with
  | .special _ _ => true
  | _ => false

/-- An address aligned to a quadword. -/
def quadBase (pa : PAddr) : PAddr := (pa >>> 4) <<< 4

/-- The quadwords of a block in subblock order from the one at an address: "the k-th quadword transferred is quadword `q xor k` of the
block" (R352). -/
def subblockOrder {α : Type} (first : PAddr) (quads : List α) : List α :=
  (List.range quads.length).filterMap fun k => quads[(first.toNat / 16 % quads.length) ^^^ k]?

/-- What an entry is issued as. A block write that an intervention changed is "a DirtyExclusive processor coherency data response" (R401). -/
def Outgoing.issued (o : Outgoing) : BusEvent :=
  match o.kind with
  | .write => .block o.pa o.way o.quads
  | .converted first => .response first .dirtyExclusive (subblockOrder first o.quads)
  | .special state first => .response first state (subblockOrder first o.quads)

/-- Entries are issued in the order of a list: memory takes their data. -/
def State.issueOutgoing (s : State) : List Outgoing → State
  | [] => s
  | o :: l => ((s.writeQuads o.pa.toNat (o.quads.map Prod.fst)).record o.issued).issueOutgoing l

/-- The order in which entries that are ready are issued: "processor coherency data responses" before "typical block write requests"
(R349). DESIGN CHOICE: within each of the two, oldest first, where R349 says that "within one priority level the order is not stated"
(notes/assumptions/40.md). -/
def issueOrder (l : List Outgoing) : List Outgoing := l.filter (!·.kind.isWrite) ++ l.filter (·.kind.isWrite)

/-- The outgoing buffer empties. -/
def State.sendOutgoing (s : State) : State := (s.issueOutgoing (issueOrder s.bus.outgoing)).setOutgoing []

/-- A block comes to the outgoing buffer (R344): with SysWrRdy* asserted it goes out at once, and what is before it; else it
waits (R347). -/
def State.outgo (s : State) (o : Outgoing) : State :=
  let t := s.setOutgoing (s.bus.outgoing ++ [o])
  if s.bus.wrRdy then t.sendOutgoing else t

/-- The outgoing buffer holds the block at pa (R344). -/
def State.outgoingHolds (s : State) (pa : PAddr) : Bool := s.bus.outgoing.any fun o => o.pa == s.blockBase pa

/-- The four typical entries of the outgoing buffer are in use (R344). -/
def State.outgoingFull (s : State) : Bool := decide (4 ≤ (s.bus.outgoing.filter fun o => !o.kind.isSpecial).length)

/-- Read the block in way w into an entry of the outgoing buffer; an uncorrectable error is posted and the block goes out with it.
`flags`: further quadwords whose Uncorrectable Error flag is set. -/
def State.castOut (s : State) (kind : OutgoingKind) (flags : List Bool) (pa : PAddr) (w : Bool) : State :=
  let k := s.sKey pa w
  let r := s.sReadQuads k 0 s.sQuads
  (s.reportSData pa w r).outgo ⟨kind, s.sBlockAddr (s.sTagRead k).tag pa, w,
    r.value.mapIdx fun j x => (x.1, x.2 || flags.getD j false)⟩

/-- Whether way w of data set i holds the block at pa, and a purge writes it back with a parity error in the quadword at pa. -/
def State.dSendsError (s : State) (m : Purge) (i : Nat) (pa : PAddr) (w : Bool) : Bool :=
  let k := wayKey i w
  let t := s.dTagAt k
  let q := if pa.getLsbD 4 then 4 else 0
  t.state != .invalid && t.tag == pageOf pa && m.writes t &&
    !((List.range 4).all fun j => (s.dWordAt k (q + j)).parityOk 0xF#4)

/-- Whether a quadword that a purge takes out of the data cache has an error. -/
def State.dQuadError (s : State) (m : Purge) (pidx : BitVec 2) (pa : PAddr) : Bool :=
  let i := dSet (aliasVa pidx pa)
  s.dSendsError m i pa false || s.dSendsError m i pa true

/-- The addresses of the quadwords of the block at an address. -/
def State.quadAddrs (s : State) (pa : PAddr) : List PAddr :=
  (List.range s.sQuads).map fun q => s.blockBase pa + BitVec.ofNat 40 (16 * q)

/-- The quadwords of the block at an address that are "known to contain uncorrectable errors" (R307) because a purge takes them, wrong,
out of the data cache. -/
def State.purgeFlags (s : State) (m : Purge) (pidx : BitVec 2) (pa : PAddr) : List Bool :=
  (s.quadAddrs pa).map (s.dQuadError m pidx)

/-- Empty a way (R296, R547, R553): purge the subset, write a DirtyExclusive block back to the System interface (R536), the data that the
purge found wrong marked bad (R307), state Invalid. -/
def State.sEvict (s : State) (m : Purge) (pa : PAddr) (w : Bool) : State :=
  let k := s.sKey pa w
  let t := s.sTagRead k
  let b := s.sBlockAddr t.tag pa
  if t.state == .invalid then s else
    let s1 := s.purge m t.pidx b
    let s2 := if t.state == .dirtyExclusive then s1.castOut .write (s.purgeFlags m t.pidx b) pa w else s1
    s2.setSTag k { t with state := .invalid, ecc := .good }

/-! ## The secondary cache -/

/-- Both tags of a set, checked (R302). -/
def State.sTags (s : State) (pa : PAddr) : Res (STag × STag) :=
  let t0 := s.sTagAt (s.sKey pa false)
  let t1 := s.sTagAt (s.sKey pa true)
  let c0 := t0.checked
  let c1 := t1.checked
  let s1 := s.pulseCor (c0.fixed || c1.fixed)
  if c0.bad || c1.bad then
    ((s1.pulseUnc true).postS (s.sErrInfo pa 0 (wayPair c1.bad c0.bad))).goOn (c0.value, c1.value)
  else .ok (c0.value, c1.value) s1

/-- Whether a secondary tag holds the block at pa. -/
def STag.holds (t : STag) (pa : PAddr) : Bool := t.state != .invalid && t.tag == pa.extractLsb' 18 22

/-- The way that hits, of two; if both do, any (Config.bothWays). -/
def hitWay (free h0 h1 : Bool) : Option Bool :=
  if h0 && h1 then some free else if h0 then some false else if h1 then some true else .none

/-- The tag of a way. -/
def pickWay {α : Type} (p : α × α) (w : Bool) : α := if w then p.2 else p.1

/-- The way of the secondary cache that holds the block at pa, with its tag. -/
def State.sProbe (s : State) (pa : PAddr) : Res (Option (Bool × STag)) :=
  (s.sTags pa).bind fun p s => .ok ((hitWay (Config.bothWays s.ctr) (p.1.holds pa) (p.2.holds pa)).map
    fun w => (w, pickWay p w)) s

/-- A secondary tag with right ECC. -/
def sTagOf (pa : PAddr) (pidx : BitVec 2) (st : BlockState) : STag := ⟨pa.extractLsb' 18 22, pidx, st, .good⟩

/-- VA[13:12]. -/
def pidxOf (va : DWord) : BitVec 2 := va.extractLsb' 12 2

/-! ### Requests to the external agent (R343, R388) -/

/-- How many bytes a lane mask selects. -/
def laneCount (lanes : BitVec 8) : Nat := (List.range 8).countP lanes.getLsbD

/-- The address of the lowest of the byte lanes of the doubleword at an address (R377, R378). -/
def lowestLane (be : Bool) (base : PAddr) (lanes : BitVec 8) : PAddr :=
  base + BitVec.ofNat 40 (((List.range 8).find? fun j => lanes.getLsbD (laneAddress be j)).getD 0)

/-- The address of the doubleword that holds a byte. -/
def doubleBase (pa : PAddr) : PAddr := (pa >>> 3) <<< 3

/-- Replace the answers to come. -/
def State.setReplies (s : State) (l : List Reply) : State := { s with bus := { s.bus with replies := l } }

/-- A SysResp parity error (R308). -/
def State.postResponse (s : State) : State := (s.pulseUnc true).postSi s.siResponseInfo

/-- A data response of which the agent says nothing: a block state of its choice, or what memory holds, without an error. -/
def DataResponse.plain : DataResponse := ⟨.none, .none, 0, false⟩

/-- How a request ends: unsuccessful, or acknowledged with what the incoming buffer then holds for it (R343). A read request is only
acknowledged with data (R315); the acknowledgement of an upgrade may stand alone (R358). -/
inductive Answer where
  /-- Bus Error (R388) -/
  | err
  /-- ACK, with the buffered data -/
  | ack (data : Option DataResponse)
  deriving DecidableEq, Repr

/-- The data response that a reply leaves in the incoming buffer: "A former buffered external data response for a particular request number
is over-written by a subsequent external data response for the same request number" (R343). -/
def Reply.buffered (r : Reply) (held : Option DataResponse) : Option DataResponse := r.data.or held

/-- A correctable error of a data cycle pulses SysCorErr* (R312). -/
def State.pulseData (s : State) (r : Reply) : State := s.pulseCor (r.data.any DataResponse.fixed)

/-- The answer where the agent has not said otherwise: ERR, or ACK with what is buffered, or, to a `read`, with data. -/
def defaultAnswer (read err : Bool) (held : Option DataResponse) : Answer :=
  if err then .err else .ack (held.or (if read then some .plain else .none))

/-- The answer to a block read or upgrade request, from the answers to come; `held` is what the incoming buffer holds for it (R343). A
NACK, and the ACK of a `read` request "that has not received an external data response", which is overridden to a NACK (R315), purge the
buffer and make the processor ask again, which no instruction sees (R388). A response lost to a parity error is reported (R308), one with
the Reserved indication ignored (R315); the data stay, and the next completion counts. -/
def State.answerBlock (s : State) (read err : Bool) (held : Option DataResponse) : List Reply → Answer × State
  | [] => (defaultAnswer read err held, s.setReplies [])
  | r :: l =>
    let s1 := s.pulseData r
    let d := r.buffered held
    match r.completion with
    | .ack => if read && d.isNone then s1.answerBlock read err .none l else (.ack d, s1.setReplies l)
    | .nack => s1.answerBlock read err .none l
    | .err => (.err, s1.setReplies l)
    | .parity => s1.postResponse.answerBlock read err d l
    | .reserved => s1.answerBlock read err d l

/-- The answer to a block read request, or else an upgrade request. -/
def State.askBlock (s : State) (read : Bool) (pa : PAddr) : Answer × State :=
  s.answerBlock read (s.errBlock s.sBlkBits pa) .none s.bus.replies

/-- The processor hangs (R313). -/
def State.setHung (s : State) : State := { s with bus := { s.bus with hung := true } }

/-- The answer to a double, single or partial-word read request, as in `State.answerBlock`; none: a lost completion response, and "the
processor will 'hang'" (R313). -/
def State.answerSingle (s : State) (err : Bool) (held : Option DataResponse) : List Reply → Option Answer × State
  | [] => (some (defaultAnswer true err held), s.setReplies [])
  | r :: l =>
    let s1 := s.pulseData r
    let d := r.buffered held
    match r.completion with
    | .ack => if d.isNone then s1.answerSingle err .none l else (some (.ack d), s1.setReplies l)
    | .nack => s1.answerSingle err .none l
    | .err => (some .err, s1.setReplies l)
    | .parity => (.none, (s1.postResponse.setReplies l).setHung)
    | .reserved => s1.answerSingle err d l

/-- The answer to an uncached read of the doubleword at pa (R388): ERR, or data with the Uncorrectable Error flag, is a Bus Error
(R343); the data are the agent's, or memory's. -/
def State.readAnswer (s : State) (pa : PAddr) : Res DWord :=
  match s.answerSingle (s.errBlock 3 pa) .none s.bus.replies with
  | (.none, s1) => .wait s1
  | (some .err, s1) => .busError s1
  | (some (.ack d), s1) =>
    let r := d.getD .plain
    if r.bad.getLsbD 0 then .busError s1
    else .ok (r.word.getD (Memory.readDouble s.memEnd s.mem (doubleBase pa).toNat)) s1

/-- An uncached read of lanes of the doubleword at pa (R350). It is one event, whatever its answer (R440): after a NACK "the instruction
executes again as if the request had never been made" (R388). -/
def State.readSingle (s : State) (pa : PAddr) (lanes : BitVec 8) (attr : BitVec 2) : Res DWord :=
  (s.record (.read (lowestLane s.memEnd (doubleBase pa) lanes) (laneCount lanes) attr)).readAnswer pa

/-! ### Filling and owning a block -/

/-- The state a block data response gives (R276), with the overrides of R315: Reserved, and Shared to a coherent exclusive read or
an upgrade, become CleanExclusive. An agent that does not say answers freely. -/
def State.filledState (s : State) (exclusive : Bool) (answer : Option (BitVec 2)) : BlockState :=
  let st := BlockState.ofBits (answer.getD (Config.fillState s.ctr))
  match st with
  | .invalid => .cleanExclusive
  | .shared => if exclusive then .cleanExclusive else .shared
  | _ => st

/-- Check bits that no corrector puts right: "the processor intentionally corrupts the ECC" (R307). -/
def spoiltCheck (d : QWord) : Check 10 := .given (BitVec.ofBool (!parityBit d) ++ (dataEcc d ^^^ 3#9))

/-- Quadwords of memory into a secondary block from quadword q on; `bad` flags the doublewords with an uncorrectable error. -/
def State.sLoadQuads (s : State) (k q base : Nat) (bad : BitVec 16) : Nat → State
  | 0 => s
  | n + 1 =>
    let d := Memory.readDouble s.memEnd s.mem base ++ Memory.readDouble s.memEnd s.mem (base + 8)
    let c := if bad.getLsbD (2 * q) || bad.getLsbD (2 * q + 1) then spoiltCheck d else .good
    (s.setSQuad k q ⟨d, c⟩).sLoadQuads k (q + 1) (base + 16) bad n

/-- The flags of the doublewords of a block. -/
def State.blockFlags (s : State) (bad : BitVec 16) : BitVec 16 := if s.scBlkSize then bad else bad &&& 0xFF#16

/-- An acknowledged block data response goes into way w (R343, R385): one Cache Error is posted if a doubleword has its error flag
set (R308). -/
def State.install (s : State) (va : DWord) (pa : PAddr) (w : Bool) (st : BlockState) (bad : BitVec 16) :
    Res (Bool × BlockState) :=
  let k := s.sKey pa w
  let s1 := ((s.sLoadQuads k 0 (s.blockBase pa).toNat bad s.sQuads).setSTag k (sTagOf pa (pidxOf va) st)).setMru
    (s.mruIndex pa) w
  if s.blockFlags bad = 0#16 then .ok (w, st) s1
  else (s1.postSi (s1.siDataInfo pa (st != .shared) (wayBit w true))).goOn (w, st)

/-- The block in way w becomes DirtyExclusive, and with it the data blocks that lie in it (R267, R276). -/
def State.own (s : State) (va : DWord) (pa : PAddr) (w : Bool) : State :=
  (s.setSTag (s.sKey pa w) (sTagOf pa (pidxOf va) .dirtyExclusive)).dMatchFrom (pidxOf va) (s.blockBase pa) .dirtyExclusive
    (2 ^ (s.sBlkBits - 5))

/-- An upgrade request for the Shared block in way w (R358): a bare ACK makes it DirtyExclusive; a block data response replaces its
data, so what the primary caches hold of it goes. The answer says the new state and whether the data were replaced. -/
def State.upgrade (s : State) (va : DWord) (pa : PAddr) (w : Bool) : Res (BlockState × Bool) :=
  match s.askBlock false pa with
  | (.err, t) => .busError t
  | (.ack .none, t) => .ok (.dirtyExclusive, false) (t.own va pa w)
  | (.ack (some d), t) => ((t.purge .drop (pidxOf va) pa).install va pa w (t.filledState true d.state) d.bad).bind
      fun r s => .ok (r.2, true) s

/-- A hit in way w with tag t: the MRU bit points to it (R282); a PIdx mismatch purges the primaries (R278); an exclusive
request to a Shared block is an upgrade (R276). -/
def State.sHit (s : State) (va : DWord) (pa : PAddr) (excl : Bool) (w : Bool) (t : STag) : Res (Bool × BlockState) :=
  let s1 := s.setMru (s.mruIndex pa) w
  let s2 := if t.pidx == pidxOf va then s1 else
    (s1.purge .inconsistent t.pidx pa).setSTag (s.sKey pa w) (sTagOf pa (pidxOf va) t.state)
  if excl && t.state == .shared then (s2.upgrade va pa w).bind fun r s => .ok (w, r.1) s else .ok (w, t.state) s2

/-- The way a miss replaces (R282, R271). -/
def State.sVictim (s : State) (pa : PAddr) (p : STag × STag) : Bool :=
  let m := s.mruAt (s.mruIndex pa)
  let v := if (pickWay p m).state == .invalid then m else !m
  v != Config.sVictim s.ctr

/-- A miss (R276, R296): a block read, with the state the response gives; ERR leaves the line Invalid. A noncoherent read that
was to be exclusive and is answered Shared is followed by an upgrade (R501). A miss that targets a block in the outgoing buffer waits
until that is issued (R344); one that would cast out a block while the four typical entries are in use waits too, which is a
DESIGN CHOICE (notes/assumptions/40.md). -/
def State.sMiss (s : State) (va : DWord) (pa : PAddr) (alg : BitVec 3) (excl : Bool) (p : STag × STag) :
    Res (Bool × BlockState) :=
  let w := s.sVictim pa p
  if s.outgoingHolds pa || (s.outgoingFull && (pickWay p w).state == .dirtyExclusive) then .wait s else
  match (s.sEvict .inconsistent pa w).askBlock true pa with
  | (.err, t) => .busError t
  | (.ack d, t) =>
    let r := d.getD .plain
    (t.install va pa w (t.filledState (alg == 4#3 || (alg == 5#3 && excl)) r.state) r.bad).bind fun r s =>
      if excl && r.2 == .shared then (s.upgrade va pa r.1).bind fun u s => .ok (r.1, u.1) s else .ok r s

/-- Find or fill the secondary block at pa (R276): its way and state. `excl`: for a store or an exclusive prefetch. -/
def State.sEnsure (s : State) (va : DWord) (pa : PAddr) (alg : BitVec 3) (excl : Bool) : Res (Bool × BlockState) :=
  (s.sTags pa).bind fun p s =>
    match hitWay (Config.bothWays s.ctr) (p.1.holds pa) (p.2.holds pa) with
    | some w => s.sHit va pa excl w (pickWay p w)
    | .none => s.sMiss va pa alg excl p

/-! ## The data cache -/

/-- Both tags of a data set, checked (R308). -/
def State.dTags (s : State) (va : DWord) : Res (DTag × DTag) :=
  let t0 := s.dTagAt (wayKey (dSet va) false)
  let t1 := s.dTagAt (wayKey (dSet va) true)
  if t0.bad || t1.bad then (s.checkDTags (dSet va) (va.extractLsb' 3 11)).goOn (t0, t1) else .ok (t0, t1) s

/-- Whether a data tag holds the block at pa; a block being refilled counts (R266). -/
def DTag.holds (t : DTag) (pa : PAddr) : Bool :=
  (t.state != .invalid || t.mod == 0b100#3) && t.tag == pageOf pa

/-- Refill way w of a data set from way `sw` of the secondary cache (R268). DESIGN CHOICE: if the secondary data have an uncorrectable
error that is taken at once, the block stays unfilled, and the one it was to replace is already written back and Invalid: R306 says
only that the detection in general disrupts no ongoing operation, and that such data are never used (notes/assumptions/39.md). -/
def State.dFill (s : State) (va : DWord) (pa : PAddr) (w sw : Bool) (st : BlockState) : Res Bool :=
  let k := wayKey (dSet va) w
  let q := s.sQuadIndex (dBlockAddr (pageOf pa) (dSet va))
  let r := s.sReadQuads (s.sKey pa sw) q 2
  let s1 := (s.dWriteBack (dSet va) w).dInvalidate k
  ((s1.reportSData pa sw r).goOn ()).bind fun _ s =>
    let s2 := s.putDWords k 0 (r.value.flatMap fun x => quadWords s.memEnd x.1)
    .ok w ((s2.setDTag k (dTagOf (pageOf pa) st 0b001#3 sw)).setDLru (dSet va) (!w))

/-- A data cache hit in way w; an exclusive request to a Shared block is an upgrade, which the secondary tag shows (R276); if it
brings new data, the block is refilled (R358). -/
def State.dHit (s : State) (va : DWord) (pa : PAddr) (excl : Bool) (w : Bool) (t : DTag) : Res Bool :=
  if t.mod == 0b100#3 then .stop .refillStateBlock else
  let s1 := s.setDLru (dSet va) (!w)
  if excl && t.state == .shared then
    (s1.upgrade va pa t.scWay).bind fun r s => if r.2 then s.dFill va pa w t.scWay r.1 else .ok w s
  else .ok w s1

/-- Find or fill the data block at va, pa: its way. `pref` names the way a miss fills (R501); otherwise the LRU way (R271). -/
def State.dEnsure (s : State) (va : DWord) (pa : PAddr) (alg : BitVec 3) (excl : Bool) (pref : Option Bool) : Res Bool :=
  (s.dTags va).bind fun p s =>
    match hitWay (Config.bothWays s.ctr) (p.1.holds pa) (p.2.holds pa) with
    | some w => s.dHit va pa excl w (pickWay p w)
    | .none => (s.sEnsure va pa alg excl).bind fun r s =>
        s.dFill va pa (pref.getD (s.dLruAt (dSet va) != Config.dVictim s.ctr)) r.1 r.2

/-- The doubleword of its block that an address lies in, VA[4:3]. -/
def dIndex (va : DWord) : Nat := (va.extractLsb' 3 2).toNat

/-- The lanes of the word with address bit 2 = 0, and of the other (R230). -/
def lanesOf (be : Bool) (lanes : BitVec 8) : BitVec 4 × BitVec 4 :=
  if be then (lanes.extractLsb' 4 4, lanes.extractLsb' 0 4) else (lanes.extractLsb' 0 4, lanes.extractLsb' 4 4)

/-- A cached load: the doubleword at va, its selected bytes checked (R300). -/
def State.dLoad (s : State) (va : DWord) (pa : PAddr) (alg : BitVec 3) (lanes : BitVec 8) : Res DWord :=
  (s.dEnsure va pa alg false .none).bind fun w s =>
    let k := wayKey (dSet va) w
    let j := dIndex va
    let l := lanesOf s.memEnd lanes
    let v := s.dDouble k j
    if (s.dWordAt k (2 * j)).parityOk l.1 && (s.dWordAt k (2 * j + 1)).parityOk l.2 then .ok v s
    else (s.postD (s.dErrInfo (va.extractLsb' 3 11) false (wayBit w true) 0 0 0)).goOn v

/-- A word with some bytes replaced and their parity set. -/
def DLine.merge (l : DLine) (lanes : BitVec 4) (w : Word) : DLine :=
  let d := mergeMask ((laneMask (0#4 ++ lanes)).extractLsb' 0 32) l.data w
  ⟨d, mergeMask lanes l.parity (byteParity d)⟩

/-- A cached store: the selected bytes of a doubleword; the block becomes Inconsistent, and it and the secondary block, with all
data blocks that lie in it, DirtyExclusive (R267, R268, R276). -/
def State.dStore (s : State) (va : DWord) (pa : PAddr) (alg : BitVec 3) (lanes : BitVec 8) (d : DWord) : Res Unit :=
  (s.dEnsure va pa alg true .none).bind fun w s =>
    let k := wayKey (dSet va) w
    let j := dIndex va
    let t := s.dTagAt k
    let l := lanesOf s.memEnd lanes
    let x := wordsOf s.memEnd d
    let s1 := (s.setDWord k (2 * j) ((s.dWordAt k (2 * j)).merge l.1 x.1)).setDWord k (2 * j + 1)
      ((s.dWordAt k (2 * j + 1)).merge l.2 x.2)
    let s2 := s1.setDTag k { dTagOf t.tag .dirtyExclusive 0b010#3 t.scWay with tagParity := t.tagParity }
    .ok () (if t.state == .dirtyExclusive then s2 else
      s2.own va pa t.scWay)

/-! ## The instruction cache -/

/-- The 36 bits of a word (R542). -/
def IBits.value : IBits → BitVec 36
  | .plain w => Config.predecode w
  | .raw b => b

/-- Whether an instruction word's parity is right (R300). -/
def IWord.parityOk (w : IWord) : Bool :=
  match w.parity with
  | .none => true
  | some p => p == parityBit w.bits.value

/-- Both tags of an instruction set, checked (R308). -/
def State.iTags (s : State) (va : DWord) : Res (ITag × ITag) :=
  let t0 := s.iTagAt (wayKey (iSet va) false)
  let t1 := s.iTagAt (wayKey (iSet va) true)
  if t0.bad || t1.bad then (s.checkITags (iSet va)).goOn (t0, t1) else .ok (t0, t1) s

/-- Whether an instruction tag holds the block at pa. -/
def ITag.holds (t : ITag) (pa : PAddr) : Bool := t.valid && t.tag == pageOf pa

/-- Refill way w of an instruction set from way `sw` of the secondary cache by a 16-word read (R263). DESIGN CHOICE: if the secondary
data have an uncorrectable error that is taken at once, the way keeps the block it held, as in `State.dFill` (R306;
notes/assumptions/39.md). -/
def State.iFill (s : State) (va : DWord) (pa : PAddr) (w sw : Bool) : Res Bool :=
  let k := wayKey (iSet va) w
  let r := s.sReadQuads (s.sKey pa sw) (s.sQuadIndex pa / 4 * 4) 4
  ((s.reportSData pa sw r).goOn ()).bind fun _ s =>
    .ok w ((s.putIWords k 0 (r.value.flatMap fun x => quadWords s.memEnd x.1)).setITag k ⟨pageOf pa, true, parityBit (pageOf pa), true⟩)

/-- Find or fill the instruction block at va, pa: its way. -/
def State.iEnsure (s : State) (va : DWord) (pa : PAddr) (alg : BitVec 3) : Res Bool :=
  ((s.iTags va).bind fun p s =>
    match hitWay (Config.bothWays s.ctr) (p.1.holds pa) (p.2.holds pa) with
    | some w => .ok w s
    | .none => (s.sEnsure va pa alg false).bind fun r s =>
        s.iFill va pa (s.iLruAt (iSet va) != Config.iVictim s.ctr) r.1).bind fun w s => .ok w (s.setILru (iSet va) (!w))

/-- The word of its block that an address lies in, VA[5:2]. -/
def iIndex (va : DWord) : Nat := (va.extractLsb' 2 4).toNat

/-- The instruction that the 36 bits of a word mean: of bits that software stored, the word whose predecoded form they are, if they
were read out as one (R573, I43). -/
def State.instructionOf (s : State) : IBits → Option Word
  | .plain w => some w
  | .raw b => (s.caches.predecoded.find? fun p => p.1 == b).map Prod.snd

/-- The 36 bits of a word are read out by a CACHE operation or in cache test mode: what they mean is known from now on (R573). -/
def State.learn (s : State) (x : IBits) : State :=
  match x with
  | .plain w =>
    let p := (Config.predecode w, w)
    if s.caches.predecoded.contains p then s
    else { s with caches := { s.caches with predecoded := p :: s.caches.predecoded } }
  | .raw _ => s

/-- A cached instruction fetch. -/
def State.iLoad (s : State) (va : DWord) (pa : PAddr) (alg : BitVec 3) : Res Word :=
  (s.iEnsure va pa alg).bind fun w s =>
    let x := s.iWordAt (wayKey (iSet va) w) (iIndex va)
    (if x.parityOk then .ok () s else (s.postI (s.iErrInfo (va.extractLsb' 6 8) (wayBit w true) 0 0)).goOn ()).bind fun _ s =>
      match s.instructionOf x.bits with
      | some i => .ok i s
      | .none => .stop .unknownPredecode

end Sys2Proof.Machine
end

