-- ==== Sys2Proof/Machine/Access.lean ====
section
/-! DEFINITION. Loads, stores, prefetches and fetches (spec/45_load_store_isa.md R800 to R803, spec/40 R502, spec/20 R217 and
R230 to R245): alignment, translation, Watch (spec/60 R1055, R1056), then the access: through the caches, or uncached with
the gatherer (spec/22 R345). An access is one aligned doubleword under byte lanes. -/

namespace Sys2Proof.Machine

/-- The result of a memory reference: a value; an exception that was taken, or a wait, with the state after it; a
stop. -/
inductive Acc (α : Type) where
  /-- it succeeds -/
  | ok (a : α) (s : State)
  /-- an exception was taken -/
  | trap (s : State)
  /-- the model stops -/
  | stop (f : Fault)

/-- Go on with the value. -/
def Acc.bind {α β : Type} (x : Acc α) (f : α → State → Acc β) : Acc β :=
  match x with
  | .ok a s => f a s
  | .trap s => .trap s
  | .stop r => .stop r

/-- Finish an instruction with the value. -/
def Acc.done {α : Type} (x : Acc α) (f : α → State → Out) : Out :=
  match x with
  | .ok a s => f a s
  | .trap s => .next s
  | .stop r => .fault r

/-- The exception of a failed access: IBE or DBE (R1040), or Cache Error (R1025); an instruction that waits stays where it is
(R313, R345). -/
def Res.acc {α : Type} (x : Res α) (busCode : BitVec 5) : Acc α :=
  match x with
  | .ok a s => .ok a s
  | .busError s => .trap (s.takeException busCode)
  | .cacheError s => .trap s.takeCacheError
  | .wait s => .trap s.waitHere
  | .stop r => .stop r

/-! ## The uncached buffer (R345) -/

/-- Write gathered stores to memory, oldest first. -/
def State.writeGathered (s : State) : List Gathered → State
  | [] => s
  | g :: l => (s.setMem (Memory.writeDouble s.memEnd s.mem g.base.toNat g.lanes g.data)).writeGathered l

/-- The byte address of a write: the lowest of its lanes (R377, R378). -/
def Gathered.pa (be : Bool) (g : Gathered) : PAddr := lowestLane be g.base g.lanes

/-- The requests that a gatherer entry is issued as (R345): one block write if it is completely gathered, else "one or more disjoint
processor uncached accelerated double or singleword write requests", one for each store. -/
def Buffered.issued (be : Bool) (b : Buffered) : List BusEvent :=
  if b.whole then [.gathered ((b.data.head?.map (Gathered.pa be)).getD 0) b.cause b.attr b.data]
  else b.data.map fun g => .single (g.pa be) b.cause b.attr g

/-- Requests go out on the System interface, in order (R440). -/
def State.recordAll (s : State) : List BusEvent → State
  | [] => s
  | w :: l => (s.record w).recordAll l

/-- The external agent accepts writes that are ready, oldest first. -/
def State.writeBuffered (s : State) : List Buffered → State
  | [] => s
  | b :: l => ((s.writeGathered b.data).recordAll (b.issued s.memEnd)).writeBuffered l

/-- Replace the FIFO. -/
def State.setFifo (s : State) (l : List UncachedStore) : State := { s with bus := { s.bus with fifo := l } }

/-- Replace the gatherer entries that are ready. -/
def State.setReady (s : State) (l : List Buffered) : State := { s with bus := { s.bus with ready := l } }

/-- The gatherer entries that are ready go out. -/
def State.sendReady (s : State) : State := (s.writeBuffered s.bus.ready).setReady []

/-- A gatherer entry becomes ready for the System interface: with SysWrRdy* asserted it goes out at once, and what is ready before
it; else it waits (R331, R345). -/
def State.issue (s : State) (b : Buffered) : State :=
  let t := s.setReady (s.bus.ready ++ [b])
  if s.bus.wrRdy then t.sendReady else t

/-- What the gatherer holds. -/
def Gather.held : Gather → List Gathered
  | .idle => []
  | .one _ _ _ d => d
  | .seq _ _ _ d => d
  | .ident _ _ _ d => d

/-- Replace the gatherer. -/
def State.setGather (s : State) (g : Gather) : State := { s with bus := { s.bus with gather := g } }

/-- The write cause of an accelerated store that is issued by itself: 2 or 3, sequential or identical, where R371 and R345 give
neither (free). -/
def State.loneCause (s : State) : BitVec 2 := if Config.loneIdentical s.ctr then 3#2 else 2#2

/-- The write cause of what the gatherer holds: its mode, 2 sequential, 3 identical (R345, R371); of one store alone, either. -/
def State.gatherCause (s : State) : BitVec 2 :=
  match s.bus.gather with
  | .seq _ _ _ _ => 2#2
  | .ident _ _ _ _ => 3#2
  | _ => s.loneCause

/-- The uncached attribute of what the gatherer holds. -/
def Gather.attr : Gather → BitVec 2
  | .idle => 0
  | .one _ a _ _ => a
  | .seq a _ _ _ => a
  | .ident _ a _ _ => a

/-- Bytes gathered. -/
def Gather.bytes : Gather → Nat
  | .idle => 0
  | .one _ _ n _ => n
  | .seq _ _ n _ => n
  | .ident _ _ n _ => n

/-- Gathering terminates: what is held is ready for the System interface (R345), as a block if it is one. -/
def State.terminate (s : State) : State :=
  match s.bus.gather with
  | .idle => s
  | g => (s.issue ⟨true, decide (2 ^ s.sBlkBits ≤ g.bytes), s.gatherCause, g.attr, g.held⟩).setGather .idle

/-- The gatherer after one more store of `n` bytes, or none if it must terminate first (R345). -/
def Gather.next (g : Gather) (pa : PAddr) (attr : BitVec 2) (n : Nat) (x : Gathered) : Option Gather :=
  match g with
  | .idle => .none
  | .one b a m d =>
    if a != attr then .none
    else if pa == b + BitVec.ofNat 40 m then some (.seq a (pa + BitVec.ofNat 40 n) (m + n) (d ++ [x]))
    else if pa == b then some (.ident b a (m + n) (d ++ [x]))
    else .none
  | .seq a p m d =>
    if a == attr && pa == p then some (.seq a (pa + BitVec.ofNat 40 n) (m + n) (d ++ [x])) else .none
  | .ident b a m d => if a == attr && pa == b then some (.ident b a (m + n) (d ++ [x])) else .none

/-- A store meets an idle gatherer: a block-aligned one begins gathering, another is issued by itself (R345). -/
def State.beginGather (s : State) (pa : PAddr) (attr : BitVec 2) (n : Nat) (x : Gathered) : State :=
  if pa == s.blockBase pa then s.setGather (.one pa attr n [x]) else s.issue ⟨true, false, s.loneCause, attr, [x]⟩

/-- An uncached accelerated singleword or doubleword store of `n` bytes (R345). Gathering ends once a block or more is held; that a
doubleword is still packed when only four bytes of the block are left, in identical mode with mixed sizes, is a DESIGN CHOICE
(notes/assumptions/38.md). -/
def State.gatherStore (s : State) (pa : PAddr) (attr : BitVec 2) (n : Nat) (x : Gathered) : State :=
  match s.bus.gather.next pa attr n x with
  | .none => s.terminate.beginGather pa attr n x
  | some g =>
    let s1 := s.setGather g
    if 2 ^ s.sBlkBits ≤ g.bytes then s1.terminate else s1

/-- A store leaves the FIFO for the gatherer (R345): an accelerated singleword or doubleword is gathered, another terminates gathering
and is ready by itself, with the write cause 1 if it is not accelerated (R359). -/
def State.admitOne (s : State) (x : UncachedStore) : State :=
  match x.accelerated, x.size with
  | true, some n => s.gatherStore x.pa x.attr n x.data
  | _, _ => s.terminate.issue ⟨x.accelerated, false, if x.accelerated then s.loneCause else 1#2, x.attr, [x.data]⟩

/-- Stores leave the FIFO, oldest first. -/
def State.admitAll (s : State) : List UncachedStore → State
  | [] => s
  | x :: l => (s.admitOne x).admitAll l

/-- With SysWrRdy* asserted: what is ready goes out and the FIFO empties. -/
def State.flushBuffer (s : State) : State := (s.sendReady.setFifo []).admitAll s.bus.fifo

/-- How many of the two gatherer entries are in use (R345). -/
def State.gatherEntries (s : State) : Nat := s.bus.ready.length + (if s.bus.gather == .idle then 0 else 1)

/-- A store comes to the uncached buffer, "a 4-entry FIFO followed by a 2-entry gatherer" (R345): it goes through to the gatherer if
nothing is before it and no third entry would be needed, else into the FIFO; none if that is full too. That a store ready by itself
takes a gatherer entry until it goes out is a DESIGN CHOICE (notes/assumptions/38.md). -/
def State.accept (s : State) (x : UncachedStore) : Option State :=
  if s.bus.wrRdy then some (s.flushBuffer.admitOne x)
  else if s.bus.fifo.isEmpty && decide ((s.admitOne x).gatherEntries ≤ 2) then some (s.admitOne x)
  else if s.bus.fifo.length < 4 then some (s.setFifo (s.bus.fifo ++ [x]))
  else .none

/-- Nothing is in the uncached buffer. -/
def State.bufferEmpty (s : State) : Bool := s.bus.gather == .idle && s.bus.ready.isEmpty && s.bus.fifo.isEmpty

/-! ## The access at a physical address -/

/-- A load's doubleword (R217). An uncached load terminates gathering and "may be used to guarantee that the uncached buffer is
flushed" (R244): it waits until everything before it can go out, and then reads. -/
def State.loadPhys (s : State) (va : DWord) (p : Phys) (lanes : BitVec 8) : Res DWord :=
  if algCached p.alg then s.dLoad va p.pa p.alg lanes
  else if s.bus.wrRdy || s.bufferEmpty then s.flushBuffer.terminate.readSingle p.pa lanes p.attr
  else .wait s

/-- The physical address of an n-byte store as the gatherer compares it: ReverseEndian inverts bit 2 of a singleword's (R231). -/
def State.gatherPa (s : State) (pa : PAddr) (n : Option Nat) : PAddr :=
  if s.reverseEndian && n == some 4 then pa ^^^ 4#40 else pa

/-- A store's doubleword (R217). `full` is the size of a singleword or doubleword store, which alone can be gathered (R220);
none for the others. An uncached store that finds the uncached buffer full waits (R345). Cached accesses do not look into it (R244). -/
def State.storePhys (s : State) (va : DWord) (p : Phys) (lanes : BitVec 8) (full : Option Nat) (d : DWord) : Res Unit :=
  if algCached p.alg then s.dStore va p.pa p.alg lanes d
  else
    match s.accept ⟨p.alg == algAccelerated, s.gatherPa p.pa full, p.attr, full, ⟨doubleBase p.pa, lanes, d⟩⟩ with
    | some t => .ok () t
    | .none => .wait s

/-! ## Watch (R1055, R1056) -/

/-- `WatchMatch`. -/
def State.watchMatch (s : State) (pa : PAddr) (store : Bool) : Bool :=
  pa.extractLsb' 3 37 == s.cp0.watchHi.extractLsb' 0 8 ++ s.cp0.watchLo.extractLsb' 3 29 &&
    (if store then s.cp0.watchLo.getLsbD 0 else s.cp0.watchLo.getLsbD 1)

/-- Whether neither way of the data cache holds the block (R1055). -/
def State.dMisses (s : State) (va : DWord) (pa : PAddr) : Bool :=
  !(s.dTagAt (wayKey (dSet va) false)).holds pa && !(s.dTagAt (wayKey (dSet va) true)).holds pa

/-- The state an access leaves, whatever came of it. -/
def Res.stateOr {α : Type} (x : Res α) (s0 : State) : State :=
  match x with
  | .ok _ s => s
  | .busError s => s
  | .cacheError s => s
  | .wait s => s
  | .stop _ => s0

/-- A Watch exception: a cached reference that misses in the data cache has its line refilled first (R1055), and waits where the
refill does (R344). -/
def State.watchTaken (s : State) (va : DWord) (p : Phys) : State :=
  if algCached p.alg && s.dMisses va p.pa then
    match s.dEnsure va p.pa p.alg false .none with
    | .wait t => t.waitHere
    | x => (x.stateOr s).takeException excWatch
  else s.takeException excWatch

/-- A delayed Watch: WatchPending is set (R1056). -/
def State.setWatch (s : State) : State := { s with pending := { s.pending with watch := true } }

/-! ## A reference -/

/-- Translation, Watch and the reserved algorithms (R218), of a load or store at an adjusted address (R200, R801, R802); `made`: memory
will be accessed, which alone a reserved algorithm leaves without a meaning. DEDUCED (notes/assumptions/68.md): Watch is taken before a
reserved algorithm stops the model: R801 and R802 raise it before the algorithm is used, and R218 reports an access that "is made". DESIGN
CHOICE: WatchPending is set before the access is made, so an access with EXL or ERL set that then ends in Bus Error or Cache Error leaves it
set, and so does one that only waits (for the uncached or the outgoing buffer) if an NMI is taken during the wait, where R1056 speaks only of
one that completes (notes/assumptions/37.md, 67.md). -/
def State.reference (s : State) (va : DWord) (store : Bool) (made : Bool := true) : Acc Phys :=
  match s.translate va (if store then .store else .load) with
  | .ok p =>
    let hit := s.watchMatch p.pa store
    if hit && !s.exl && !s.erl then .trap (s.watchTaken va p)
    else if made && algReserved p.alg then .stop .reservedCacheAlgorithm
    else .ok p (if hit then s.setWatch else s)
  | x => .trap (s.xlateException store va x)

/-- A load: the doubleword around va, and where it came from; loads break the link (R510). -/
def State.loadAt (s : State) (va : DWord) (lanes : BitVec 8) : Acc (Phys × DWord) :=
  (s.reference va false).bind fun p s =>
    ((s.breakLink.loadPhys va p lanes).acc excDbe).bind fun d s => .ok (p, d) s

/-- A store of lanes of a doubleword; stores break the link (R510). -/
def State.storeAt (s : State) (va : DWord) (lanes : BitVec 8) (full : Option Nat) (d : DWord) : Acc Unit :=
  (s.reference va true).bind fun p s => (s.breakLink.storePhys va p lanes full d).acc excDbe

/-- The lowest lane of an n-byte access (R230, R231). -/
def laneShift (be : Bool) (va : DWord) (n : Nat) : Nat :=
  let o := (va.extractLsb' 0 3).toNat
  if be then 8 - n - o else o

/-- n lanes from lane k up. -/
def lanesFrom (k n : Nat) : BitVec 8 := BitVec.ofNat 8 ((2 ^ n - 1) * 2 ^ k)

/-- The low n bytes. -/
def lowBytes (n : Nat) (d : DWord) : DWord := d &&& laneMask (lanesFrom 0 n)

/-- Run `k` on the adjusted address if it is a multiple of n; else Address Error (R182, R232). -/
def State.aligned {α : Type} (s : State) (va : DWord) (n : Nat) (store : Bool) (k : DWord → Acc α) : Acc α :=
  let a := s.dataAddress va
  if a.toNat % n = 0 then k a else .trap (s.addressError store a)

/-- `Load(va, n)`, and the physical address (R801). -/
def State.readPhys (s : State) (va : DWord) (n : Nat) : Acc (Phys × DWord) :=
  s.aligned va n false fun a =>
    let k := laneShift s.bigEndianCpu a n
    (s.loadAt a (lanesFrom k n)).bind fun r s => .ok (r.1, lowBytes n (r.2 >>> (8 * k))) s

/-- `Load(va, n)` (R801). -/
def State.read (s : State) (va : DWord) (n : Nat) : Acc DWord := (s.readPhys va n).bind fun r s => .ok r.2 s

/-- Only singleword and doubleword stores can be gathered (R220). -/
def gatherSize (n : Nat) : Option Nat := if n = 4 ∨ n = 8 then some n else .none

/-- `Store(va, n, v)` (R802). -/
def State.write (s : State) (va : DWord) (n : Nat) (v : DWord) : Acc Unit :=
  s.aligned va n true fun a =>
    let k := laneShift s.bigEndianCpu a n
    s.storeAt a (lanesFrom k n) (gatherSize n) (v <<< (8 * k))

/-- Store Conditional's store: every check, then the store if the link is intact (R513); the answer says whether it was. The link is
broken once the store is done, for one that waits runs again. DESIGN CHOICE: to an uncached accelerated address it is gathered as SW or
SD is, where R345 names only those (notes/assumptions/38.md). DESIGN CHOICE: with the link broken no store follows, and a reserved cache
algorithm does not stop the instruction, where R218 and R513 give no order between the algorithm and the LLbit test
(notes/assumptions/28.md). -/
def State.writeLinked (s : State) (va : DWord) (n : Nat) (v : DWord) : Acc Bool :=
  s.aligned va n true fun a =>
    let linked := s.link.bit && (!s.link.uncached || Config.scUncached s.ctr)
    (s.reference a true linked).bind fun p s =>
      if linked then
        let k := laneShift s.bigEndianCpu a n
        ((s.storePhys a p (lanesFrom k n) (gatherSize n) (v <<< (8 * k))).acc excDbe).bind fun _ s => .ok true s.breakLink
      else .ok false s.breakLink

/-- The link a Load Linked sets (R511). -/
def State.setLink (s : State) (p : Phys) : State := { s with link := ⟨true, s.blockBase p.pa, !algCached p.alg⟩ }

/-! ## Prefetch (R501 to R503) -/

/-- The way a hint names: 4 and 5 way 0, 6 and 7 way 1 (R501). -/
def prefWay (hint : BitVec 5) : Option Bool :=
  if hint = 4#5 ∨ hint = 5#5 then some false else if hint = 6#5 ∨ hint = 7#5 then some true else .none

/-- Hints 1, 5 and 7 ask for an exclusive copy (R501). -/
def prefExclusive (hint : BitVec 5) : Bool := hint == 1#5 || hint == 5#5 || hint == 7#5

/-- Hints 2, 3 and 8 to 31 are undefined (R501); the model's action for them is none. -/
def prefDefined (hint : BitVec 5) : Bool := hint.toNat < 8 && hint != 2#5 && hint != 3#5

/-- A prefetch: no exception from its address, no Bus Error; uncached: nothing (R502, D27). The link is broken (R510). Like any data
access it waits for the outgoing buffer (R344). -/
def State.prefetch (s : State) (va : DWord) (hint : BitVec 5) : Acc Unit :=
  let a := s.dataAddress va
  let s1 := s.breakLink
  match s.translate a (if prefExclusive hint then .store else .pref) with
  | .ok p =>
    if algCached p.alg && prefDefined hint then
      match s1.dEnsure a p.pa p.alg (prefExclusive hint) (prefWay hint) with
      | .stop f => .stop f
      | .wait t => .trap t.waitHere
      | r => .ok () (r.stateOr s1)
    else .ok () s1
  | _ => .ok () s1

/-! ## Instruction fetch (R200, R217, R245) -/

/-- The address that selects the instruction's word: with the parameter `ReFetchSwap` reverse endian inverts bit 2 (R231, D23). -/
def State.fetchVa (s : State) (va : DWord) : DWord :=
  if s.params.reFetchSwap && s.reverseEndian then va ^^^ 4#64 else va

/-- The word of a doubleword that an instruction address names. -/
def fetchWord (be : Bool) (va : DWord) (d : DWord) : Word :=
  if va.getLsbD 2 then (wordsOf be d).2 else (wordsOf be d).1

/-- A fetch at a physical address. -/
def State.fetchPhys (s : State) (va : DWord) (p : Phys) : Res Word :=
  if algCached p.alg then s.iLoad va p.pa p.alg
  else (s.readSingle p.pa (lanesFrom (laneShift s.memEnd va 4) 4) p.attr).bind fun d s => .ok (fetchWord s.memEnd va d) s

/-- Fetch the instruction at pc. In 32-bit User mode the upper 33 bits must be zero, which the segment test says (R182). -/
def State.fetch (s : State) : Acc Word :=
  if s.pc.toNat % 4 = 0 then
    match s.translate s.pc .fetch with
    | .ok p =>
      if algReserved p.alg then .stop .reservedCacheAlgorithm else (s.fetchPhys (s.fetchVa s.pc) p).acc excIbe
    | x => .trap (s.xlateException false s.pc x)
  else .trap (s.addressError false s.pc)

/-- The next instruction's word: that of an instruction that waits, which is fetched once (R440), else what a fetch delivers. -/
def State.nextWord (s : State) (held : Option Word) : Acc Word :=
  match held with
  | some w => .ok w s
  | .none => s.fetch

end Sys2Proof.Machine
end

