-- ==== Sys2Proof/Machine/Cache.lean ====
section
/-! DEFINITION. The CACHE instruction (spec/41_cache_instruction.md R530 to R575): one meaning for each of its 21 operations. -/

namespace Sys2Proof.Machine

/-! ## Shared operations -/

/-- What every CACHE operation does first (R533): CP0 usability, Address Error (the low address bits, C10; privilege), TLB
Refill or Invalid as a load, and the undefined cases of R534 and R218; it waits until the blocks cast out before it are issued ("All
load/store accesses, including writebacks to the external agent, must be complete", R541); then the operation, which breaks the link
(R510). DESIGN CHOICE: the operation's own write back may still be in the outgoing buffer when it graduates (R541 speaks of the accesses
before it; notes/assumptions/40.md). -/
def State.cacheOp (s : State) (va : DWord) (index : Bool) (k : State → DWord → PAddr → Out) : Out :=
  s.requireCp0 (
    let a := s.dataAddress va
    if a.getLsbD 1 || (!index && a.getLsbD 0) then .next (s.addressError false a)
    else match s.translate a .cacheOp with
      | .ok p =>
        if algReserved p.alg then .fault .reservedCacheAlgorithm
        else if algCached p.alg then
          if s.bus.outgoing.isEmpty then k s.breakLink a p.pa else .next s.waitHere
        else .fault .cacheOpUncached
      | x => .next (s.xlateException false a x))

/-- An Index operation that completes with a state; way = bit 0 of the address (R532). -/
def State.cacheIndex (s : State) (va : DWord) (f : State → DWord → PAddr → State) : Out :=
  s.cacheOp va true fun s a pa => .next (f s a pa).advance

/-- The way an Index operation names. -/
def wayOf (va : DWord) : Bool := va.getLsbD 0

/-- Write TagLo and TagHi. -/
def State.setTags (s : State) (hi lo : Word) : State := { s with cp0 := { s.cp0 with tagLo := lo, tagHi := hi } }

/-- Write the ECC register (R158). -/
def State.setEcc (s : State) (b : BitVec 10) : State := { s with cp0 := { s.cp0 with ecc := b.setWidth 32 } }

/-- Status.CH (R537). -/
def State.setCh (s : State) (b : Bool) : State := s.setStatus (putBit s.cp0.status 18 b)

/-- A hit in both ways is undefined (R535); else the way that hits, if any. -/
def oneWay (h0 h1 : Bool) (k : Option Bool → Out) : Out :=
  if h0 && h1 then .fault .cacheOpBothWays else k (hitWay false h0 h1)

/-- A Hit operation of the data cache hits a tag that is not Invalid and matches (R549). DESIGN CHOICE
(notes/assumptions/43.md): the PState of a block in the refill state counts as it stands. -/
def DTag.hitBy (t : DTag) (pa : PAddr) : Bool := t.state != .invalid && t.tag == pageOf pa

/-- Post a tag error of the block that an Index WriteBack Invalidate meets (R306, R310). -/
def State.postDTag (s : State) (a : DWord) (w : Bool) : State :=
  let t := s.dTagAt (wayKey (dSet a) w)
  if t.bad then (s.pulseUnc true).postD (s.dErrInfo (a.extractLsb' 3 11) t.inconsistent 0 (wayBit w t.errors.1)
    (wayBit w t.errors.2.1) (wayBit w t.errors.2.2)) else s

/-- Empty a secondary block for a CACHE operation (R547, R553): write back, purge, tag of the CACHE address, state Invalid,
MRU away from it. -/
def State.cacheEvict (s : State) (m : Purge) (a : DWord) (pa : PAddr) (w : Bool) : State :=
  ((s.sEvict m pa w).setSTag (s.sKey pa w) (sTagOf pa (pidxOf a) .invalid)).setMru (s.mruIndex pa) (!w)

/-- The TagHi field PTag1 (R165): PA[39:36]. -/
def tagTop (t : BitVec 28) : BitVec 4 := t.extractLsb' 24 4

/-- The primary tag of TagHi and TagLo (R165). -/
def Cp0.primaryTag (c : Cp0) : BitVec 28 := c.tagHi.extractLsb' 0 4 ++ c.tagLo.extractLsb' 8 24

/-! ## The primary instruction cache -/

/-- CACHE.INDEX_INVALIDATE_I (R545). -/
def execCacheIndexInvalidateI (base : Reg) (offset : BitVec 16) (s : State) : Out :=
  s.cacheIndex (s.ea base offset) fun s a _ =>
    s.iInvalidate (wayKey (iSet a) (wayOf a))

/-- CACHE.INDEX_LOAD_TAG_I (R560). -/
def execCacheIndexLoadTagI (base : Reg) (offset : BitVec 16) (s : State) : Out :=
  s.cacheIndex (s.ea base offset) fun s a _ =>
    let t := s.iTagAt (wayKey (iSet a) (wayOf a))
    s.setTags (0#28 ++ tagTop t.tag) (t.tag.extractLsb' 0 24 ++ 0#1 ++ BitVec.ofBool t.valid ++ 0#2 ++
      BitVec.ofBool (s.iLruAt (iSet a)) ++ BitVec.ofBool t.stateParity ++ 0#1 ++ BitVec.ofBool t.tagParity)

/-- CACHE.INDEX_STORE_TAG_I (R563). -/
def execCacheIndexStoreTagI (base : Reg) (offset : BitVec 16) (s : State) : Out :=
  s.cacheIndex (s.ea base offset) fun s a _ =>
    (s.setITag (wayKey (iSet a) (wayOf a)) ⟨s.cp0.primaryTag, s.cp0.tagLo.getLsbD 6, s.cp0.tagLo.getLsbD 0,
      s.cp0.tagLo.getLsbD 2⟩).setILru (iSet a) (s.cp0.tagLo.getLsbD 3)

/-- CACHE.HIT_INVALIDATE_I (R548). -/
def execCacheHitInvalidateI (base : Reg) (offset : BitVec 16) (s : State) : Out :=
  s.cacheOp (s.ea base offset) false fun s a pa =>
    ((s.iTags a).acc excDbe).done fun p s => oneWay (p.1.holds pa) (p.2.holds pa) fun w =>
      .next (match w with
        | some w => s.iInvalidate (wayKey (iSet a) w)
        | .none => s).advance

/-- CACHE.CACHE_BARRIER (R551). -/
def execCacheBarrier (base : Reg) (offset : BitVec 16) (s : State) : Out :=
  s.cacheOp (s.ea base offset) false fun s _ _ => .next s.advance

/-- CACHE.INDEX_LOAD_DATA_I (R570). -/
def execCacheIndexLoadDataI (base : Reg) (offset : BitVec 16) (s : State) : Out :=
  s.cacheIndex (s.ea base offset) fun s a _ =>
    let x := s.iWordAt (wayKey (iSet a) (wayOf a)) (iIndex a)
    let v := x.bits.value
    ((s.learn x.bits).setTags (0#28 ++ v.extractLsb' 32 4) (v.extractLsb' 0 32)).setEcc
      (0#9 ++ BitVec.ofBool (x.parity.getD (parityBit v)))

/-- CACHE.INDEX_STORE_DATA_I (R573). -/
def execCacheIndexStoreDataI (base : Reg) (offset : BitVec 16) (s : State) : Out :=
  s.cacheIndex (s.ea base offset) fun s a _ =>
    s.setIWord (wayKey (iSet a) (wayOf a)) (iIndex a)
      ⟨.raw (s.cp0.tagHi.extractLsb' 0 4 ++ s.cp0.tagLo), some (s.cp0.ecc.getLsbD 0)⟩

/-! ## The primary data cache -/

/-- CACHE.INDEX_WRITEBACK_INVALIDATE_D (R546). -/
def execCacheIndexWritebackInvalidateD (base : Reg) (offset : BitVec 16) (s : State) : Out :=
  s.cacheIndex (s.ea base offset) fun s a _ =>
    ((s.postDTag a (wayOf a)).dWriteBack (dSet a) (wayOf a)).dInvalidate (wayKey (dSet a) (wayOf a))

/-- CACHE.INDEX_LOAD_TAG_D (R561). -/
def execCacheIndexLoadTagD (base : Reg) (offset : BitVec 16) (s : State) : Out :=
  s.cacheIndex (s.ea base offset) fun s a _ =>
    let t := s.dTagAt (wayKey (dSet a) (wayOf a))
    s.setTags (t.mod ++ 0#25 ++ tagTop t.tag) (t.tag.extractLsb' 0 24 ++ t.state.bits ++ 0#2 ++
      BitVec.ofBool (s.dLruAt (dSet a)) ++ BitVec.ofBool t.stateParity ++ BitVec.ofBool t.scWay ++ BitVec.ofBool t.tagParity)

/-- The StateMod code that Index Store Tag (D) writes into an entry of a state: TagHi[31:29], "directly written" (R564). DESIGN CHOICE
(notes/assumptions/64.md): with the parameter storeTagNormal the code 000, which no tag may have (R301), becomes 001 in an entry made Invalid,
for after the procedure of R1165, which stores TagHi = 0, "every tag becomes well-formed". -/
def State.storedMod (s : State) (state : BlockState) : BitVec 3 :=
  let m := s.cp0.tagHi.extractLsb' 29 3
  if s.params.storeTagNormal && state == .invalid && m == 0#3 then 0b001#3 else m

/-- CACHE.INDEX_STORE_TAG_D (R564). -/
def execCacheIndexStoreTagD (base : Reg) (offset : BitVec 16) (s : State) : Out :=
  s.cacheIndex (s.ea base offset) fun s a _ =>
    let l := s.cp0.tagLo
    let state := BlockState.ofBits (l.extractLsb' 6 2)
    (s.setDTag (wayKey (dSet a) (wayOf a)) ⟨s.cp0.primaryTag, state, s.storedMod state, l.getLsbD 1, l.getLsbD 0, l.getLsbD 2⟩).setDLru (dSet a) (l.getLsbD 3)

/-- CACHE.HIT_INVALIDATE_D (R549). -/
def execCacheHitInvalidateD (base : Reg) (offset : BitVec 16) (s : State) : Out :=
  s.cacheOp (s.ea base offset) false fun s a pa =>
    ((s.dTags a).acc excDbe).done fun p s => oneWay (p.1.hitBy pa) (p.2.hitBy pa) fun w =>
      .next (match w with
        | some w => s.dInvalidate (wayKey (dSet a) w)
        | .none => s).advance

/-- CACHE.HIT_WRITEBACK_INVALIDATE_D (R552). -/
def execCacheHitWritebackInvalidateD (base : Reg) (offset : BitVec 16) (s : State) : Out :=
  s.cacheOp (s.ea base offset) false fun s a pa =>
    ((s.dTags a).acc excDbe).done fun p s => oneWay (p.1.hitBy pa) (p.2.hitBy pa) fun w =>
      .next (match w with
        | some w => (s.dWriteBack (dSet a) w).dInvalidate (wayKey (dSet a) w)
        | .none => s).advance

/-- CACHE.INDEX_LOAD_DATA_D (R571). -/
def execCacheIndexLoadDataD (base : Reg) (offset : BitVec 16) (s : State) : Out :=
  s.cacheIndex (s.ea base offset) fun s a _ =>
    let x := s.dWordAt (wayKey (dSet a) (wayOf a)) (a.extractLsb' 2 3).toNat
    (s.setTags (if Config.indexLoadKeepsTagHi s.ctr then s.cp0.tagHi else 0) x.data).setEcc (x.parity.setWidth 10)

/-- CACHE.INDEX_STORE_DATA_D (R574). -/
def execCacheIndexStoreDataD (base : Reg) (offset : BitVec 16) (s : State) : Out :=
  s.cacheIndex (s.ea base offset) fun s a _ =>
    s.setDWord (wayKey (dSet a) (wayOf a)) (a.extractLsb' 2 3).toNat
      ⟨s.cp0.tagLo, s.cp0.ecc.extractLsb' 0 4⟩

/-! ## The secondary cache -/

/-- CACHE.INDEX_WRITEBACK_INVALIDATE_S (R547). -/
def execCacheIndexWritebackInvalidateS (base : Reg) (offset : BitVec 16) (s : State) : Out :=
  s.cacheIndex (s.ea base offset) fun s a pa =>
    let c := (s.sTagAt (s.sKey pa (wayOf a))).checked
    let s1 := s.pulseCor c.fixed
    let s2 := if c.bad then (s1.pulseUnc true).postS (s.sErrInfo pa 0 (wayBit (wayOf a) true)) else s1
    if c.value.state == .invalid then s2 else s2.cacheEvict .dirty a pa (wayOf a)

/-- CACHE.INDEX_LOAD_TAG_S (R562). -/
def execCacheIndexLoadTagS (base : Reg) (offset : BitVec 16) (s : State) : Out :=
  s.cacheIndex (s.ea base offset) fun s a pa =>
    let t := s.sTagAt (s.sKey pa (wayOf a))
    s.setTags (BitVec.ofBool (s.mruAt (s.mruIndex pa)) ++ 0#27 ++ t.tag.extractLsb' 18 4)
      (t.tag.extractLsb' 0 18 ++ 0#2 ++ t.state.bits ++ 0#1 ++ t.pidx ++ t.eccBits)

/-- CACHE.INDEX_STORE_TAG_S (R565). -/
def execCacheIndexStoreTagS (base : Reg) (offset : BitVec 16) (s : State) : Out :=
  s.cacheIndex (s.ea base offset) fun s a pa =>
    let l := s.cp0.tagLo
    (s.setSTag (s.sKey pa (wayOf a)) ⟨s.cp0.tagHi.extractLsb' 0 4 ++ l.extractLsb' 14 18, l.extractLsb' 7 2,
      BlockState.ofBits (l.extractLsb' 10 2), .given (l.extractLsb' 0 7)⟩).setMru (s.mruIndex pa) (s.cp0.tagHi.getLsbD 31)

/-- CACHE.HIT_INVALIDATE_S (R550): Status.CH tells hit from miss (R537). -/
def execCacheHitInvalidateS (base : Reg) (offset : BitVec 16) (s : State) : Out :=
  s.cacheOp (s.ea base offset) false fun s a pa =>
    ((s.sTags pa).acc excDbe).done fun p s => oneWay (p.1.holds pa) (p.2.holds pa) fun w =>
      .next (match w with
        | some w => (((s.purge .drop (pickWay p w).pidx pa).setSTag (s.sKey pa w)
            (sTagOf pa (pidxOf a) .invalid)).setMru (s.mruIndex pa) (!w)).setCh true
        | .none => s.setCh false).advance

/-- CACHE.HIT_WRITEBACK_INVALIDATE_S (R553): Status.CH tells hit from miss (R537). -/
def execCacheHitWritebackInvalidateS (base : Reg) (offset : BitVec 16) (s : State) : Out :=
  s.cacheOp (s.ea base offset) false fun s a pa =>
    ((s.sTags pa).acc excDbe).done fun p s => oneWay (p.1.holds pa) (p.2.holds pa) fun w =>
      .next (match w with
        | some w => (s.cacheEvict .inconsistent a pa w).setCh true
        | .none => s.setCh false).advance

/-- CACHE.INDEX_LOAD_DATA_S (R572). -/
def execCacheIndexLoadDataS (base : Reg) (offset : BitVec 16) (s : State) : Out :=
  s.cacheIndex (s.ea base offset) fun s a pa =>
    let q := s.sQuadAt (s.sKey pa (wayOf a)) (s.sQuadIndex pa)
    (s.setTags (high32 (quadPart q.data pa)) (low32 (quadPart q.data pa))).setEcc q.checkBits

/-- CACHE.INDEX_STORE_DATA_S (R575). -/
def execCacheIndexStoreDataS (base : Reg) (offset : BitVec 16) (s : State) : Out :=
  s.cacheIndex (s.ea base offset) fun s a pa =>
    let d := s.cp0.tagHi ++ s.cp0.tagLo
    s.setSQuad (s.sKey pa (wayOf a)) (s.sQuadIndex pa)
      ⟨if pa.getLsbD 3 then 0#64 ++ d else d ++ 0#64, .given (s.cp0.ecc.extractLsb' 0 10)⟩

end Sys2Proof.Machine
end

