-- ==== Sys2Proof/Machine/Cp0.lean ====
section
/-! DEFINITION. Coprocessor 0 instructions (spec/42_cp0_instructions.md R580 to R602), what each CP0 register reads as and what
a write changes (spec/11_cp0_registers.md R82 to R176), the performance counter registers (spec/61 R1100 to R1110), and the
COP0 and COP2 encodings that always take an exception. -/

namespace Sys2Proof.Machine

/-! ## Reading -/

/-- Cause (R113): IP is live (R1083). -/
def State.cause (s : State) : Word :=
  BitVec.ofBool s.cp0.causeBd ++ 0#1 ++ s.cp0.causeCe ++ 0#12 ++ s.ip ++ 0#1 ++ s.cp0.causeCode ++ 0#2

/-- Config (R124): the cache sizes, the mode bits, and K0. -/
def State.config (s : State) : Word :=
  0b0110110000#10 ++ s.bus.modeBits.extractLsb' 3 19 ++ s.cp0.k0

/-- PRId (R121). -/
def prid : Word := 0x0009#24 ++ Config.pridRev

/-- Diagnostic.BPState as it is read: a read of the prediction table that is under way may have arrived (R151). -/
def State.bpState (s : State) : BitVec 2 :=
  if s.cp0.diagPending && !Config.branchTableLag s.ctr then Sparse.get 0 s.bpt s.cp0.diagBpIdx.toNat else s.cp0.diagBpState

/-- The read-only status fields of Diagnostic, each at its place; their values are free (R150, I47). -/
def State.diagStatus (s : State) : DWord :=
  let p := s.params.diag
  let b := Config.diagBranch s.ctr
  putField (putField (putField (putField (putField (putField 0#64 p.itlbm (Config.diagItlbm s.ctr)) p.bsIdx
    ((Config.diagBsIdx s.ctr).extractLsb' 0 p.bsIdxWidth)) p.brcv (b.extractLsb' 3 1)) p.brcw (b.extractLsb' 2 1)) p.brch
    (b.extractLsb' 1 1)) p.mp (b.extractLsb' 0 1)

/-- Diagnostic (R150), laid out by the parameter `DiagLayout`. -/
def State.diagnostic (s : State) : DWord :=
  let p := s.params.diag
  putField (putField (putField (putField (putField s.diagStatus p.dbrc
    (BitVec.ofBool s.cp0.diagDbrc)) p.bpMode s.cp0.diagBpMode) p.bpState s.bpState) p.bpIdx s.cp0.diagBpIdx)
    p.bpOp s.cp0.diagBpOp

/-- The 64-bit registers (R586); the others are 32 bits wide. -/
def cp0Wide (n : BitVec 5) : Bool :=
  n == 2#5 || n == 3#5 || n == 4#5 || n == 8#5 || n == 10#5 || n == 14#5 || n == 20#5 || n == 22#5 || n == 30#5

/-- Numbers 7, 23, 24 and 31 name no register (R175). -/
def cp0Missing (n : BitVec 5) : Bool := n == 7#5 || n == 23#5 || n == 24#5 || n == 31#5

/-- `CPR[0, n]`; a 32-bit register stands in the low half. -/
def State.cp0Read (s : State) (n : BitVec 5) : DWord :=
  match n.toNat with
  | 0 => zext32 s.cp0.index
  | 1 => s.cp0.random.setWidth 64
  | 2 => s.cp0.entryLo0
  | 3 => s.cp0.entryLo1
  | 4 => s.cp0.context
  | 5 => zext32 s.cp0.pageMask
  | 6 => s.cp0.wired.setWidth 64
  | 8 => s.cp0.badVAddr
  | 9 => zext32 s.cp0.count
  | 10 => s.cp0.entryHi
  | 11 => zext32 s.cp0.compare
  | 12 => zext32 s.cp0.status
  | 13 => zext32 s.cause
  | 14 => s.cp0.epc
  | 15 => zext32 prid
  | 16 => zext32 s.config
  | 17 => zext32 s.cp0.llAddr
  | 18 => zext32 s.cp0.watchLo
  | 19 => zext32 s.cp0.watchHi
  | 20 => s.cp0.xContext
  | 21 => zext32 s.cp0.frameMask
  | 22 => s.diagnostic
  | 25 => zext32 s.perf.ctl0
  | 26 => zext32 s.cp0.ecc
  | 27 => zext32 s.cp0.cacheErr
  | 28 => zext32 s.cp0.tagLo
  | 29 => zext32 s.cp0.tagHi
  | 30 => s.cp0.errorEpc
  | _ => Config.undefinedCp0 s.ctr

/-! ## Writing (R176) and its side effects (R587) -/

/-- TimerIP (R1088). -/
def State.setTimer (s : State) (b : Bool) : State := { s with pending := { s.pending with timer := b } }

/-- Write Count: "Whenever their values equal", IP[7] is set (R1088). -/
def State.setCount (s : State) (v : Word) : State :=
  ({ s with cp0 := { s.cp0 with count := v } } : State).setTimer (s.pending.timer || v == s.cp0.compare)

/-- Write Compare: TimerIP is cleared; with Count's own value it may be set again in the same period (R1088, I32). -/
def State.setCompare (s : State) (v : Word) : State :=
  ({ s with cp0 := { s.cp0 with compare := v } } : State).setTimer (v == s.cp0.count && Config.timerRearm s.ctr)

/-- Write an entry of the branch prediction table. -/
def State.setBpt (s : State) (i : Nat) (b : BitVec 2) : State := { s with bpt := Sparse.set 0 s.bpt i b }

/-- Initialise the prediction table line of an index: eight entries (R150). -/
def State.initBptLine (s : State) (i : Nat) (b : BitVec 2) : Nat → State
  | 0 => s
  | n + 1 => (s.setBpt (i / 8 * 8 + n) b).initBptLine i b n

/-- The branch prediction table operation BPOp starts (R150); a read may not reach the register before a jump-register lets it
(R151). -/
def State.bptOperation (s : State) : State :=
  let i := s.cp0.diagBpIdx.toNat
  match s.cp0.diagBpOp.toNat with
  | 0 =>
    if Config.branchTableLag s.ctr then { s with cp0 := { s.cp0 with diagPending := true } }
    else { s with cp0 := { s.cp0 with diagBpState := Sparse.get 0 s.bpt i } }
  | 1 => s.setBpt i s.cp0.diagBpState
  | 2 => s.initBptLine i 0 8
  | _ => s.initBptLine i 3 8

/-- Write Diagnostic (R150, R151). DESIGN CHOICE: a read of the prediction table that an earlier write started and that is still under
way is dropped, where R151 does not say whether it still arrives (notes/assumptions/36.md). -/
def State.setDiagnostic (s : State) (v : DWord) : State :=
  let p := s.params.diag
  ({ s with
    cp0 := { s.cp0 with
      diagBpOp := v.extractLsb' p.bpOp 2
      diagBpIdx := v.extractLsb' p.bpIdx 9
      diagBpState := v.extractLsb' p.bpState 2
      diagBpMode := v.extractLsb' p.bpMode 2
      diagDbrc := v.getLsbD p.dbrc
      diagPending := false } } : State).bptOperation

/-- `CPR[0, n] <- v` through the write masks of R176, with the side effects of R587; a write to a number without a register
does nothing (R175). -/
def State.cp0Write (s : State) (n : BitVec 5) (v : DWord) : State :=
  let w := low32 v
  match n.toNat with
  | 0 => { s with cp0 := { s.cp0 with index := mergeMask 0x0000003F s.cp0.index w } }
  | 2 => { s with cp0 := { s.cp0 with entryLo0 := v &&& 0xC0000003FFFFFFFF } }
  | 3 => { s with cp0 := { s.cp0 with entryLo1 := v &&& 0xC0000003FFFFFFFF } }
  | 4 => { s with cp0 := { s.cp0 with context := mergeMask 0xFFFFFFFFFF800000 s.cp0.context v } }
  | 5 => { s with cp0 := { s.cp0 with pageMask := w &&& 0x01FFE000 } }
  | 6 => { s with cp0 := { s.cp0 with wired := v.extractLsb' 0 6, random := 63 } }
  | 9 => s.setCount w
  | 10 => { s with cp0 := { s.cp0 with entryHi := v &&& 0xC0000FFFFFFFE0FF } }
  | 11 => s.setCompare w
  | 12 => s.setStatus (w &&& 0xFE7FFFFF)
  | 13 => { s with cp0 := { s.cp0 with causeIpSw := v.extractLsb' 8 2 } }
  | 14 => { s with cp0 := { s.cp0 with epc := v } }
  | 16 => { s with cp0 := { s.cp0 with k0 := v.extractLsb' 0 3 } }
  | 17 => { s with cp0 := { s.cp0 with llAddr := w } }
  | 18 => { s with cp0 := { s.cp0 with watchLo := w &&& 0xFFFFFFFB }, pending := { s.pending with watch := false } }
  | 19 => { s with cp0 := { s.cp0 with watchHi := w &&& 0x000000FF } }
  | 20 => { s with cp0 := { s.cp0 with xContext := mergeMask 0xFFFFFFE000000000 s.cp0.xContext v } }
  | 21 => { s with cp0 := { s.cp0 with frameMask := w &&& 0x0000FFFF } }
  | 22 => s.setDiagnostic v
  | 25 => { s with perf := { s.perf with ctl0 := w &&& 0x000001FF } }
  | 26 => { s with cp0 := { s.cp0 with ecc := w &&& 0x000003FF } }
  | 28 => { s with cp0 := { s.cp0 with tagLo := w } }
  | 29 => { s with cp0 := { s.cp0 with tagHi := w } }
  | 30 => { s with cp0 := { s.cp0 with errorEpc := v } }
  | _ => s

/-- A performance counter. -/
def State.perfCounter (s : State) (reg : BitVec 5) : Word := if reg = 0#5 then s.perf.cnt0 else s.perf.cnt1

/-- A performance control register. -/
def State.perfControl (s : State) (reg : BitVec 5) : Word := if reg = 0#5 then s.perf.ctl0 else s.perf.ctl1

/-- Write a performance counter. -/
def State.setPerfCounter (s : State) (reg : BitVec 5) (w : Word) : State :=
  if reg = 0#5 then { s with perf := { s.perf with cnt0 := w } } else { s with perf := { s.perf with cnt1 := w } }

/-- Write a performance control register: bits 8:0 are stored (R590, R1102). -/
def State.setPerfControl (s : State) (reg : BitVec 5) (w : Word) : State :=
  if reg = 0#5 then { s with perf := { s.perf with ctl0 := w &&& 0x000001FF } }
  else { s with perf := { s.perf with ctl1 := w &&& 0x000001FF } }

/-- "only register 0 and 1 are valid" (R590, I34). -/
def requirePerf (reg : BitVec 5) (k : Out) : Out := if reg.toNat ≤ 1 then k else .fault .perfRegisterInvalid

/-- A TLB write with a Mask of Table 14-6; with another "the operation of the TLB is undefined" (R92, I11). -/
def State.tlbWriteAt (s : State) (i : BitVec 6) : Out :=
  if maskLegal (s.cp0.pageMask.extractLsb' 13 12) then .next (s.tlbWrite i).advance else .fault .pageMaskInvalid

/-- CP0 usability, then Reserved Instruction (R600, R601). -/
def State.reservedCop0 (s : State) : Out := s.requireCp0 (.next (s.takeException excRi))

/-- A coprocessor 2 instruction: Coprocessor Unusable, or Reserved Instruction when CU2 is set (R476). -/
def State.coprocessor2 (s : State) : Out := .next (if s.cu2 then s.takeException excRi else s.coprocessorUnusable 2)

/-! ## Moves -/

/-- MFC0 (R582). -/
def execMfc0 (rt : Reg) (rd : BitVec 5) (s : State) : Out :=
  s.requireCp0 (s.put rt (sext32 (low32 (s.cp0Read rd))))

/-- DMFC0 (R584): a 32-bit register gives a free value (I7). -/
def execDmfc0 (rt : Reg) (rd : BitVec 5) (s : State) : Out :=
  s.requireCp0 (s.requireMips3 (s.put rt (if cp0Wide rd then s.cp0Read rd
    else if cp0Missing rd then Config.undefinedCp0 s.ctr else Config.dmfc0Narrow s.ctr)))

/-- MTC0 (R583). -/
def execMtc0 (rt : Reg) (rd : BitVec 5) (s : State) : Out :=
  s.requireCp0 (.next (s.cp0Write rd (s.gpr rt)).advance)

/-- DMTC0 (R585): a 32-bit register receives a free value (I7). -/
def execDmtc0 (rt : Reg) (rd : BitVec 5) (s : State) : Out :=
  s.requireCp0 (s.requireMips3 (.next (s.cp0Write rd (if cp0Wide rd then s.gpr rt else Config.dmtc0Narrow s.ctr)).advance))

/-- MFPC (R590). -/
def execMfpc (rt : Reg) (reg : BitVec 5) (s : State) : Out :=
  s.requireCp0 (requirePerf reg (s.put rt (sext32 (s.perfCounter reg))))

/-- MTPC (R590). -/
def execMtpc (rt : Reg) (reg : BitVec 5) (s : State) : Out :=
  s.requireCp0 (requirePerf reg (.next (s.setPerfCounter reg (low32 (s.gpr rt))).advance))

/-- MFPS (R590). -/
def execMfps (rt : Reg) (reg : BitVec 5) (s : State) : Out :=
  s.requireCp0 (requirePerf reg (s.put rt (sext32 (s.perfControl reg))))

/-- MTPS (R590). -/
def execMtps (rt : Reg) (reg : BitVec 5) (s : State) : Out :=
  s.requireCp0 (requirePerf reg (.next (s.setPerfControl reg (low32 (s.gpr rt))).advance))

/-! ## Exception return and the TLB -/

/-- ERET (R592). -/
def execEret (s : State) : Out :=
  s.requireCp0 (if s.inSlot then .fault .eretInDelaySlot else .next s.exceptionReturn)

/-- TLBP (R595). -/
def execTlbp (s : State) : Out :=
  s.requireCp0 (.next s.tlbProbe.advance)

/-- TLBR (R596). -/
def execTlbr (s : State) : Out :=
  s.requireCp0 (.next s.tlbRead.advance)

/-- TLBWI (R597). -/
def execTlbwi (s : State) : Out :=
  s.requireCp0 (s.tlbWriteAt (s.cp0.index.extractLsb' 0 6))

/-- TLBWR (R598). -/
def execTlbwr (s : State) : Out :=
  s.requireCp0 (s.tlbWriteAt s.cp0.random)

/-! ## Encodings that always take an exception -/

/-- BC0F (R600). -/
def execBc0f (_offset : BitVec 16) (s : State) : Out :=
  s.reservedCop0

/-- BC0T (R600). -/
def execBc0t (_offset : BitVec 16) (s : State) : Out :=
  s.reservedCop0

/-- BC0FL (R600). -/
def execBc0fl (_offset : BitVec 16) (s : State) : Out :=
  s.reservedCop0

/-- BC0TL (R600). -/
def execBc0tl (_offset : BitVec 16) (s : State) : Out :=
  s.reservedCop0

/-- RFE (R601). -/
def execRfe (s : State) : Out :=
  s.reservedCop0

/-- COP2 (R476). -/
def execCop2 (_code : BitVec 26) (s : State) : Out :=
  s.coprocessor2

/-- LWC2 (R476). -/
def execLwc2 (_base : Reg) (_rt : Reg) (_offset : BitVec 16) (s : State) : Out :=
  s.coprocessor2

/-- LDC2 (R476). -/
def execLdc2 (_base : Reg) (_rt : Reg) (_offset : BitVec 16) (s : State) : Out :=
  s.coprocessor2

/-- SWC2 (R476). -/
def execSwc2 (_base : Reg) (_rt : Reg) (_offset : BitVec 16) (s : State) : Out :=
  s.coprocessor2

/-- SDC2 (R476). -/
def execSdc2 (_base : Reg) (_rt : Reg) (_offset : BitVec 16) (s : State) : Out :=
  s.coprocessor2

end Sys2Proof.Machine
end

