-- ==== Sys2Proof/Machine/Float.lean ====
section
/-! DEFINITION. The arithmetic of the floating-point unit (spec/43_fpu.md R632, R636, R641, R650): operands are unpacked to
exact values, the operation is computed exactly, and the result is rounded once. S values stand in the low half of a
doubleword. Tininess is detected after rounding. notes/assumptions/20.md to 27.md. -/

namespace Sys2Proof.Machine

/-- S is binary32, D is binary64 (R650). -/
inductive Fmt where
  /-- binary32 -/
  | s
  /-- binary64 -/
  | d
  deriving DecidableEq, Repr

/-- Fraction bits. -/
def Fmt.frac : Fmt → Nat
  | .s => 23
  | .d => 52

/-- Exponent bits. -/
def Fmt.expBits : Fmt → Nat
  | .s => 8
  | .d => 11

/-- Exponent bias. -/
def Fmt.bias (f : Fmt) : Nat := 2 ^ (f.expBits - 1) - 1

/-- The least exponent of a normal number. -/
def Fmt.emin (f : Fmt) : Int := 1 - (f.bias : Int)

/-- The greatest exponent of a finite number. -/
def Fmt.emax (f : Fmt) : Int := (f.bias : Int)

/-- An unpacked operand: a finite one is `(-1)^neg * m * 2^e`. -/
inductive Num where
  /-- not a number; signalling or quiet -/
  | nan (signalling : Bool)
  /-- infinity -/
  | inf (neg : Bool)
  /-- finite, zeros included -/
  | fin (neg : Bool) (m : Nat) (e : Int)
  deriving DecidableEq, Repr

/-- The sign bit of a pattern. -/
def Fmt.sign (f : Fmt) (v : DWord) : Bool := v.getLsbD (f.frac + f.expBits)

/-- The biased exponent field of a pattern. -/
def Fmt.expField (f : Fmt) (v : DWord) : Nat := v.toNat / 2 ^ f.frac % 2 ^ f.expBits

/-- The fraction field of a pattern. -/
def Fmt.fracField (f : Fmt) (v : DWord) : Nat := v.toNat % 2 ^ f.frac

/-- Unpack a pattern. A signalling NaN has the most significant fraction bit 1 (R650). -/
def Fmt.unpack (f : Fmt) (v : DWord) : Num :=
  let e := f.expField v
  let m := f.fracField v
  if e = 2 ^ f.expBits - 1 then (if m = 0 then .inf (f.sign v) else .nan (decide (2 ^ (f.frac - 1) ≤ m)))
  else if e = 0 then .fin (f.sign v) m (f.emin - f.frac)
  else .fin (f.sign v) (m + 2 ^ f.frac) ((e : Int) - f.bias - f.frac)

/-- A pattern with a sign. -/
def Fmt.signed (f : Fmt) (neg : Bool) (n : Nat) : DWord :=
  BitVec.ofNat 64 (n + if neg then 2 ^ (f.frac + f.expBits) else 0)

/-- Zero. -/
def Fmt.zero (f : Fmt) (neg : Bool) : DWord := f.signed neg 0

/-- Infinity. -/
def Fmt.infinity (f : Fmt) (neg : Bool) : DWord := f.signed neg ((2 ^ f.expBits - 1) * 2 ^ f.frac)

/-- The largest finite number. -/
def Fmt.largest (f : Fmt) (neg : Bool) : DWord := f.signed neg ((2 ^ f.expBits - 1) * 2 ^ f.frac - 1)

/-- The default quiet NaN: 7FBFFFFF or 7FF7FFFFFFFFFFFF (R650). -/
def Fmt.defaultNan : Fmt → DWord
  | .s => 0x7FBFFFFF
  | .d => 0x7FF7FFFFFFFFFFFF

/-- What an operation delivers: the pattern, the status, and whether the result is denormalized. -/
structure FpRes where
  /-- the pattern -/
  value : DWord
  /-- E V Z O U I -/
  status : FpStatus
  /-- nonzero, below the normal range -/
  denorm : Bool
  deriving DecidableEq, Repr

/-- A result without status. -/
def FpRes.exact (v : DWord) : FpRes := ⟨v, 0, false⟩

/-- Invalid Operation, with the default quiet NaN. -/
def Fmt.invalid (f : Fmt) : FpRes := ⟨f.defaultNan, fpV, false⟩

/-! ## Rounding (R636) -/

/-- Whether the magnitude is rounded up: `odd` is the last bit kept; `rest` compares what is cut off with half a unit, and
`inexact` says that something is cut off. -/
def roundsUp (rm : BitVec 2) (neg odd : Bool) (rest : Ordering) (inexact : Bool) : Bool :=
  match rm.toNat with
  | 0 => rest == .gt || (rest == .eq && odd)
  | 1 => false
  | 2 => !neg && inexact
  | _ => neg && inexact

/-- The exact magnitude `m * 2^e`, or a little more if `sticky`, in units of `2^q`, rounded; and whether it is inexact.
`sticky` is used only with e < q. -/
def roundAt (rm : BitVec 2) (neg : Bool) (m : Nat) (e : Int) (sticky : Bool) (q : Int) : Nat × Bool :=
  if q ≤ e then (m * 2 ^ (e - q).toNat, sticky)
  else
    let k := (q - e).toNat
    let n := m / 2 ^ k
    let r := m % 2 ^ k
    let rest := match compare (2 * r) (2 ^ k) with
      | .eq => if sticky then .gt else .eq
      | o => o
    let inexact := r != 0 || sticky
    (if roundsUp rm neg (n % 2 == 1) rest inexact then n + 1 else n, inexact)

/-- The status of an inexact result. -/
def inexactStatus (b : Bool) : FpStatus := if b then fpI else 0

/-- Overflow delivers infinity or the largest finite number by mode and sign, with O and I (R650). -/
def Fmt.overflow (f : Fmt) (rm : BitVec 2) (neg : Bool) : FpRes :=
  let toInf := match rm.toNat with
    | 0 => true
    | 1 => false
    | 2 => !neg
    | _ => neg
  ⟨if toInf then f.infinity neg else f.largest neg, fpO ||| fpI, false⟩

/-- Round an exact nonzero magnitude to a format. DESIGN CHOICE: a tiny result that rounds to zero, or up to the least normal number, is
not denormalized: it has U and I, no E with FS = 0, and keeps U and I with FS = 1, where R632 and R922 say nothing of it; only a result
that is denormalized as delivered is settled by `Fmt.settle` (notes/assumptions/20.md). -/
def Fmt.round (f : Fmt) (rm : BitVec 2) (neg : Bool) (m : Nat) (e : Int) (sticky : Bool) : FpRes :=
  let x : Int := e + (Nat.log2 m : Int)
  let n := roundAt rm neg m e sticky (x - f.frac)
  let x1 := if n.1 = 2 ^ (f.frac + 1) then x + 1 else x
  if x1 < f.emin then
    let t := roundAt rm neg m e sticky (f.emin - f.frac)
    ⟨f.signed neg t.1, if t.2 then fpU ||| fpI else 0, decide (t.1 ≠ 0 ∧ t.1 < 2 ^ f.frac)⟩
  else if f.emax < x1 then f.overflow rm neg
  else ⟨f.signed neg (((x + f.bias).toNat) * 2 ^ f.frac + n.1 - 2 ^ f.frac), inexactStatus n.2, false⟩

/-- Round an exact magnitude that may be zero. -/
def Fmt.roundZ (f : Fmt) (rm : BitVec 2) (neg : Bool) (m : Nat) (e : Int) (sticky : Bool) : FpRes :=
  if m = 0 then .exact (f.zero neg) else f.round rm neg m e sticky

/-! ## NaN operands (R650) -/

/-- Whether a pattern is a NaN, and whether it signals. -/
def Fmt.isNan (f : Fmt) (v : DWord) : Bool :=
  match f.unpack v with
  | .nan _ => true
  | _ => false

/-- A signalling NaN. -/
def Fmt.isSignalling (f : Fmt) (v : DWord) : Bool := f.unpack v == .nan true

/-- The result of an operation on operands of which one is a NaN: V for a signalling one, else a quiet operand. -/
def Fmt.nanResult (f : Fmt) (pick : Bool) (a b : DWord) : FpRes :=
  if f.isSignalling a || f.isSignalling b then f.invalid
  else if f.isNan a && (pick || !f.isNan b) then .exact a
  else .exact b

/-! ## Operations -/

/-- The sign of an exact zero sum of opposite signs: minus when rounding to minus infinity (R931). -/
def zeroSign (rm : BitVec 2) : Bool := rm == 3#2

/-- The signed value of a magnitude in units of 2^q. -/
def signedAt (neg : Bool) (m : Nat) (e q : Int) : Int :=
  let n : Int := (m * 2 ^ (e - q).toNat : Nat)
  if neg then -n else n

/-- Addition (R930). `pick` chooses between two NaN operands. -/
def Fmt.add (f : Fmt) (rm : BitVec 2) (pick : Bool) (a b : DWord) : FpRes :=
  match f.unpack a, f.unpack b with
  | .nan _, _ => f.nanResult pick a b
  | _, .nan _ => f.nanResult pick a b
  | .inf x, .inf y => if x == y then .exact (f.infinity x) else f.invalid
  | .inf x, .fin _ _ _ => .exact (f.infinity x)
  | .fin _ _ _, .inf y => .exact (f.infinity y)
  | .fin x m e, .fin y n g =>
    let q := min e g
    let v := signedAt x m e q + signedAt y n g q
    if v = 0 then .exact (f.zero (if x == y then x else zeroSign rm))
    else f.round rm (decide (v < 0)) v.natAbs q false

/-- A pattern with its sign inverted. -/
def Fmt.flip (f : Fmt) (v : DWord) : DWord := v ^^^ (1#64 <<< (f.frac + f.expBits))

/-- Subtraction (R931); a NaN operand keeps its sign. -/
def Fmt.sub (f : Fmt) (rm : BitVec 2) (pick : Bool) (a b : DWord) : FpRes :=
  if f.isNan a || f.isNan b then f.nanResult pick a b else f.add rm pick a (f.flip b)

/-- Multiplication (R932). -/
def Fmt.mul (f : Fmt) (rm : BitVec 2) (pick : Bool) (a b : DWord) : FpRes :=
  match f.unpack a, f.unpack b with
  | .nan _, _ => f.nanResult pick a b
  | _, .nan _ => f.nanResult pick a b
  | .inf x, .inf y => .exact (f.infinity (x != y))
  | .inf x, .fin y n _ => if n = 0 then f.invalid else .exact (f.infinity (x != y))
  | .fin x m _, .inf y => if m = 0 then f.invalid else .exact (f.infinity (x != y))
  | .fin x m e, .fin y n g => f.roundZ rm (x != y) (m * n) (e + g) false

/-- Division (R933): the quotient to 120 bits below the operands' scale, and a sticky bit. -/
def Fmt.div (f : Fmt) (rm : BitVec 2) (pick : Bool) (a b : DWord) : FpRes :=
  match f.unpack a, f.unpack b with
  | .nan _, _ => f.nanResult pick a b
  | _, .nan _ => f.nanResult pick a b
  | .inf _, .inf _ => f.invalid
  | .inf x, .fin y _ _ => .exact (f.infinity (x != y))
  | .fin x _ _, .inf y => .exact (f.zero (x != y))
  | .fin x m e, .fin y n g =>
    if n = 0 then (if m = 0 then f.invalid else ⟨f.infinity (x != y), fpZ, false⟩)
    else f.roundZ rm (x != y) (m * 2 ^ 120 / n) (e - g - 120) (m * 2 ^ 120 % n != 0)

/-- The integer square root, bit by bit from 2^k down. -/
def sqrtBits (n : Nat) : Nat → Nat → Nat
  | 0, r => r
  | k + 1, r => sqrtBits n k (if (r + 2 ^ k) * (r + 2 ^ k) ≤ n then r + 2 ^ k else r)

/-- `m * 2^e` with an even exponent. -/
def evenExponent (m : Nat) (e : Int) : Nat × Int := if e % 2 = 0 then (m, e) else (2 * m, e - 1)

/-- Square root (R934). -/
def Fmt.sqrt (f : Fmt) (rm : BitVec 2) (a : DWord) : FpRes :=
  match f.unpack a with
  | .nan _ => f.nanResult true a a
  | .inf x => if x then f.invalid else .exact a
  | .fin x m e =>
    if m = 0 then .exact a
    else if x then f.invalid
    else
      let p := evenExponent m e
      let n := p.1 * 2 ^ 128
      let r := sqrtBits n 92 0
      f.round rm false r (p.2 / 2 - 64) (r * r != n)

/-- An error of `k` units in the last place (R650). DESIGN CHOICE: only of a result that is inexact and nothing else, normal, and still
normal with the error; tiny results and those at the ends of the range have none, which R650 does not say (notes/assumptions/24.md). -/
def Fmt.inexactBy (f : Fmt) (r : FpRes) (k : Int) : FpRes :=
  let v := BitVec.ofInt 64 ((r.value.toNat : Int) + k)
  let normal (x : DWord) : Bool := f.expField x != 0 && f.expField x != 2 ^ f.expBits - 1
  if r.status == fpI && normal r.value && normal v then { r with value := v } else r

/-- An error of up to one unit. -/
def ulps3 (n : Nat) : Int :=
  match n % 3 with
  | 0 => 0
  | 1 => 1
  | _ => -1

/-- An error of up to two units. -/
def ulps5 (n : Nat) : Int :=
  match n % 5 with
  | 0 => 0
  | 1 => 1
  | 2 => -1
  | 3 => 2
  | _ => -2

/-- The pattern of 1. -/
def Fmt.one (f : Fmt) : DWord := f.signed false (f.bias * 2 ^ f.frac)

/-- Reciprocal (R938); `exact` is the parameter `RecipExact` (R650). -/
def Fmt.recip (f : Fmt) (exact : Bool) (rm : BitVec 2) (a : DWord) : FpRes :=
  f.inexactBy (f.div rm false f.one a) (if exact then 0 else ulps3 (Config.recipError (f == .d) a))

/-- Reciprocal square root (R939); `exact` is the parameter `RecipExact` (R650). -/
def Fmt.rsqrt (f : Fmt) (exact : Bool) (rm : BitVec 2) (a : DWord) : FpRes :=
  match f.unpack a with
  | .nan _ => f.nanResult true a a
  | .inf x => if x then f.invalid else .exact (f.zero false)
  | .fin x m e =>
    if m = 0 then ⟨f.infinity x, fpZ, false⟩
    else if x then f.invalid
    else
      let p := evenExponent m e
      let r := sqrtBits (2 ^ 240 / p.1) 121 0
      f.inexactBy (f.round rm false r (-(p.2 / 2) - 120) (r * r * p.1 != 2 ^ 240))
        (if exact then 0 else ulps5 (Config.rsqrtError (f == .d) a))

/-- A denormalized number. -/
def Fmt.isDenorm (f : Fmt) (v : DWord) : Bool := f.expField v == 0 && f.fracField v != 0

/-- A result that is one of the operand's bits but for the sign; it may be denormalized (R632, R922). -/
def Fmt.copied (f : Fmt) (v : DWord) : FpRes := ⟨v, 0, f.isDenorm v⟩

/-- Absolute value (R935). -/
def Fmt.abs (f : Fmt) (a : DWord) : FpRes :=
  if f.isNan a then f.nanResult true a a else f.copied (if f.sign a then f.flip a else a)

/-- Negation (R937). -/
def Fmt.neg (f : Fmt) (a : DWord) : FpRes :=
  if f.isNan a then f.nanResult true a a else f.copied (f.flip a)

/-! ## Conversions -/

/-- The quiet NaN of a conversion between formats: sign and fraction are free (R650). -/
def freeNan (f : Fmt) (n : Nat) : DWord :=
  match f with
  | .s => f.signed (Config.nanSign n) (255 * 2 ^ 23 +
      (if (Config.nanFractionS n).toNat = 0 then 1 else (Config.nanFractionS n).toNat))
  | .d => f.signed (Config.nanSign n) (2047 * 2 ^ 52 +
      (if (Config.nanFractionD n).toNat = 0 then 1 else (Config.nanFractionD n).toNat))

/-- From format `f` to format `g` (R950, R951). -/
def Fmt.convert (f g : Fmt) (rm : BitVec 2) (n : Nat) (a : DWord) : FpRes :=
  match f.unpack a with
  | .nan sig => if sig then g.invalid else .exact (freeNan g n)
  | .inf x => .exact (g.infinity x)
  | .fin x m e => g.roundZ rm x m e false

/-- From an integer (R950, R951). -/
def Fmt.ofInt (g : Fmt) (rm : BitVec 2) (v : Int) : FpRes := g.roundZ rm (decide (v < 0)) v.natAbs 0 false

/-- The rounded integer of an operand, and whether it is inexact; none for a NaN or an infinity. -/
def Fmt.toInt (f : Fmt) (rm : BitVec 2) (a : DWord) : Option (Int × Bool) :=
  match f.unpack a with
  | .fin x m e =>
    let n := roundAt rm x m e false 0
    some (if x then -(n.1 : Int) else n.1, n.2)
  | _ => .none

/-- To W (R944 to R947, R952): V delivers 7FFFFFFF. DESIGN CHOICE: an operand out of range sets V alone, also where it is no integer, and
not I beside it: the section's "I: the value was not an integer" does not say, and R650 leaves it to IEEE 754
(notes/assumptions/23.md). -/
def Fmt.toW (f : Fmt) (rm : BitVec 2) (a : DWord) : FpRes :=
  match f.toInt rm a with
  | some (v, x) =>
    if -2 ^ 31 ≤ v ∧ v < 2 ^ 31 then ⟨zext32 (BitVec.ofInt 32 v), inexactStatus x, false⟩ else ⟨0x7FFFFFFF, fpV, false⟩
  | .none => ⟨0x7FFFFFFF, fpV, false⟩

/-- To L (R940 to R943, R953): V delivers 7FFFFFFFFFFFFFFF; beyond `limit`, the parameter `CvtLLimit`, the operation is
unimplemented (R641). DESIGN CHOICE: V stands without I, as in `Fmt.toW`; a NaN or an infinity, which has no rounded integer to compare with the limit, sets V and not
E (R650; notes/assumptions/23.md). -/
def Fmt.toL (f : Fmt) (limit : Int) (rm : BitVec 2) (a : DWord) : FpRes :=
  match f.toInt rm a with
  | some (v, x) =>
    let c := if -2 ^ 63 ≤ v ∧ v < 2 ^ 63 then inexactStatus x else fpV
    if -limit ≤ v ∧ v < limit then ⟨BitVec.ofInt 64 v, c, false⟩
    else ⟨0x7FFFFFFFFFFFFFFF, c ||| fpE, false⟩
  | .none => ⟨0x7FFFFFFFFFFFFFFF, fpV, false⟩

/-! ## Comparison (R960) -/

/-- The order of two operands; none if unordered. -/
def Fmt.compare (f : Fmt) (a b : DWord) : Option Ordering :=
  let key (neg : Bool) (m : Nat) (e q : Int) : Int := signedAt neg m e q
  match f.unpack a, f.unpack b with
  | .nan _, _ => .none
  | _, .nan _ => .none
  | .inf x, .inf y => some (if x == y then .eq else if x then .lt else .gt)
  | .inf x, .fin _ _ _ => some (if x then .lt else .gt)
  | .fin _ _ _, .inf y => some (if y then .gt else .lt)
  | .fin x m e, .fin y n g => some (Ord.compare (key x m e (min e g)) (key y n g (min e g)))

/-- The predicate of a 4-bit cond field (R960). -/
def condHolds (cond : BitVec 4) (o : Option Ordering) : Bool :=
  match o with
  | .none => cond.getLsbD 0
  | some .lt => cond.getLsbD 2
  | some .eq => cond.getLsbD 1
  | some .gt => false

/-- The status of a compare (R960). -/
def Fmt.compareStatus (f : Fmt) (cond : BitVec 4) (a b : DWord) : FpStatus :=
  if f.isSignalling a || f.isSignalling b || (cond.getLsbD 3 && (f.compare a b).isNone) then fpV else 0

/-! ## Denormalized results and unimplemented operands -/

/-- A denormalized result (R632): replaced by zero of its sign, without status, with FS = 1 (`flush`); Unimplemented with FS = 0,
and then Underflow too if its trap is enabled (`trapU`), exact or not: IEEE 754-1985 signals tininess alone to an enabled trap
(R650; notes/assumptions/20.md). -/
def Fmt.settle (f : Fmt) (flush trapU : Bool) (r : FpRes) : FpRes :=
  if r.denorm then
    (if flush then .exact (f.zero (f.sign r.value))
    else { r with status := r.status ||| fpE ||| (if trapU then fpU else 0), denorm := false })
  else r

/-- A denormalized or NaN operand, for which alone R640 leaves open whether the operation is performed. -/
def Fmt.special (f : Fmt) (v : DWord) : Bool := f.isNan v || f.isDenorm v

/-- `FpUnimplementedOperand` (R640, D29). -/
def Fmt.operandRefused (f : Fmt) (fn : BitVec 6) (l : List DWord) : Bool :=
  l.any f.special && Config.fpUnimplementedOperand fn (f == .d) l

/-- What settles a result: FSR.FS and FSR.Enable.U, the rounding mode, and which of two NaN operands is delivered. -/
structure FpMode where
  /-- FSR.RM -/
  rm : BitVec 2
  /-- FSR.FS -/
  flush : Bool
  /-- FSR.Enable.U -/
  trapU : Bool
  /-- the first of two NaN operands is delivered -/
  pick : Bool
  deriving DecidableEq, Repr

/-- Two operations in a row: the product, settled, then the sum; the statuses are united (R650, R980). -/
def Fmt.mulThenAdd (f : Fmt) (m : FpMode) (negAddend : Bool) (r a b : DWord) : FpRes :=
  let p := f.settle m.flush m.trapU (f.mul m.rm m.pick a b)
  let x := f.settle m.flush m.trapU
    (if negAddend then f.sub m.rm m.pick p.value r else f.add m.rm m.pick p.value r)
  ⟨x.value, p.status ||| x.status, false⟩

/-- One operation with a single rounding (R650, `MaddFused`). -/
def Fmt.mulAddOnce (f : Fmt) (m : FpMode) (negAddend : Bool) (r a b : DWord) : FpRes :=
  match f.unpack a, f.unpack b, f.unpack r with
  | .fin _ _ _, .fin _ _ _, .nan _ => f.nanResult true r r
  | .fin _ _ _, .fin _ _ _, .inf z => .exact (f.infinity (z != negAddend))
  | .fin x k e, .fin y n g, .fin z l h =>
    let q := min (e + g) h
    let v := signedAt (x != y) (k * n) (e + g) q + signedAt (z != negAddend) l h q
    f.settle m.flush m.trapU
      (if v = 0 then .exact (f.zero (if (x != y) == (z != negAddend) then x != y else zeroSign m.rm))
      else f.round m.rm (decide (v < 0)) v.natAbs q false)
  | _, _, _ => f.mulThenAdd m negAddend r a b

/-- Multiply and add (R980 to R983); the N forms invert the sign bit of the sum, whatever it is. `fused` is the parameter
`MaddFused`. -/
def Fmt.mulAdd (f : Fmt) (fused : Bool) (m : FpMode) (negAddend negResult : Bool) (r a b : DWord) : FpRes :=
  let x := if fused then f.mulAddOnce m negAddend r a b else f.mulThenAdd m negAddend r a b
  if negResult then { x with value := f.flip x.value } else x

end Sys2Proof.Machine
end

