-- ==== Sys2Proof/Machine/Fp.lean ====
section
/-! DEFINITION. Floating-point instructions but for loads, stores and branches (spec/47_fp_isa.md R920 to R983), over the
arithmetic of Float.lean and the completion of Flags.lean. The order of the checks is that of R478. -/

namespace Sys2Proof.Machine

/-! ## Shared operations -/

/-- An operand of a format (R921). -/
def State.operand (s : State) (f : Fmt) (n : BitVec 5) : DWord :=
  match f with
  | .s => s.operandS n
  | .d => s.operandD n

/-- A result of a format; W results are written as S, L results as D (R921). -/
def State.result (s : State) (f : Fmt) (n : BitVec 5) (v : DWord) : State :=
  match f with
  | .s => s.resultS n v
  | .d => s.resultD n v

/-- MIPS III gating of an L format: else Unimplemented Operation (R478). -/
def State.requireLong (s : State) (k : Out) : Out := if s.mips3 then k else s.unimplemented

/-- MIPS IV gating of a COP1 arithmetic instruction: else Unimplemented Operation (R478). -/
def State.requireFp4 (s : State) (k : Out) : Out := if s.mips4 then k else s.unimplemented

/-- `Complete(fd, fmt, r, c)` (R922), with the result settled under the FSR (R632). -/
def State.fpComplete (s : State) (g : Fmt) (fd : BitVec 5) (r : FpRes) : Out :=
  let x := g.settle s.flush s.trapU r
  s.completeFp x.status fun t => t.result g fd x.value

/-- An operation on operands of format `f` with a result of format `g` (R922); `fn` is the function code. -/
def State.fpOp (s : State) (f g : Fmt) (fn : BitVec 6) (ops : List DWord) (fd : BitVec 5) (r : FpRes) : Out :=
  if f.operandRefused fn ops then s.unimplemented else s.fpComplete g fd r

/-- Which of two NaN operands a step's operation delivers. -/
def State.nanPick (s : State) : Bool := Config.nanChoice s.ctr

/-- A two-operand arithmetic instruction. -/
def State.fpBinary (s : State) (f : Fmt) (fn : BitVec 6) (op : BitVec 2 → Bool → DWord → DWord → FpRes)
    (fs ft fd : BitVec 5) : Out :=
  let a := s.operand f fs
  let b := s.operand f ft
  s.requireCp1 (s.fpOp f f fn [a, b] fd (op s.rm s.nanPick a b))

/-- A one-operand instruction of format `f` with a result of format `g`. -/
def State.fpUnary (s : State) (f g : Fmt) (fn : BitVec 6) (op : DWord → FpRes) (fs fd : BitVec 5) : Out :=
  let a := s.operand f fs
  s.fpOp f g fn [a] fd (op a)

/-- A move: bits are copied and the FSR is unchanged (R642). -/
def State.fpMove (s : State) (f : Fmt) (fs fd : BitVec 5) : Out := .next (s.result f fd (s.operand f fs)).advance

/-- `CondMove` (R955): the destination is rewritten even if the condition is false (R623). -/
def State.fpCondMove (s : State) (f : Fmt) (c : Bool) (fs fd : BitVec 5) : Out :=
  s.requireCp1 (s.requireFp4 (s.fpMove f (if c then fs else fd) fd))

/-- A compare (R960). -/
def State.fpCompare (s : State) (f : Fmt) (cond : BitVec 4) (cc : BitVec 3) (fs ft : BitVec 5) : Out :=
  let a := s.operand f fs
  let b := s.operand f ft
  let k := if f.operandRefused (0b11#2 ++ cond) [a, b] then s.unimplemented
    else s.completeFp (f.compareStatus cond a b) fun t => t.setCondition cc (condHolds cond (f.compare a b))
  s.requireCp1 (if cc = 0#3 then k else s.requireFp4 k)

/-- A multiply-add (R980). -/
def State.fpMulAdd (s : State) (f : Fmt) (fn : BitVec 6) (negAddend negResult : Bool) (fr ft fs fd : BitVec 5) : Out :=
  let r := s.operand f fr
  let a := s.operand f fs
  let b := s.operand f ft
  s.requireMips4 (s.requireCp1 (s.fpOp f f fn [r, a, b] fd
    (f.mulAdd s.params.maddFused ⟨s.rm, s.flush, s.trapU, s.nanPick⟩ negAddend negResult r a b)))

/-- FCR0: implementation 09H and the revision (R46). -/
def fcr0 : Word := 0x09#24 ++ Config.fcr0Rev

/-! ## Moves between register files and control registers -/

/-- MFC1 (R923). -/
def execMfc1 (rt : Reg) (fs : FReg) (s : State) : Out :=
  s.requireCp1 (s.put rt (sext32 (s.fpr32 fs)))

/-- DMFC1 (R924). -/
def execDmfc1 (rt : Reg) (fs : FReg) (s : State) : Out :=
  s.requireCp1 (s.requireMips3 (s.requireFpr64 fs (s.put rt (s.fpr fs))))

/-- CFC1 (R925). -/
def execCfc1 (rt : Reg) (fs : BitVec 5) (s : State) : Out :=
  s.requireCp1 (if fs = 0#5 then s.put rt (sext32 fcr0)
    else if fs = 31#5 then s.put rt (sext32 s.fp.fsr) else s.put rt (Config.undefinedFcr s.ctr))

/-- MTC1 (R926). -/
def execMtc1 (rt : Reg) (fs : FReg) (s : State) : Out :=
  s.requireCp1 (.next (s.setFpr32 fs (low32 (s.gpr rt))).advance)

/-- DMTC1 (R927). -/
def execDmtc1 (rt : Reg) (fs : FReg) (s : State) : Out :=
  s.requireCp1 (s.requireMips3 (s.requireFpr64 fs (.next (s.setFpr fs (s.gpr rt)).advance)))

/-- CTC1 (R928): the FSR is written, and then the exception may be taken (R638). -/
def execCtc1 (rt : Reg) (fs : BitVec 5) (s : State) : Out :=
  let v := putField (low32 (s.gpr rt)) 18 0#5
  s.requireCp1 (if fs = 31#5 then
      (if fpTraps v (v.extractLsb' 12 6) then .next ((s.setFsr v).takeException excFpe) else .next (s.setFsr v).advance)
    else .next s.advance)

/-! ## Format S -/

/-- ADD.S (R930). -/
def execAddS (ft : FReg) (fs : FReg) (fd : FReg) (s : State) : Out :=
  s.fpBinary .s 0 (Fmt.add .s) fs ft fd

/-- SUB.S (R931). -/
def execSubS (ft : FReg) (fs : FReg) (fd : FReg) (s : State) : Out :=
  s.fpBinary .s 1 (Fmt.sub .s) fs ft fd

/-- MUL.S (R932). -/
def execMulS (ft : FReg) (fs : FReg) (fd : FReg) (s : State) : Out :=
  s.fpBinary .s 2 (Fmt.mul .s) fs ft fd

/-- DIV.S (R933). -/
def execDivS (ft : FReg) (fs : FReg) (fd : FReg) (s : State) : Out :=
  s.fpBinary .s 3 (Fmt.div .s) fs ft fd

/-- SQRT.S (R934). -/
def execSqrtS (fs : FReg) (fd : FReg) (s : State) : Out :=
  s.requireCp1 (s.fpUnary .s .s 4 (Fmt.sqrt .s s.rm) fs fd)

/-- ABS.S (R935). -/
def execAbsS (fs : FReg) (fd : FReg) (s : State) : Out :=
  s.requireCp1 (s.fpUnary .s .s 5 (Fmt.abs .s) fs fd)

/-- MOV.S (R936). -/
def execMovS (fs : FReg) (fd : FReg) (s : State) : Out :=
  s.requireCp1 (s.fpMove .s fs fd)

/-- NEG.S (R937). -/
def execNegS (fs : FReg) (fd : FReg) (s : State) : Out :=
  s.requireCp1 (s.fpUnary .s .s 7 (Fmt.neg .s) fs fd)

/-- RECIP.S (R938). -/
def execRecipS (fs : FReg) (fd : FReg) (s : State) : Out :=
  s.requireCp1 (s.requireFp4 (s.fpUnary .s .s 0b010101 (Fmt.recip .s s.params.recipExact s.rm) fs fd))

/-- RSQRT.S (R939). -/
def execRsqrtS (fs : FReg) (fd : FReg) (s : State) : Out :=
  s.requireCp1 (s.requireFp4 (s.fpUnary .s .s 0b010110 (Fmt.rsqrt .s s.params.recipExact s.rm) fs fd))

/-- ROUND.L.S (R940). -/
def execRoundLS (fs : FReg) (fd : FReg) (s : State) : Out :=
  s.requireCp1 (s.requireLong (s.fpUnary .s .d 0b001000 (Fmt.toL .s s.params.cvtLLimit 0#2) fs fd))

/-- TRUNC.L.S (R941). -/
def execTruncLS (fs : FReg) (fd : FReg) (s : State) : Out :=
  s.requireCp1 (s.requireLong (s.fpUnary .s .d 0b001001 (Fmt.toL .s s.params.cvtLLimit 1#2) fs fd))

/-- CEIL.L.S (R942). -/
def execCeilLS (fs : FReg) (fd : FReg) (s : State) : Out :=
  s.requireCp1 (s.requireLong (s.fpUnary .s .d 0b001010 (Fmt.toL .s s.params.cvtLLimit 2#2) fs fd))

/-- FLOOR.L.S (R943). -/
def execFloorLS (fs : FReg) (fd : FReg) (s : State) : Out :=
  s.requireCp1 (s.requireLong (s.fpUnary .s .d 0b001011 (Fmt.toL .s s.params.cvtLLimit 3#2) fs fd))

/-- ROUND.W.S (R944). -/
def execRoundWS (fs : FReg) (fd : FReg) (s : State) : Out :=
  s.requireCp1 (s.fpUnary .s .s 0b001100 (Fmt.toW .s 0#2) fs fd)

/-- TRUNC.W.S (R945). -/
def execTruncWS (fs : FReg) (fd : FReg) (s : State) : Out :=
  s.requireCp1 (s.fpUnary .s .s 0b001101 (Fmt.toW .s 1#2) fs fd)

/-- CEIL.W.S (R946). -/
def execCeilWS (fs : FReg) (fd : FReg) (s : State) : Out :=
  s.requireCp1 (s.fpUnary .s .s 0b001110 (Fmt.toW .s 2#2) fs fd)

/-- FLOOR.W.S (R947). -/
def execFloorWS (fs : FReg) (fd : FReg) (s : State) : Out :=
  s.requireCp1 (s.fpUnary .s .s 0b001111 (Fmt.toW .s 3#2) fs fd)

/-- CVT.W.S (R952). -/
def execCvtWS (fs : FReg) (fd : FReg) (s : State) : Out :=
  s.requireCp1 (s.fpUnary .s .s 0b100100 (Fmt.toW .s s.rm) fs fd)

/-- CVT.L.S (R953). -/
def execCvtLS (fs : FReg) (fd : FReg) (s : State) : Out :=
  s.requireCp1 (s.requireLong (s.fpUnary .s .d 0b100101 (Fmt.toL .s s.params.cvtLLimit s.rm) fs fd))

/-- MOVF.S (R955). -/
def execMovfS (cc : BitVec 3) (fs : FReg) (fd : FReg) (s : State) : Out :=
  s.fpCondMove .s (!s.condition cc) fs fd

/-- MOVT.S (R956). -/
def execMovtS (cc : BitVec 3) (fs : FReg) (fd : FReg) (s : State) : Out :=
  s.fpCondMove .s (s.condition cc) fs fd

/-- MOVZ.S (R957). -/
def execMovzS (rt : Reg) (fs : FReg) (fd : FReg) (s : State) : Out :=
  s.fpCondMove .s (s.gpr rt == 0#64) fs fd

/-- MOVN.S (R958). -/
def execMovnS (rt : Reg) (fs : FReg) (fd : FReg) (s : State) : Out :=
  s.fpCondMove .s (s.gpr rt != 0#64) fs fd

/-! ## Format D -/

/-- ADD.D (R930). -/
def execAddD (ft : FReg) (fs : FReg) (fd : FReg) (s : State) : Out :=
  s.fpBinary .d 0 (Fmt.add .d) fs ft fd

/-- SUB.D (R931). -/
def execSubD (ft : FReg) (fs : FReg) (fd : FReg) (s : State) : Out :=
  s.fpBinary .d 1 (Fmt.sub .d) fs ft fd

/-- MUL.D (R932). -/
def execMulD (ft : FReg) (fs : FReg) (fd : FReg) (s : State) : Out :=
  s.fpBinary .d 2 (Fmt.mul .d) fs ft fd

/-- DIV.D (R933). -/
def execDivD (ft : FReg) (fs : FReg) (fd : FReg) (s : State) : Out :=
  s.fpBinary .d 3 (Fmt.div .d) fs ft fd

/-- SQRT.D (R934). -/
def execSqrtD (fs : FReg) (fd : FReg) (s : State) : Out :=
  s.requireCp1 (s.fpUnary .d .d 4 (Fmt.sqrt .d s.rm) fs fd)

/-- ABS.D (R935). -/
def execAbsD (fs : FReg) (fd : FReg) (s : State) : Out :=
  s.requireCp1 (s.fpUnary .d .d 5 (Fmt.abs .d) fs fd)

/-- MOV.D (R936). -/
def execMovD (fs : FReg) (fd : FReg) (s : State) : Out :=
  s.requireCp1 (s.fpMove .d fs fd)

/-- NEG.D (R937). -/
def execNegD (fs : FReg) (fd : FReg) (s : State) : Out :=
  s.requireCp1 (s.fpUnary .d .d 7 (Fmt.neg .d) fs fd)

/-- RECIP.D (R938). -/
def execRecipD (fs : FReg) (fd : FReg) (s : State) : Out :=
  s.requireCp1 (s.requireFp4 (s.fpUnary .d .d 0b010101 (Fmt.recip .d s.params.recipExact s.rm) fs fd))

/-- RSQRT.D (R939). -/
def execRsqrtD (fs : FReg) (fd : FReg) (s : State) : Out :=
  s.requireCp1 (s.requireFp4 (s.fpUnary .d .d 0b010110 (Fmt.rsqrt .d s.params.recipExact s.rm) fs fd))

/-- ROUND.L.D (R940). -/
def execRoundLD (fs : FReg) (fd : FReg) (s : State) : Out :=
  s.requireCp1 (s.requireLong (s.fpUnary .d .d 0b001000 (Fmt.toL .d s.params.cvtLLimit 0#2) fs fd))

/-- TRUNC.L.D (R941). -/
def execTruncLD (fs : FReg) (fd : FReg) (s : State) : Out :=
  s.requireCp1 (s.requireLong (s.fpUnary .d .d 0b001001 (Fmt.toL .d s.params.cvtLLimit 1#2) fs fd))

/-- CEIL.L.D (R942). -/
def execCeilLD (fs : FReg) (fd : FReg) (s : State) : Out :=
  s.requireCp1 (s.requireLong (s.fpUnary .d .d 0b001010 (Fmt.toL .d s.params.cvtLLimit 2#2) fs fd))

/-- FLOOR.L.D (R943). -/
def execFloorLD (fs : FReg) (fd : FReg) (s : State) : Out :=
  s.requireCp1 (s.requireLong (s.fpUnary .d .d 0b001011 (Fmt.toL .d s.params.cvtLLimit 3#2) fs fd))

/-- ROUND.W.D (R944). -/
def execRoundWD (fs : FReg) (fd : FReg) (s : State) : Out :=
  s.requireCp1 (s.fpUnary .d .s 0b001100 (Fmt.toW .d 0#2) fs fd)

/-- TRUNC.W.D (R945). -/
def execTruncWD (fs : FReg) (fd : FReg) (s : State) : Out :=
  s.requireCp1 (s.fpUnary .d .s 0b001101 (Fmt.toW .d 1#2) fs fd)

/-- CEIL.W.D (R946). -/
def execCeilWD (fs : FReg) (fd : FReg) (s : State) : Out :=
  s.requireCp1 (s.fpUnary .d .s 0b001110 (Fmt.toW .d 2#2) fs fd)

/-- FLOOR.W.D (R947). -/
def execFloorWD (fs : FReg) (fd : FReg) (s : State) : Out :=
  s.requireCp1 (s.fpUnary .d .s 0b001111 (Fmt.toW .d 3#2) fs fd)

/-- CVT.W.D (R952). -/
def execCvtWD (fs : FReg) (fd : FReg) (s : State) : Out :=
  s.requireCp1 (s.fpUnary .d .s 0b100100 (Fmt.toW .d s.rm) fs fd)

/-- CVT.L.D (R953). -/
def execCvtLD (fs : FReg) (fd : FReg) (s : State) : Out :=
  s.requireCp1 (s.requireLong (s.fpUnary .d .d 0b100101 (Fmt.toL .d s.params.cvtLLimit s.rm) fs fd))

/-- MOVF.D (R955). -/
def execMovfD (cc : BitVec 3) (fs : FReg) (fd : FReg) (s : State) : Out :=
  s.fpCondMove .d (!s.condition cc) fs fd

/-- MOVT.D (R956). -/
def execMovtD (cc : BitVec 3) (fs : FReg) (fd : FReg) (s : State) : Out :=
  s.fpCondMove .d (s.condition cc) fs fd

/-- MOVZ.D (R957). -/
def execMovzD (rt : Reg) (fs : FReg) (fd : FReg) (s : State) : Out :=
  s.fpCondMove .d (s.gpr rt == 0#64) fs fd

/-- MOVN.D (R958). -/
def execMovnD (rt : Reg) (fs : FReg) (fd : FReg) (s : State) : Out :=
  s.fpCondMove .d (s.gpr rt != 0#64) fs fd

/-! ## Conversions between formats -/

/-- CVT.S.D (R950). -/
def execCvtSD (fs : FReg) (fd : FReg) (s : State) : Out :=
  s.requireCp1 (s.fpUnary .d .s 0b100000 (Fmt.convert .d .s s.rm s.ctr) fs fd)

/-- CVT.S.W (R950). -/
def execCvtSW (fs : FReg) (fd : FReg) (s : State) : Out :=
  s.requireCp1 (s.fpComplete .s fd (Fmt.ofInt .s s.rm (low32 (s.operandS fs)).toInt))

/-- CVT.S.L (R950). -/
def execCvtSL (fs : FReg) (fd : FReg) (s : State) : Out :=
  s.requireCp1 (s.requireLong (s.fpComplete .s fd (Fmt.ofInt .s s.rm (s.operandD fs).toInt)))

/-- CVT.D.S (R951). -/
def execCvtDS (fs : FReg) (fd : FReg) (s : State) : Out :=
  s.requireCp1 (s.fpUnary .s .d 0b100001 (Fmt.convert .s .d s.rm s.ctr) fs fd)

/-- CVT.D.W (R951). -/
def execCvtDW (fs : FReg) (fd : FReg) (s : State) : Out :=
  s.requireCp1 (s.fpComplete .d fd (Fmt.ofInt .d s.rm (low32 (s.operandS fs)).toInt))

/-- CVT.D.L (R951). -/
def execCvtDL (fs : FReg) (fd : FReg) (s : State) : Out :=
  s.requireCp1 (s.requireLong (s.fpComplete .d fd (Fmt.ofInt .d s.rm (s.operandD fs).toInt)))

/-! ## Compares (R961 to R976) -/

/-- C.F.S (R961). -/
def execCFS (ft : FReg) (fs : FReg) (cc : BitVec 3) (s : State) : Out :=
  s.fpCompare .s 0b0000 cc fs ft

/-- C.F.D (R961). -/
def execCFD (ft : FReg) (fs : FReg) (cc : BitVec 3) (s : State) : Out :=
  s.fpCompare .d 0b0000 cc fs ft

/-- C.UN.S (R962). -/
def execCUnS (ft : FReg) (fs : FReg) (cc : BitVec 3) (s : State) : Out :=
  s.fpCompare .s 0b0001 cc fs ft

/-- C.UN.D (R962). -/
def execCUnD (ft : FReg) (fs : FReg) (cc : BitVec 3) (s : State) : Out :=
  s.fpCompare .d 0b0001 cc fs ft

/-- C.EQ.S (R963). -/
def execCEqS (ft : FReg) (fs : FReg) (cc : BitVec 3) (s : State) : Out :=
  s.fpCompare .s 0b0010 cc fs ft

/-- C.EQ.D (R963). -/
def execCEqD (ft : FReg) (fs : FReg) (cc : BitVec 3) (s : State) : Out :=
  s.fpCompare .d 0b0010 cc fs ft

/-- C.UEQ.S (R964). -/
def execCUeqS (ft : FReg) (fs : FReg) (cc : BitVec 3) (s : State) : Out :=
  s.fpCompare .s 0b0011 cc fs ft

/-- C.UEQ.D (R964). -/
def execCUeqD (ft : FReg) (fs : FReg) (cc : BitVec 3) (s : State) : Out :=
  s.fpCompare .d 0b0011 cc fs ft

/-- C.OLT.S (R965). -/
def execCOltS (ft : FReg) (fs : FReg) (cc : BitVec 3) (s : State) : Out :=
  s.fpCompare .s 0b0100 cc fs ft

/-- C.OLT.D (R965). -/
def execCOltD (ft : FReg) (fs : FReg) (cc : BitVec 3) (s : State) : Out :=
  s.fpCompare .d 0b0100 cc fs ft

/-- C.ULT.S (R966). -/
def execCUltS (ft : FReg) (fs : FReg) (cc : BitVec 3) (s : State) : Out :=
  s.fpCompare .s 0b0101 cc fs ft

/-- C.ULT.D (R966). -/
def execCUltD (ft : FReg) (fs : FReg) (cc : BitVec 3) (s : State) : Out :=
  s.fpCompare .d 0b0101 cc fs ft

/-- C.OLE.S (R967). -/
def execCOleS (ft : FReg) (fs : FReg) (cc : BitVec 3) (s : State) : Out :=
  s.fpCompare .s 0b0110 cc fs ft

/-- C.OLE.D (R967). -/
def execCOleD (ft : FReg) (fs : FReg) (cc : BitVec 3) (s : State) : Out :=
  s.fpCompare .d 0b0110 cc fs ft

/-- C.ULE.S (R968). -/
def execCUleS (ft : FReg) (fs : FReg) (cc : BitVec 3) (s : State) : Out :=
  s.fpCompare .s 0b0111 cc fs ft

/-- C.ULE.D (R968). -/
def execCUleD (ft : FReg) (fs : FReg) (cc : BitVec 3) (s : State) : Out :=
  s.fpCompare .d 0b0111 cc fs ft

/-- C.SF.S (R969). -/
def execCSfS (ft : FReg) (fs : FReg) (cc : BitVec 3) (s : State) : Out :=
  s.fpCompare .s 0b1000 cc fs ft

/-- C.SF.D (R969). -/
def execCSfD (ft : FReg) (fs : FReg) (cc : BitVec 3) (s : State) : Out :=
  s.fpCompare .d 0b1000 cc fs ft

/-- C.NGLE.S (R970). -/
def execCNgleS (ft : FReg) (fs : FReg) (cc : BitVec 3) (s : State) : Out :=
  s.fpCompare .s 0b1001 cc fs ft

/-- C.NGLE.D (R970). -/
def execCNgleD (ft : FReg) (fs : FReg) (cc : BitVec 3) (s : State) : Out :=
  s.fpCompare .d 0b1001 cc fs ft

/-- C.SEQ.S (R971). -/
def execCSeqS (ft : FReg) (fs : FReg) (cc : BitVec 3) (s : State) : Out :=
  s.fpCompare .s 0b1010 cc fs ft

/-- C.SEQ.D (R971). -/
def execCSeqD (ft : FReg) (fs : FReg) (cc : BitVec 3) (s : State) : Out :=
  s.fpCompare .d 0b1010 cc fs ft

/-- C.NGL.S (R972). -/
def execCNglS (ft : FReg) (fs : FReg) (cc : BitVec 3) (s : State) : Out :=
  s.fpCompare .s 0b1011 cc fs ft

/-- C.NGL.D (R972). -/
def execCNglD (ft : FReg) (fs : FReg) (cc : BitVec 3) (s : State) : Out :=
  s.fpCompare .d 0b1011 cc fs ft

/-- C.LT.S (R973). -/
def execCLtS (ft : FReg) (fs : FReg) (cc : BitVec 3) (s : State) : Out :=
  s.fpCompare .s 0b1100 cc fs ft

/-- C.LT.D (R973). -/
def execCLtD (ft : FReg) (fs : FReg) (cc : BitVec 3) (s : State) : Out :=
  s.fpCompare .d 0b1100 cc fs ft

/-- C.NGE.S (R974). -/
def execCNgeS (ft : FReg) (fs : FReg) (cc : BitVec 3) (s : State) : Out :=
  s.fpCompare .s 0b1101 cc fs ft

/-- C.NGE.D (R974). -/
def execCNgeD (ft : FReg) (fs : FReg) (cc : BitVec 3) (s : State) : Out :=
  s.fpCompare .d 0b1101 cc fs ft

/-- C.LE.S (R975). -/
def execCLeS (ft : FReg) (fs : FReg) (cc : BitVec 3) (s : State) : Out :=
  s.fpCompare .s 0b1110 cc fs ft

/-- C.LE.D (R975). -/
def execCLeD (ft : FReg) (fs : FReg) (cc : BitVec 3) (s : State) : Out :=
  s.fpCompare .d 0b1110 cc fs ft

/-- C.NGT.S (R976). -/
def execCNgtS (ft : FReg) (fs : FReg) (cc : BitVec 3) (s : State) : Out :=
  s.fpCompare .s 0b1111 cc fs ft

/-- C.NGT.D (R976). -/
def execCNgtD (ft : FReg) (fs : FReg) (cc : BitVec 3) (s : State) : Out :=
  s.fpCompare .d 0b1111 cc fs ft

/-! ## Multiply-add (R980 to R983) -/

/-- MADD.S (R980). -/
def execMaddS (fr : FReg) (ft : FReg) (fs : FReg) (fd : FReg) (s : State) : Out :=
  s.fpMulAdd .s 0b100000 false false fr ft fs fd

/-- MADD.D (R980). -/
def execMaddD (fr : FReg) (ft : FReg) (fs : FReg) (fd : FReg) (s : State) : Out :=
  s.fpMulAdd .d 0b100001 false false fr ft fs fd

/-- MSUB.S (R981). -/
def execMsubS (fr : FReg) (ft : FReg) (fs : FReg) (fd : FReg) (s : State) : Out :=
  s.fpMulAdd .s 0b101000 true false fr ft fs fd

/-- MSUB.D (R981). -/
def execMsubD (fr : FReg) (ft : FReg) (fs : FReg) (fd : FReg) (s : State) : Out :=
  s.fpMulAdd .d 0b101001 true false fr ft fs fd

/-- NMADD.S (R982). -/
def execNmaddS (fr : FReg) (ft : FReg) (fs : FReg) (fd : FReg) (s : State) : Out :=
  s.fpMulAdd .s 0b110000 false true fr ft fs fd

/-- NMADD.D (R982). -/
def execNmaddD (fr : FReg) (ft : FReg) (fs : FReg) (fd : FReg) (s : State) : Out :=
  s.fpMulAdd .d 0b110001 false true fr ft fs fd

/-- NMSUB.S (R983). -/
def execNmsubS (fr : FReg) (ft : FReg) (fs : FReg) (fd : FReg) (s : State) : Out :=
  s.fpMulAdd .s 0b111000 true true fr ft fs fd

/-- NMSUB.D (R983). -/
def execNmsubD (fr : FReg) (ft : FReg) (fs : FReg) (fd : FReg) (s : State) : Out :=
  s.fpMulAdd .d 0b111001 true true fr ft fs fd

end Sys2Proof.Machine
end

