-- ==== Sys2Proof/Machine/Integer.lean ====
section
/-! DEFINITION. Integer computational instructions (spec/44_integer_isa.md R700 to R768). -/

namespace Sys2Proof.Machine

/-! ## Immediate arithmetic and logic -/

/-- ADDI (R705): Integer Overflow on a 32-bit overflow (R701). -/
def execAddi (rs : Reg) (rt : Reg) (immediate : BitVec 16) (s : State) : Out :=
  let a := low32 (s.gpr rs)
  let b := low32 (sext16 immediate)
  let ok := isWord (s.gpr rs)
  s.putUnless (ok && sumOverflows a b) rt (s.wordResult ok (a + b))

/-- ADDIU (R706). -/
def execAddiu (rs : Reg) (rt : Reg) (immediate : BitVec 16) (s : State) : Out :=
  s.putWord rt (isWord (s.gpr rs)) (low32 (s.gpr rs) + low32 (sext16 immediate))

/-- SLTI (R707). -/
def execSlti (rs : Reg) (rt : Reg) (immediate : BitVec 16) (s : State) : Out :=
  s.put rt (boolD ((s.gpr rs).slt (sext16 immediate)))

/-- SLTIU (R708). -/
def execSltiu (rs : Reg) (rt : Reg) (immediate : BitVec 16) (s : State) : Out :=
  s.put rt (boolD ((s.gpr rs).ult (sext16 immediate)))

/-- ANDI (R709). -/
def execAndi (rs : Reg) (rt : Reg) (immediate : BitVec 16) (s : State) : Out :=
  s.put rt (s.gpr rs &&& zext16 immediate)

/-- ORI (R710). -/
def execOri (rs : Reg) (rt : Reg) (immediate : BitVec 16) (s : State) : Out :=
  s.put rt (s.gpr rs ||| zext16 immediate)

/-- XORI (R711). -/
def execXori (rs : Reg) (rt : Reg) (immediate : BitVec 16) (s : State) : Out :=
  s.put rt (s.gpr rs ^^^ zext16 immediate)

/-- LUI (R712). -/
def execLui (rt : Reg) (immediate : BitVec 16) (s : State) : Out :=
  s.put rt (sext32 (immediate ++ 0#16))

/-- DADDI (R713). -/
def execDaddi (rs : Reg) (rt : Reg) (immediate : BitVec 16) (s : State) : Out :=
  s.requireMips3 (s.putUnless (sumOverflows (s.gpr rs) (sext16 immediate)) rt (s.gpr rs + sext16 immediate))

/-- DADDIU (R714). -/
def execDaddiu (rs : Reg) (rt : Reg) (immediate : BitVec 16) (s : State) : Out :=
  s.requireMips3 (s.put rt (s.gpr rs + sext16 immediate))

/-! ## Three-register arithmetic and logic -/

/-- ADD (R715): Integer Overflow on a 32-bit overflow (R701). -/
def execAdd (rs : Reg) (rt : Reg) (rd : Reg) (s : State) : Out :=
  let a := low32 (s.gpr rs)
  let b := low32 (s.gpr rt)
  let ok := isWord (s.gpr rs) && isWord (s.gpr rt)
  s.putUnless (ok && sumOverflows a b) rd (s.wordResult ok (a + b))

/-- ADDU (R716). -/
def execAddu (rs : Reg) (rt : Reg) (rd : Reg) (s : State) : Out :=
  s.putWord rd (isWord (s.gpr rs) && isWord (s.gpr rt)) (low32 (s.gpr rs) + low32 (s.gpr rt))

/-- DADD (R725). -/
def execDadd (rs : Reg) (rt : Reg) (rd : Reg) (s : State) : Out :=
  s.requireMips3 (s.putUnless (sumOverflows (s.gpr rs) (s.gpr rt)) rd (s.gpr rs + s.gpr rt))

/-- DADDU (R726). -/
def execDaddu (rs : Reg) (rt : Reg) (rd : Reg) (s : State) : Out :=
  s.requireMips3 (s.put rd (s.gpr rs + s.gpr rt))

/-- SUB (R717): Integer Overflow on a 32-bit overflow (R701). -/
def execSub (rs : Reg) (rt : Reg) (rd : Reg) (s : State) : Out :=
  let a := low32 (s.gpr rs)
  let b := low32 (s.gpr rt)
  let ok := isWord (s.gpr rs) && isWord (s.gpr rt)
  s.putUnless (ok && diffOverflows a b) rd (s.wordResult ok (a - b))

/-- SUBU (R718). -/
def execSubu (rs : Reg) (rt : Reg) (rd : Reg) (s : State) : Out :=
  s.putWord rd (isWord (s.gpr rs) && isWord (s.gpr rt)) (low32 (s.gpr rs) - low32 (s.gpr rt))

/-- DSUB (R727). -/
def execDsub (rs : Reg) (rt : Reg) (rd : Reg) (s : State) : Out :=
  s.requireMips3 (s.putUnless (diffOverflows (s.gpr rs) (s.gpr rt)) rd (s.gpr rs - s.gpr rt))

/-- DSUBU (R728). -/
def execDsubu (rs : Reg) (rt : Reg) (rd : Reg) (s : State) : Out :=
  s.requireMips3 (s.put rd (s.gpr rs - s.gpr rt))

/-- AND (R719). -/
def execAnd (rs : Reg) (rt : Reg) (rd : Reg) (s : State) : Out :=
  s.put rd (s.gpr rs &&& s.gpr rt)

/-- OR (R720). -/
def execOr (rs : Reg) (rt : Reg) (rd : Reg) (s : State) : Out :=
  s.put rd (s.gpr rs ||| s.gpr rt)

/-- XOR (R721). -/
def execXor (rs : Reg) (rt : Reg) (rd : Reg) (s : State) : Out :=
  s.put rd (s.gpr rs ^^^ s.gpr rt)

/-- NOR (R722). -/
def execNor (rs : Reg) (rt : Reg) (rd : Reg) (s : State) : Out :=
  s.put rd (~~~(s.gpr rs ||| s.gpr rt))

/-- SLT (R723). -/
def execSlt (rs : Reg) (rt : Reg) (rd : Reg) (s : State) : Out :=
  s.put rd (boolD ((s.gpr rs).slt (s.gpr rt)))

/-- SLTU (R724). -/
def execSltu (rs : Reg) (rt : Reg) (rd : Reg) (s : State) : Out :=
  s.put rd (boolD ((s.gpr rs).ult (s.gpr rt)))

/-! ## Shifts -/

/-- SLL (R730): any source (R702). -/
def execSll (rt : Reg) (rd : Reg) (sa : BitVec 5) (s : State) : Out :=
  s.put rd (sext32 (low32 (s.gpr rt) <<< sa.toNat))

/-- SRL (R731). DESIGN CHOICE: the result for a source that is not a sign-extended word is open in every mode, also with MIPS III
disabled, though R702 names SRL, SRA, SRLV and SRAV "when MIPS III is enabled" (notes/assumptions/61.md). -/
def execSrl (rt : Reg) (rd : Reg) (sa : BitVec 5) (s : State) : Out :=
  s.putWord rd (isWord (s.gpr rt)) (low32 (s.gpr rt) >>> sa.toNat)

/-- SRA (R732). DESIGN CHOICE: open in every mode on a source that is no word, as SRL (notes/assumptions/61.md). -/
def execSra (rt : Reg) (rd : Reg) (sa : BitVec 5) (s : State) : Out :=
  s.putWord rd (isWord (s.gpr rt)) ((low32 (s.gpr rt)).sshiftRight sa.toNat)

/-- SLLV (R733): any source (R702). -/
def execSllv (rs : Reg) (rt : Reg) (rd : Reg) (s : State) : Out :=
  s.put rd (sext32 (low32 (s.gpr rt) <<< shift5 (s.gpr rs)))

/-- SRLV (R734). DESIGN CHOICE: only rt must hold a sign-extended word, not the amount register rs, of which R734 uses five bits, though
R702 speaks of each source register; on an rt that is no word the result is open in every mode, as in SRL
(notes/assumptions/61.md). -/
def execSrlv (rs : Reg) (rt : Reg) (rd : Reg) (s : State) : Out :=
  s.putWord rd (isWord (s.gpr rt)) (low32 (s.gpr rt) >>> shift5 (s.gpr rs))

/-- SRAV (R735). DESIGN CHOICE: rs may hold anything, and the result is open in every mode on an rt that is no word, as in SRLV (notes/assumptions/61.md). -/
def execSrav (rs : Reg) (rt : Reg) (rd : Reg) (s : State) : Out :=
  s.putWord rd (isWord (s.gpr rt)) ((low32 (s.gpr rt)).sshiftRight (shift5 (s.gpr rs)))

/-- DSLL (R736). -/
def execDsll (rt : Reg) (rd : Reg) (sa : BitVec 5) (s : State) : Out :=
  s.requireMips3 (s.put rd (s.gpr rt <<< sa.toNat))

/-- DSLL32 (R739). -/
def execDsll32 (rt : Reg) (rd : Reg) (sa : BitVec 5) (s : State) : Out :=
  s.requireMips3 (s.put rd (s.gpr rt <<< (sa.toNat + 32)))

/-- DSLLV (R742). -/
def execDsllv (rs : Reg) (rt : Reg) (rd : Reg) (s : State) : Out :=
  s.requireMips3 (s.put rd (s.gpr rt <<< shift6 (s.gpr rs)))

/-- DSRL (R737). -/
def execDsrl (rt : Reg) (rd : Reg) (sa : BitVec 5) (s : State) : Out :=
  s.requireMips3 (s.put rd (s.gpr rt >>> sa.toNat))

/-- DSRL32 (R740). -/
def execDsrl32 (rt : Reg) (rd : Reg) (sa : BitVec 5) (s : State) : Out :=
  s.requireMips3 (s.put rd (s.gpr rt >>> (sa.toNat + 32)))

/-- DSRLV (R743). -/
def execDsrlv (rs : Reg) (rt : Reg) (rd : Reg) (s : State) : Out :=
  s.requireMips3 (s.put rd (s.gpr rt >>> shift6 (s.gpr rs)))

/-- DSRA (R738). -/
def execDsra (rt : Reg) (rd : Reg) (sa : BitVec 5) (s : State) : Out :=
  s.requireMips3 (s.put rd ((s.gpr rt).sshiftRight sa.toNat))

/-- DSRA32 (R741). -/
def execDsra32 (rt : Reg) (rd : Reg) (sa : BitVec 5) (s : State) : Out :=
  s.requireMips3 (s.put rd ((s.gpr rt).sshiftRight (sa.toNat + 32)))

/-- DSRAV (R744). -/
def execDsrav (rs : Reg) (rt : Reg) (rd : Reg) (s : State) : Out :=
  s.requireMips3 (s.put rd ((s.gpr rt).sshiftRight (shift6 (s.gpr rs))))

/-! ## Multiply, divide, HI and LO -/

/-- MULT (R750). -/
def execMult (rs : Reg) (rt : Reg) (s : State) : Out :=
  s.putProduct (isWord (s.gpr rs) && isWord (s.gpr rt))
    (BitVec.ofInt 64 (sInt32 (s.gpr rs) * sInt32 (s.gpr rt)))

/-- MULTU (R751). -/
def execMultu (rs : Reg) (rt : Reg) (s : State) : Out :=
  s.putProduct (isWord (s.gpr rs) && isWord (s.gpr rt))
    (BitVec.ofNat 64 (uNat32 (s.gpr rs) * uNat32 (s.gpr rt)))

/-- DIV (R752): truncated division; any value for a divisor of 0, an overflow, or a source that is no word (R702). -/
def execDiv (rs : Reg) (rt : Reg) (s : State) : Out :=
  let a := sInt32 (s.gpr rs)
  let b := sInt32 (s.gpr rt)
  if b = 0 ∨ (a = -2 ^ 31 ∧ b = -1) ∨ !(isWord (s.gpr rs) && isWord (s.gpr rt)) then s.putDivideFree
  else s.putHiLo (sext32 (BitVec.ofInt 32 (a.tmod b))) (sext32 (BitVec.ofInt 32 (a.tdiv b)))

/-- DIVU (R753). -/
def execDivu (rs : Reg) (rt : Reg) (s : State) : Out :=
  let a := uNat32 (s.gpr rs)
  let b := uNat32 (s.gpr rt)
  if b = 0 ∨ !(isWord (s.gpr rs) && isWord (s.gpr rt)) then s.putDivideFree
  else s.putHiLo (sext32 (BitVec.ofNat 32 (a % b))) (sext32 (BitVec.ofNat 32 (a / b)))

/-- DMULT (R754). -/
def execDmult (rs : Reg) (rt : Reg) (s : State) : Out :=
  let p := BitVec.ofInt 128 ((s.gpr rs).toInt * (s.gpr rt).toInt)
  s.requireMips3 (s.putHiLo (p.extractLsb' 64 64) (p.extractLsb' 0 64))

/-- DMULTU (R755). -/
def execDmultu (rs : Reg) (rt : Reg) (s : State) : Out :=
  let p := BitVec.ofNat 128 ((s.gpr rs).toNat * (s.gpr rt).toNat)
  s.requireMips3 (s.putHiLo (p.extractLsb' 64 64) (p.extractLsb' 0 64))

/-- DDIV (R756). -/
def execDdiv (rs : Reg) (rt : Reg) (s : State) : Out :=
  let a := (s.gpr rs).toInt
  let b := (s.gpr rt).toInt
  s.requireMips3 (if b = 0 ∨ (a = -2 ^ 63 ∧ b = -1) then s.putDivideFree
    else s.putHiLo (BitVec.ofInt 64 (a.tmod b)) (BitVec.ofInt 64 (a.tdiv b)))

/-- DDIVU (R757). -/
def execDdivu (rs : Reg) (rt : Reg) (s : State) : Out :=
  let a := (s.gpr rs).toNat
  let b := (s.gpr rt).toNat
  s.requireMips3 (if b = 0 then s.putDivideFree else s.putHiLo (BitVec.ofNat 64 (a % b)) (BitVec.ofNat 64 (a / b)))

/-- MFHI (R758). -/
def execMfhi (rd : Reg) (s : State) : Out :=
  s.put rd s.int.hi

/-- MTHI (R759). -/
def execMthi (rs : Reg) (s : State) : Out :=
  .next (s.setHi (s.gpr rs)).advance

/-- MFLO (R760). -/
def execMflo (rd : Reg) (s : State) : Out :=
  s.put rd s.int.lo

/-- MTLO (R761). -/
def execMtlo (rs : Reg) (s : State) : Out :=
  .next (s.setLo (s.gpr rs)).advance

/-! ## Conditional moves -/

/-- MOVZ (R765). -/
def execMovz (rs : Reg) (rt : Reg) (rd : Reg) (s : State) : Out :=
  s.requireMips4 (if s.gpr rt = 0#64 then s.put rd (s.gpr rs) else .next s.advance)

/-- MOVN (R766). -/
def execMovn (rs : Reg) (rt : Reg) (rd : Reg) (s : State) : Out :=
  s.requireMips4 (if s.gpr rt = 0#64 then .next s.advance else s.put rd (s.gpr rs))

/-- MOVF (R767). -/
def execMovf (rs : Reg) (cc : BitVec 3) (rd : Reg) (s : State) : Out :=
  s.requireMips4 (s.requireCp1 (if s.condition cc then .next s.advance else s.put rd (s.gpr rs)))

/-- MOVT (R768). -/
def execMovt (rs : Reg) (cc : BitVec 3) (rd : Reg) (s : State) : Out :=
  s.requireMips4 (s.requireCp1 (if s.condition cc then s.put rd (s.gpr rs) else .next s.advance))

end Sys2Proof.Machine
end

