-- ==== Sys2Proof/Machine/LoadStore.lean ====
section
/-! DEFINITION. Loads, stores, the unaligned family, floating-point loads and stores (spec/45_load_store_isa.md R806 to R837),
LL, SC, PREF and SYNC (spec/40_sync_prefetch.md R503 to R514), over the accesses of Access.lean. -/

namespace Sys2Proof.Machine

/-! ## Shared operations -/

/-- A load of n bytes into GPR[rt] through `ext` (R806). -/
def State.loadGpr (s : State) (va : DWord) (n : Nat) (rt : BitVec 5) (ext : DWord → DWord) : Out :=
  (s.read va n).done fun v s => s.put rt (ext v)

/-- A store of the low n bytes of a value (R813). -/
def State.storeValue (s : State) (va : DWord) (n : Nat) (v : DWord) : Out :=
  (s.write va n v).done fun _ s => .next s.advance

/-- Sign-extend the low byte. -/
def sextByte (v : DWord) : DWord := (v.extractLsb' 0 8).signExtend 64

/-- Sign-extend the low halfword. -/
def sextHalf (v : DWord) : DWord := (v.extractLsb' 0 16).signExtend 64

/-- Sign-extend the low word. -/
def sextWord (v : DWord) : DWord := sext32 (low32 v)

/-! ### The unaligned family (R820 to R828)

The number b of a byte inside its unit of n = 4 or 8 bytes counts from the least significant end of the unit as the CPU reads
it. A left form touches bytes 0 to b of the unit, a right form bytes b to n - 1. -/

/-- b (R820): va's low bits, inverted in a big-endian CPU. -/
def unitByte (be : Bool) (va : DWord) (n : Nat) : Nat :=
  let o := va.toNat % n
  if be then n - 1 - o else o

/-- The lowest lane of the unit that holds va. -/
def unitShift (be : Bool) (va : DWord) (n : Nat) : Nat := laneShift be (va - BitVec.ofNat 64 (va.toNat % n)) n

/-- The bytes of the unit that a left or right form touches, as lanes of the unit. -/
def unitLanes (left : Bool) (b n : Nat) : Nat × Nat := if left then (0, b + 1) else (b, n - b)

/-- `LoadPart`: the unit around va, of which only the form's bytes are read (R803). -/
def State.readPart (s : State) (va : DWord) (n : Nat) (left : Bool) : Acc DWord :=
  let a := s.dataAddress va
  let k := unitShift s.bigEndianCpu a n
  let l := unitLanes left (unitByte s.bigEndianCpu a n) n
  (s.loadAt a (lanesFrom (k + l.1) l.2)).bind fun r s => .ok (r.2 >>> (8 * k)) s

/-- `StorePart`: the form's bytes of a unit (R803); never gathered (R345). -/
def State.writePart (s : State) (va : DWord) (n : Nat) (left : Bool) (unit : DWord) : Acc Unit :=
  let a := s.dataAddress va
  let k := unitShift s.bigEndianCpu a n
  let l := unitLanes left (unitByte s.bigEndianCpu a n) n
  s.storeAt a (lanesFrom (k + l.1) l.2) .none (unit <<< (8 * k))

/-- b for an address of a load or store. -/
def State.partByte (s : State) (va : DWord) (n : Nat) : Nat := unitByte s.bigEndianCpu (s.dataAddress va) n

/-- A left form's result: bytes b..0 of the unit above the low bytes of the register, in n bytes (R820). -/
def leftMerge (n b : Nat) (unit old : DWord) : DWord :=
  let k := 8 * (n - 1 - b)
  mergeMask (laneMask (lanesFrom (n - 1 - b) (b + 1))) old (unit <<< k)

/-- A right form's result: bytes n-1..b of the unit below the high bytes of the register, in n bytes (R821). -/
def rightMerge (n b : Nat) (unit old : DWord) : DWord := mergeMask (laneMask (lanesFrom 0 (n - b))) old (unit >>> (8 * b))

/-- A 32-bit partial load's register value: the sign extension of the word, but bits 63:32 are free where bit 31 was not loaded
and the register held no sign-extended word (R821, I18). -/
def State.partWord (s : State) (loadsBit31 : Bool) (old : DWord) (w : Word) : DWord :=
  if loadsBit31 || isWord old then sext32 w else Config.partWordUpper s.ctr ++ w

/-! ### Load Linked and Store Conditional -/

/-- A Load Linked (R511): the load, then the link. -/
def State.loadLinked (s : State) (va : DWord) (n : Nat) (rt : BitVec 5) : Out :=
  (s.readPhys va n).done fun r s => .next ((s.setGpr rt (if n = 4 then sextWord r.2 else r.2)).setLink r.1).advance

/-- What a Store Conditional that stored nothing leaves for the performance counter (R1105). -/
def State.noteSc (s : State) (ok : Bool) : State := if ok then s else { s with note := .scFailed }

/-- A Store Conditional (R513). -/
def State.storeConditional (s : State) (va : DWord) (n : Nat) (rt : BitVec 5) : Out :=
  (s.writeLinked va n (s.gpr rt)).done fun ok s => .next ((s.setGpr rt (boolD ok)).noteSc ok).advance

/-! ### Floating-point registers -/

/-- A word load into an FPR (R830). -/
def State.loadFpr32 (s : State) (va : DWord) (ft : BitVec 5) : Out :=
  (s.read va 4).done fun v s => .next (s.setFpr32 ft (low32 v)).advance

/-- A doubleword load into an FPR (R831). -/
def State.loadFpr64 (s : State) (va : DWord) (ft : BitVec 5) : Out :=
  s.requireFpr64 ft ((s.read va 8).done fun v s => .next (s.setFpr ft v).advance)

/-- A word store of an FPR (R832). -/
def State.storeFpr32 (s : State) (va : DWord) (ft : BitVec 5) : Out := s.storeValue va 4 (zext32 (s.fpr32 ft))

/-- A doubleword store of an FPR (R833). -/
def State.storeFpr64 (s : State) (va : DWord) (ft : BitVec 5) : Out := s.requireFpr64 ft (s.storeValue va 8 (s.fpr ft))

/-- A prefetch (R503). -/
def State.doPrefetch (s : State) (va : DWord) (hint : BitVec 5) : Out :=
  (s.prefetch va hint).done fun _ s => .next s.advance

/-! ## Aligned integer loads and stores -/

/-- LB (R806). -/
def execLb (base : Reg) (rt : Reg) (offset : BitVec 16) (s : State) : Out :=
  s.loadGpr (s.ea base offset) 1 rt sextByte

/-- LBU (R807). -/
def execLbu (base : Reg) (rt : Reg) (offset : BitVec 16) (s : State) : Out :=
  s.loadGpr (s.ea base offset) 1 rt id

/-- LH (R808). -/
def execLh (base : Reg) (rt : Reg) (offset : BitVec 16) (s : State) : Out :=
  s.loadGpr (s.ea base offset) 2 rt sextHalf

/-- LHU (R809). -/
def execLhu (base : Reg) (rt : Reg) (offset : BitVec 16) (s : State) : Out :=
  s.loadGpr (s.ea base offset) 2 rt id

/-- LW (R810). -/
def execLw (base : Reg) (rt : Reg) (offset : BitVec 16) (s : State) : Out :=
  s.loadGpr (s.ea base offset) 4 rt sextWord

/-- LWU (R811). -/
def execLwu (base : Reg) (rt : Reg) (offset : BitVec 16) (s : State) : Out :=
  s.requireMips3 (s.loadGpr (s.ea base offset) 4 rt id)

/-- LD (R812). -/
def execLd (base : Reg) (rt : Reg) (offset : BitVec 16) (s : State) : Out :=
  s.requireMips3 (s.loadGpr (s.ea base offset) 8 rt id)

/-- SB (R813). -/
def execSb (base : Reg) (rt : Reg) (offset : BitVec 16) (s : State) : Out :=
  s.storeValue (s.ea base offset) 1 (s.gpr rt)

/-- SH (R814). -/
def execSh (base : Reg) (rt : Reg) (offset : BitVec 16) (s : State) : Out :=
  s.storeValue (s.ea base offset) 2 (s.gpr rt)

/-- SW (R815). -/
def execSw (base : Reg) (rt : Reg) (offset : BitVec 16) (s : State) : Out :=
  s.storeValue (s.ea base offset) 4 (s.gpr rt)

/-- SD (R816). -/
def execSd (base : Reg) (rt : Reg) (offset : BitVec 16) (s : State) : Out :=
  s.requireMips3 (s.storeValue (s.ea base offset) 8 (s.gpr rt))

/-! ## The unaligned family -/

/-- LWL (R820): bit 31 is always loaded. -/
def execLwl (base : Reg) (rt : Reg) (offset : BitVec 16) (s : State) : Out :=
  let va := s.ea base offset
  let b := s.partByte va 4
  let old := s.gpr rt
  (s.readPart va 4 true).done fun u s => s.put rt (sext32 (low32 (leftMerge 4 b u old)))

/-- LWR (R821). -/
def execLwr (base : Reg) (rt : Reg) (offset : BitVec 16) (s : State) : Out :=
  let va := s.ea base offset
  let b := s.partByte va 4
  let old := s.gpr rt
  (s.readPart va 4 false).done fun u s => s.put rt (s.partWord (b == 0) old (low32 (rightMerge 4 b (zext32 (low32 u)) old)))

/-- LDL (R822). -/
def execLdl (base : Reg) (rt : Reg) (offset : BitVec 16) (s : State) : Out :=
  let va := s.ea base offset
  let b := s.partByte va 8
  let old := s.gpr rt
  s.requireMips3 ((s.readPart va 8 true).done fun u s => s.put rt (leftMerge 8 b u old))

/-- LDR (R823). -/
def execLdr (base : Reg) (rt : Reg) (offset : BitVec 16) (s : State) : Out :=
  let va := s.ea base offset
  let b := s.partByte va 8
  let old := s.gpr rt
  s.requireMips3 ((s.readPart va 8 false).done fun u s => s.put rt (rightMerge 8 b u old))

/-- SWL (R824). -/
def execSwl (base : Reg) (rt : Reg) (offset : BitVec 16) (s : State) : Out :=
  let va := s.ea base offset
  (s.writePart va 4 true (zext32 (low32 (s.gpr rt)) >>> (8 * (3 - s.partByte va 4)))).done fun _ s => .next s.advance

/-- SWR (R825). -/
def execSwr (base : Reg) (rt : Reg) (offset : BitVec 16) (s : State) : Out :=
  let va := s.ea base offset
  (s.writePart va 4 false (zext32 (low32 (s.gpr rt) <<< (8 * s.partByte va 4)))).done fun _ s => .next s.advance

/-- SDL (R826). -/
def execSdl (base : Reg) (rt : Reg) (offset : BitVec 16) (s : State) : Out :=
  let va := s.ea base offset
  s.requireMips3 ((s.writePart va 8 true (s.gpr rt >>> (8 * (7 - s.partByte va 8)))).done fun _ s => .next s.advance)

/-- SDR (R827). -/
def execSdr (base : Reg) (rt : Reg) (offset : BitVec 16) (s : State) : Out :=
  let va := s.ea base offset
  s.requireMips3 ((s.writePart va 8 false (s.gpr rt <<< (8 * s.partByte va 8))).done fun _ s => .next s.advance)

/-! ## Load Linked and Store Conditional -/

/-- LL (R511). -/
def execLl (base : Reg) (rt : Reg) (offset : BitVec 16) (s : State) : Out :=
  s.loadLinked (s.ea base offset) 4 rt

/-- LLD (R512). -/
def execLld (base : Reg) (rt : Reg) (offset : BitVec 16) (s : State) : Out :=
  s.requireMips3 (s.loadLinked (s.ea base offset) 8 rt)

/-- SC (R513). -/
def execSc (base : Reg) (rt : Reg) (offset : BitVec 16) (s : State) : Out :=
  s.storeConditional (s.ea base offset) 4 rt

/-- SCD (R514). -/
def execScd (base : Reg) (rt : Reg) (offset : BitVec 16) (s : State) : Out :=
  s.requireMips3 (s.storeConditional (s.ea base offset) 8 rt)

/-! ## Floating-point loads and stores -/

/-- LWC1 (R830). -/
def execLwc1 (base : Reg) (ft : FReg) (offset : BitVec 16) (s : State) : Out :=
  s.requireCp1 (s.loadFpr32 (s.ea base offset) ft)

/-- LDC1 (R831). -/
def execLdc1 (base : Reg) (ft : FReg) (offset : BitVec 16) (s : State) : Out :=
  s.requireCp1 (s.loadFpr64 (s.ea base offset) ft)

/-- SWC1 (R832). -/
def execSwc1 (base : Reg) (ft : FReg) (offset : BitVec 16) (s : State) : Out :=
  s.requireCp1 (s.storeFpr32 (s.ea base offset) ft)

/-- SDC1 (R833). -/
def execSdc1 (base : Reg) (ft : FReg) (offset : BitVec 16) (s : State) : Out :=
  s.requireCp1 (s.storeFpr64 (s.ea base offset) ft)

/-- LWXC1 (R834). -/
def execLwxc1 (base : Reg) (index : Reg) (fd : FReg) (s : State) : Out :=
  s.requireMips4 (s.requireCp1 (s.loadFpr32 (s.eaIndexed base index) fd))

/-- LDXC1 (R835). -/
def execLdxc1 (base : Reg) (index : Reg) (fd : FReg) (s : State) : Out :=
  s.requireMips4 (s.requireCp1 (s.loadFpr64 (s.eaIndexed base index) fd))

/-- SWXC1 (R836). -/
def execSwxc1 (base : Reg) (index : Reg) (fs : FReg) (s : State) : Out :=
  s.requireMips4 (s.requireCp1 (s.storeFpr32 (s.eaIndexed base index) fs))

/-- SDXC1 (R837). -/
def execSdxc1 (base : Reg) (index : Reg) (fs : FReg) (s : State) : Out :=
  s.requireMips4 (s.requireCp1 (s.storeFpr64 (s.eaIndexed base index) fs))

/-! ## Prefetch and SYNC -/

/-- PREF (R503). -/
def execPref (base : Reg) (hint : BitVec 5) (offset : BitVec 16) (s : State) : Out :=
  s.requireMips4 (s.doPrefetch (s.ea base offset) hint)

/-- PREFX (R504). -/
def execPrefx (base : Reg) (index : Reg) (hint : BitVec 5) (s : State) : Out :=
  s.requireMips4 (s.requireCp1 (s.doPrefetch (s.eaIndexed base index) hint))

/-- What keeps SYNC from graduating: an uncached store in the uncached buffer, other than an accelerated one, or SysGblPerf*
negated (R412, R505). -/
def State.syncHeld (s : State) : Bool :=
  s.bus.fifo.any (fun x => !x.accelerated) || s.bus.ready.any (fun b => !b.accelerated) || !s.bus.gblPerf

/-- SYNC (R505): it breaks the link, and graduates when nothing keeps it. -/
def execSync (s : State) : Out :=
  .next (if s.syncHeld then s.breakLink.waitHere else s.breakLink.advance)

end Sys2Proof.Machine
end

