-- ==== Sys2Proof/Machine/Perf.lean ====
section
/-! DEFINITION. The performance counters (spec/61 R1100 to R1110): what an instruction counts for, and the update of the
counters after an instruction. -/

namespace Sys2Proof.Machine

/-- What an instruction is to the counters (R1105, R1106). -/
inductive CountKind where
  /-- an integer multiply or divide, which counts as two graduated instructions -/
  | mulDiv
  /-- load, prefetch, SYNC or CACHE -/
  | load
  /-- store -/
  | store
  /-- store conditional -/
  | storeConditional
  /-- a floating-point instruction -/
  | fp
  /-- any other -/
  | other
  deriving DecidableEq, Repr

/-- The kind of an instruction. "Any instruction that sets the FP Status register bits (EVZOUI) is counted as a graduated floating point
instruction" (R1106), CTC1 to the FSR among them. DESIGN CHOICE (notes/assumptions/27.md): of the instructions that leave those bits
alone, MOV.fmt and the floating-point conditional moves count as "FP instructions", and the transfers, branches, loads and stores of
coprocessor 1 do not. -/
def countKind : Instr → CountKind
  | .mult _ _ | .multu _ _ | .div _ _ | .divu _ _ | .dmult _ _ | .dmultu _ _ | .ddiv _ _ | .ddivu _ _ => .mulDiv
  | .lb _ _ _ | .lbu _ _ _ | .lh _ _ _ | .lhu _ _ _ | .lw _ _ _ | .lwu _ _ _ | .ld _ _ _ | .lwl _ _ _ | .lwr _ _ _
  | .ldl _ _ _ | .ldr _ _ _ | .ll _ _ _ | .lld _ _ _ | .lwc1 _ _ _ | .ldc1 _ _ _ | .lwxc1 _ _ _ | .ldxc1 _ _ _
  | .pref _ _ _ | .prefx _ _ _ | .sync | .cacheIndexInvalidateI _ _ | .cacheIndexLoadTagI _ _
  | .cacheIndexStoreTagI _ _ | .cacheHitInvalidateI _ _ | .cacheBarrier _ _ | .cacheIndexLoadDataI _ _
  | .cacheIndexStoreDataI _ _ | .cacheIndexWritebackInvalidateD _ _ | .cacheIndexLoadTagD _ _
  | .cacheIndexStoreTagD _ _ | .cacheHitInvalidateD _ _ | .cacheHitWritebackInvalidateD _ _
  | .cacheIndexLoadDataD _ _ | .cacheIndexStoreDataD _ _ | .cacheIndexWritebackInvalidateS _ _
  | .cacheIndexLoadTagS _ _ | .cacheIndexStoreTagS _ _ | .cacheHitInvalidateS _ _ | .cacheHitWritebackInvalidateS _ _
  | .cacheIndexLoadDataS _ _ | .cacheIndexStoreDataS _ _ => .load
  | .sb _ _ _ | .sh _ _ _ | .sw _ _ _ | .sd _ _ _ | .swl _ _ _ | .swr _ _ _ | .sdl _ _ _ | .sdr _ _ _ | .swc1 _ _ _
  | .sdc1 _ _ _ | .swxc1 _ _ _ | .sdxc1 _ _ _ => .store
  | .sc _ _ _ | .scd _ _ _ => .storeConditional
  | .addS _ _ _ | .subS _ _ _ | .mulS _ _ _ | .divS _ _ _ | .sqrtS _ _ | .absS _ _ | .negS _ _ | .recipS _ _
  | .rsqrtS _ _ | .roundLS _ _ | .truncLS _ _ | .ceilLS _ _ | .floorLS _ _ | .roundWS _ _ | .truncWS _ _
  | .ceilWS _ _ | .floorWS _ _ | .cvtWS _ _ | .cvtLS _ _ | .addD _ _ _ | .subD _ _ _ | .mulD _ _ _ | .divD _ _ _
  | .sqrtD _ _ | .absD _ _ | .negD _ _ | .recipD _ _ | .rsqrtD _ _ | .roundLD _ _ | .truncLD _ _ | .ceilLD _ _
  | .floorLD _ _ | .roundWD _ _ | .truncWD _ _ | .ceilWD _ _ | .floorWD _ _ | .cvtWD _ _ | .cvtLD _ _ | .cvtSD _ _
  | .cvtSW _ _ | .cvtSL _ _ | .cvtDS _ _ | .cvtDW _ _ | .cvtDL _ _ | .cFS _ _ _ | .cFD _ _ _ | .cUnS _ _ _
  | .cUnD _ _ _ | .cEqS _ _ _ | .cEqD _ _ _ | .cUeqS _ _ _ | .cUeqD _ _ _ | .cOltS _ _ _ | .cOltD _ _ _
  | .cUltS _ _ _ | .cUltD _ _ _ | .cOleS _ _ _ | .cOleD _ _ _ | .cUleS _ _ _ | .cUleD _ _ _ | .cSfS _ _ _
  | .cSfD _ _ _ | .cNgleS _ _ _ | .cNgleD _ _ _ | .cSeqS _ _ _ | .cSeqD _ _ _ | .cNglS _ _ _ | .cNglD _ _ _
  | .cLtS _ _ _ | .cLtD _ _ _ | .cNgeS _ _ _ | .cNgeD _ _ _ | .cLeS _ _ _ | .cLeD _ _ _ | .cNgtS _ _ _ | .cNgtD _ _ _
  | .maddS _ _ _ _ | .maddD _ _ _ _ | .msubS _ _ _ _ | .msubD _ _ _ _ | .nmaddS _ _ _ _ | .nmaddD _ _ _ _
  | .nmsubS _ _ _ _ | .nmsubD _ _ _ _ | .movS _ _ | .movfS _ _ _ | .movtS _ _ _ | .movzS _ _ _ | .movnS _ _ _ | .movD _ _
  | .movfD _ _ _ | .movtD _ _ _ | .movzD _ _ _ | .movnD _ _ _ => .fp
  | .ctc1 _ fs => if fs = 31#5 then .fp else .other
  | .addi _ _ _ | .addiu _ _ _ | .slti _ _ _ | .sltiu _ _ _ | .andi _ _ _ | .ori _ _ _ | .xori _ _ _ | .daddi _ _ _
  | .daddiu _ _ _ | .lui _ _ | .add _ _ _ | .addu _ _ _ | .sub _ _ _ | .subu _ _ _ | .and _ _ _ | .or _ _ _
  | .xor _ _ _ | .nor _ _ _ | .slt _ _ _ | .sltu _ _ _ | .dadd _ _ _ | .daddu _ _ _ | .dsub _ _ _ | .dsubu _ _ _
  | .movz _ _ _ | .movn _ _ _ | .sll _ _ _ | .srl _ _ _ | .sra _ _ _ | .dsll _ _ _ | .dsrl _ _ _ | .dsra _ _ _
  | .dsll32 _ _ _ | .dsrl32 _ _ _ | .dsra32 _ _ _ | .sllv _ _ _ | .srlv _ _ _ | .srav _ _ _ | .dsllv _ _ _
  | .dsrlv _ _ _ | .dsrav _ _ _ | .mfhi _ | .mthi _ | .mflo _ | .mtlo _ | .movf _ _ _ | .movt _ _ _ | .j _ | .jal _
  | .jr _ | .jalr _ _ | .beq _ _ _ | .bne _ _ _ | .beql _ _ _ | .bnel _ _ _ | .blez _ _ | .bgtz _ _ | .blezl _ _
  | .bgtzl _ _ | .bltz _ _ | .bgez _ _ | .bltzl _ _ | .bgezl _ _ | .bltzal _ _ | .bgezal _ _ | .bltzall _ _
  | .bgezall _ _ | .tgei _ _ | .tgeiu _ _ | .tlti _ _ | .tltiu _ _ | .teqi _ _ | .tnei _ _ | .tge _ _ _ | .tgeu _ _ _
  | .tlt _ _ _ | .tltu _ _ _ | .teq _ _ _ | .tne _ _ _ | .syscall _ | .breakpoint _ | .bc1f _ _ | .bc1t _ _
  | .bc1fl _ _ | .bc1tl _ _ | .mfps _ _ | .mfpc _ _ | .mtps _ _ | .mtpc _ _ | .mfc0 _ _ | .dmfc0 _ _ | .mtc0 _ _
  | .dmtc0 _ _ | .tlbr | .tlbwi | .tlbwr | .tlbp | .eret | .rfe | .bc0f _ | .bc0t _ | .bc0fl _ | .bc0tl _ | .cop2 _
  | .lwc2 _ _ _ | .ldc2 _ _ _ | .swc2 _ _ _ | .sdc2 _ _ _ | .mfc1 _ _ | .dmfc1 _ _ | .cfc1 _ _ | .mtc1 _ _
  | .dmtc1 _ _ => .other

/-- `Counting(i)` (R1103), with the enables at the bits of the parameter `PerfCtlEnableOrder`; KSU = 3 counts as User mode. -/
def State.counting (s : State) (ctl : Word) : Bool :=
  let p := s.params.enables
  !s.erl && (if s.exl then ctl.getLsbD p.exl.val
    else match s.ksu.toNat with
      | 0 => ctl.getLsbD p.k.val
      | 1 => ctl.getLsbD p.s.val
      | _ => ctl.getLsbD p.u.val)

/-- Graduated instructions: none after an exception or while waiting, two for a multiply or divide. -/
def graduated (k : Option CountKind) (n : Note) : Word :=
  match k, n with
  | .none, _ => 0
  | _, .excepted _ => 0
  | _, .waiting => 0
  | some .mulDiv, _ => 2
  | _, _ => 1

/-- One if a graduated instruction is of a kind. -/
def graduatedAs (p : CountKind → Bool) (k : Option CountKind) (n : Note) : Word :=
  match k, n with
  | .none, _ => 0
  | _, .excepted _ => 0
  | _, .waiting => 0
  | some k, _ => if p k then 1 else 0

/-- What counter 0 counts for an event; an event that depends on the pipeline or the caches counts a free amount (R1107). -/
def events0 (ctr : Nat) (event : BitVec 4) (k : Option CountKind) (n : Note) : Word :=
  match event.toNat with
  | 5 => if n == .scFailed then 1 else 0
  | 15 => graduated k n
  | _ => Config.perfEvents0 ctr event

/-- What counter 1 counts for an event (R1107). -/
def events1 (ctr : Nat) (event : BitVec 4) (k : Option CountKind) (n : Note) : Word :=
  match event.toNat with
  | 1 => graduated k n
  | 2 => graduatedAs (· == .load) k n
  | 3 => graduatedAs (fun k => k == .store || k == .storeConditional) k n
  | 4 => graduatedAs (· == .storeConditional) k n
  | 5 => graduatedAs (· == .fp) k n
  | 7 => if n == .excepted true then 1 else 0
  | _ => Config.perfEvents1 ctr event

/-- The Event field (R1102). -/
def eventOf (ctl : Word) : BitVec 4 := ctl.extractLsb' 5 4

/-- The counters after a step: `s0` is the state before it, whose control registers decide (R1103). -/
def State.countEvents (s0 : State) (k : Option CountKind) (s : State) : State :=
  let c0 := if s0.counting s0.perf.ctl0 then s.perf.cnt0 + events0 s0.ctr (eventOf s0.perf.ctl0) k s.note else s.perf.cnt0
  let c1 := if s0.counting s0.perf.ctl1 then s.perf.cnt1 + events1 s0.ctr (eventOf s0.perf.ctl1) k s.note else s.perf.cnt1
  { s with perf := { s.perf with cnt0 := c0, cnt1 := c1 } }

end Sys2Proof.Machine
end

