-- ==== Sys2Proof/Machine/Fetch.lean ====
section
/-! DEFINITION. What happens between two instructions: time passes (Count, Random, the free values), and pending events are
taken in the order of spec/60 R1006. And where an instruction is put so that the next step fetches it. -/

namespace Sys2Proof.Machine

/-- One more boundary at which an interrupt is due, or none in a row (R1006). -/
def State.ageInterrupt (s : State) : State :=
  { s with pending := { s.pending with waited := if s.interruptTaken then s.pending.waited + 1 else 0 } }

/-- Time passes before an instruction: Count advances by a free amount and its comparison sets TimerIP at every intermediate
value (R1087, R1088); Random moves (R84); the supply of free values moves on; the error pulses of the last step end, a new
record of what goes out on the System interface begins (R440), and no instruction is held until the step says so. -/
def State.tick (s : State) : State :=
  let n := s.ctr + 1
  let d := Config.countTicks n
  let x := s.cp0.compare - s.cp0.count
  ({ s with
    ctr := n
    note := .none
    held := .none
    cp0 := { s.cp0 with count := s.cp0.count + d, random := ({ s with ctr := n } : State).nextRandom }
    pending := { s.pending with timer := s.pending.timer || (x != 0 && x.ule d) }
    bus := { s.bus with corErr := false, uncErr := false, sent := [] } } : State).ageInterrupt

/-- WatchPending is consumed (R1056). -/
def State.clearWatch (s : State) : State := { s with pending := { s.pending with watch := false } }

/-- A delayed Watch is due (R1056). -/
def State.watchDue (s : State) : Bool := s.pending.watch && !s.exl && !s.erl

/-- The event that is taken instead of the next instruction, if any, in the order of R1006: the state after it. A processor that
hangs takes the resets (R313). DESIGN CHOICE (notes/assumptions/70.md): it takes nothing else, and an NMI, a Cache Error, an interrupt or a
delayed Watch stays pending until a reset ends the hang, where R313 names only the Soft Reset and R1154 calls an NMI not maskable. -/
def State.pendingEvent (s : State) : Option State :=
  match s.pending.coldReset with
  | some m => some (s.coldReset m)
  | .none =>
    if s.pending.softReset then some s.softReset
    else if s.bus.hung then some s.waitHere
    else if s.pending.nmi then some s.nmi
    else if s.cacheErrorDue then some s.takeCacheError
    else if s.interruptDue then some (s.takeException excInt)
    else if s.watchDue then some (s.clearWatch.takeException excWatch)
    else .none

/-- After an instruction with the word w: while it waits it is held, and runs again without a fetch. -/
def State.holding (s : State) (w : Word) : State := { s with held := if s.note = .waiting then some w else .none }

/-- `State.holding` in a next state. -/
def Out.holding (x : Out) (w : Word) : Out :=
  match x with
  | .next s => .next (s.holding w)
  | .fault r => .fault r
  | .refused r => .refused r

/-- The counters are updated in a next state (R1100). -/
def State.counted (s0 : State) (k : Option CountKind) (x : Out) : Out :=
  match x with
  | .next s => .next (s0.countEvents k s)
  | .fault r => .fault r
  | .refused r => .refused r

/-! ## Placing an instruction -/

/-- Replace the word that a doubleword holds at an instruction address. -/
def putFetchWord (be : Bool) (va : DWord) (d : DWord) (w : Word) : DWord :=
  let x := wordsOf be d
  if va.getLsbD 2 then doubleOf be x.1 w else doubleOf be w x.2

/-- Store a word in memory where an uncached fetch at a physical address reads it. -/
def State.putMemWord (s : State) (va : DWord) (pa : PAddr) (w : Word) : State :=
  let a := (doubleBase pa).toNat
  s.setMem (Memory.writeDouble s.memEnd s.mem a 0xFF#8 (putFetchWord s.memEnd va (Memory.readDouble s.memEnd s.mem a) w))

/-- Store a word in way v of the secondary cache. -/
def State.putSWord (s : State) (va : DWord) (pa : PAddr) (v : Bool) (w : Word) : State :=
  let k := s.sKey pa v
  let i := s.sQuadIndex pa
  let q := (s.sQuadAt k i).data
  let d := putFetchWord s.memEnd va (quadPart q pa) w
  s.setSQuad k i ⟨if pa.getLsbD 3 then quadEven q ++ d else d ++ quadOdd q, .good⟩

/-- Store a word where a cached fetch finds it: in the instruction cache if it holds the block, else in the secondary cache, else
in memory. -/
def State.putCachedWord (s : State) (va : DWord) (pa : PAddr) (w : Word) : State :=
  let k0 := wayKey (iSet va) false
  let k1 := wayKey (iSet va) true
  let h0 := (s.iTagAt k0).holds pa
  let h1 := (s.iTagAt k1).holds pa
  if h0 || h1 then
    let x : IWord := ⟨.plain w, .none⟩
    let s1 := if h0 then s.setIWord k0 (iIndex va) x else s
    if h1 then s1.setIWord k1 (iIndex va) x else s1
  else
    let g0 := (s.sTagRead (s.sKey pa false)).holds pa
    let g1 := (s.sTagRead (s.sKey pa true)).holds pa
    if g0 || g1 then
      let s1 := if g0 then s.putSWord va pa false w else s
      if g1 then s1.putSWord va pa true w else s1
    else s.putMemWord va pa w

/-- Store a word where the next step fetches. -/
def State.putInstruction (s : State) (w : Word) : State :=
  match s.translate s.pc .fetch with
  | .ok p =>
    if algCached p.alg then s.putCachedWord (s.fetchVa s.pc) p.pa w else s.putMemWord (s.fetchVa s.pc) p.pa w
  | _ => s

end Sys2Proof.Machine
end

