-- ==== Sys2Proof/Machine/Gate.lean ====
section
/-! DEFINITION. The checks of the decision procedure of spec/30 R478 that stand before what an instruction does, for a word that is no
instruction only because a must-be-zero field is not zero (R470): its class is known, and an exception that its whole class takes in
the state at hand ("COP1 (all instructions)", "COP3 always causes a Reserved Instruction exception", R109, R477) it takes too. -/

noncomputable section

namespace Sys2Proof.Machine

/-- Run `k` after the checks that come first for an instruction with must-be-zero fields (R478). -/
def State.gated (s : State) (i : Instr) (k : Out) : Out :=
  match i with
  | .dadd _ _ _ | .daddu _ _ _ | .dsub _ _ _ | .dsubu _ _ _ | .dsll _ _ _ | .dsrl _ _ _ | .dsra _ _ _ | .dsll32 _ _ _
  | .dsrl32 _ _ _ | .dsra32 _ _ _ | .dsllv _ _ _ | .dsrlv _ _ _ | .dsrav _ _ _ | .dmult _ _ | .dmultu _ _ | .ddiv _ _
  | .ddivu _ _ => s.requireMips3 k
  | .movz _ _ _ | .movn _ _ _ => s.requireMips4 k
  | .movf _ _ _ | .movt _ _ _ | .lwxc1 _ _ _ | .ldxc1 _ _ _ | .swxc1 _ _ _ | .sdxc1 _ _ _ | .prefx _ _ _ =>
    s.requireMips4 (s.requireCp1 k)
  | .mfc1 _ _ | .cfc1 _ _ | .mtc1 _ _ | .ctc1 _ _ | .sqrtS _ _ | .absS _ _ | .movS _ _ | .negS _ _ | .roundWS _ _
  | .truncWS _ _ | .ceilWS _ _ | .floorWS _ _ | .cvtWS _ _ | .cvtDS _ _ | .sqrtD _ _ | .absD _ _ | .movD _ _ | .negD _ _
  | .roundWD _ _ | .truncWD _ _ | .ceilWD _ _ | .floorWD _ _ | .cvtWD _ _ | .cvtSD _ _ | .cvtSW _ _ | .cvtDW _ _ =>
    s.requireCp1 k
  | .dmfc1 _ _ | .dmtc1 _ _ => s.requireCp1 (s.requireMips3 k)
  | .roundLS _ _ | .truncLS _ _ | .ceilLS _ _ | .floorLS _ _ | .cvtLS _ _ | .roundLD _ _ | .truncLD _ _ | .ceilLD _ _
  | .floorLD _ _ | .cvtLD _ _ | .cvtSL _ _ | .cvtDL _ _ => s.requireCp1 (s.requireLong k)
  | .movfS _ _ _ | .movtS _ _ _ | .movfD _ _ _ | .movtD _ _ _ | .recipS _ _ | .rsqrtS _ _ | .recipD _ _ | .rsqrtD _ _ =>
    s.requireCp1 (s.requireFp4 k)
  | .cFS _ _ cc | .cUnS _ _ cc | .cEqS _ _ cc | .cUeqS _ _ cc | .cOltS _ _ cc | .cUltS _ _ cc | .cOleS _ _ cc
  | .cUleS _ _ cc | .cSfS _ _ cc | .cNgleS _ _ cc | .cSeqS _ _ cc | .cNglS _ _ cc | .cLtS _ _ cc | .cNgeS _ _ cc
  | .cLeS _ _ cc | .cNgtS _ _ cc | .cFD _ _ cc | .cUnD _ _ cc | .cEqD _ _ cc | .cUeqD _ _ cc | .cOltD _ _ cc
  | .cUltD _ _ cc | .cOleD _ _ cc | .cUleD _ _ cc | .cSfD _ _ cc | .cNgleD _ _ cc | .cSeqD _ _ cc | .cNglD _ _ cc
  | .cLtD _ _ cc | .cNgeD _ _ cc | .cLeD _ _ cc | .cNgtD _ _ cc =>
    s.requireCp1 (if cc = 0#3 then k else s.requireFp4 k)
  | _ => k

end Sys2Proof.Machine

end
end

