-- ==== Sys2Proof/Machine/Step.lean ====
section
/-! DEFINITION. One step: time passes; then a pending event (spec/60 R1006), or fetch, decode and execute. -/

noncomputable section

namespace Sys2Proof.Machine

/-- Run a decoded word in a state whose pc is its address (R478, R600, R602, R531, R470). -/
def State.runDecoded (s : State) (d : Decoded) : Out :=
  match d with
  | .instr i => s.counted (some (countKind i)) (exec i s)
  | .reserved => s.counted .none (.next (s.takeException excRi))
  | .cop1Reserved => s.counted .none (s.requireCp1 (.next (s.takeException excRi)))
  | .cop1Unimplemented => s.counted .none (s.requireCp1 s.unimplemented)
  | .cop1xReserved => s.counted .none (s.requireMips4 (s.requireCp1 (.next (s.takeException excRi))))
  | .cop0Reserved => s.counted .none s.reservedCop0
  | .cop0Undefined => s.counted .none (s.requireCp0 (.fault .undefinedCop0))
  | .cacheUndefined => s.counted .none (s.requireCp0 (.fault .undefinedCacheOp))
  | .mustBeZero i => s.counted .none (s.gated i (.fault .mustBeZeroField))

/-- Fetch the instruction at pc, unless it was fetched and waits (R440), and run it; an exception of the fetch is the step's outcome. -/
def State.fetchAndRun (s : State) (held : Option Word) : Out :=
  match s.nextWord held with
  | .ok w s1 => Out.holding (s1.runDecoded (decode w)) w
  | .trap s1 => s.counted .none (.next s1)
  | .stop r => .fault r

/-- One step. -/
def step (s : State) : Host.Outcome State Fault Refusal :=
  if s.ctm.active then .fault .cacheTestMode
  else
    match s.tick.pendingEvent with
    | some s1 => s.tick.counted .none (.next s1)
    | .none => s.tick.fetchAndRun s.held

/-- s with the instruction whose bits are w stored where `step` fetches its next instruction; every instruction is one word, so
bits above nbits are zero only if w's are. No instruction is held, so that the next step does fetch. -/
def State.withFetchWord (s : State) (_nbits w : Nat) : State := { s.putInstruction (BitVec.ofNat 32 w) with held := .none }

end Sys2Proof.Machine

end
end

