-- ==== Sys2Proof/Machine/CacheTest.lean ====
section
/-! DEFINITION. Cache test mode (spec/62 R1200 to R1210): commands that read and write the on-chip arrays. A command is the
58 bits SysAD(57:0) of R1205. How the 12-bit address falls on an array is the model's choice (notes/assumptions/45.md): the
word or set index within the way; for the way prediction table, the way is the top bit of the index. -/

namespace Sys2Proof.Machine

/-- The address of a command, bits 57:46. -/
def ctmAddr (c : BitVec 58) : BitVec 12 := c.extractLsb' 46 12
/-- The way, bit 45. -/
def ctmWay (c : BitVec 58) : Bool := c.getLsbD 45
/-- Auto-increment, bit 44. -/
def ctmAuto (c : BitVec 58) : Bool := c.getLsbD 44
/-- Write, bit 43. -/
def ctmWrite (c : BitVec 58) : Bool := c.getLsbD 43
/-- Array select, bits 42:40. -/
def ctmArray (c : BitVec 58) : BitVec 3 := c.extractLsb' 40 3
/-- Data, bits 39:0. -/
def ctmData (c : BitVec 58) : BitVec 40 := c.extractLsb' 0 40

/-- The data tag of a data word of the table of R1205. -/
def ctmDTag (d : BitVec 40) : DTag :=
  ⟨d.extractLsb' 8 28, BlockState.ofBits (d.extractLsb' 6 2), d.extractLsb' 36 3, d.getLsbD 1, d.getLsbD 0, d.getLsbD 2⟩

/-- The instruction tag. -/
def ctmITag (d : BitVec 40) : ITag := ⟨d.extractLsb' 8 28, d.getLsbD 6, d.getLsbD 0, d.getLsbD 2⟩

/-- Write an array (R1206); none for array 5 to 7 and for an index the array does not have. -/
def State.ctmStore (s : State) (arr : BitVec 3) (a : BitVec 12) (w : Bool) (d : BitVec 40) : Option State :=
  let n := a.toNat
  match arr.toNat with
  | 0 => some (s.setDWord (wayKey (n / 8) w) (n % 8) ⟨d.extractLsb' 0 32, d.extractLsb' 32 4⟩)
  | 1 => if n < 512 then some ((s.setDTag (wayKey n w) (ctmDTag d)).setDLru n (d.getLsbD 3)) else none
  | 2 => some (s.setIWord (wayKey (n / 16) w) (n % 16) ⟨.raw (d.extractLsb' 0 36), some (d.getLsbD 36)⟩)
  | 3 => if n < 256 then some ((s.setITag (wayKey n w) (ctmITag d)).setILru n (d.getLsbD 3)) else none
  | 4 => some (s.setMru (4096 * w.toNat + n) (d.getLsbD 0))
  | _ => none

/-- The defined bits of a word of an array, laid over undefined ones (R1205). -/
def ctmPut {n : Nat} (free : BitVec 40) (lo : Nat) (f : BitVec n) : BitVec 40 := putField free lo f

/-- Read an array (R1208); the unused bits are free, anew for every command (`State.ctmRemember`). -/
def State.ctmLoad (s : State) (arr : BitVec 3) (a : BitVec 12) (w : Bool) : Option (BitVec 40) :=
  let n := a.toNat
  let free := Config.ctmUnused s.ctr
  match arr.toNat with
  | 0 =>
    let x := s.dWordAt (wayKey (n / 8) w) (n % 8)
    some (ctmPut free 0 (x.parity ++ x.data))
  | 1 =>
    if n < 512 then
      let t := s.dTagAt (wayKey n w)
      let low := BitVec.ofBool (s.dLruAt n) ++ BitVec.ofBool t.stateParity ++ BitVec.ofBool t.scWay ++
        BitVec.ofBool t.tagParity
      some (ctmPut (ctmPut free 0 low) 6 (t.mod ++ t.tag ++ t.state.bits))
    else none
  | 2 =>
    let x := s.iWordAt (wayKey (n / 16) w) (n % 16)
    some (ctmPut free 0 (BitVec.ofBool (x.parity.getD (parityBit x.bits.value)) ++ x.bits.value))
  | 3 =>
    if n < 256 then
      let t := s.iTagAt (wayKey n w)
      some (ctmPut (ctmPut (ctmPut (ctmPut free 0 (BitVec.ofBool t.tagParity)) 2
        (BitVec.ofBool (s.iLruAt n) ++ BitVec.ofBool t.stateParity)) 6 (BitVec.ofBool t.valid)) 8 t.tag)
    else none
  | 4 => some (ctmPut free 0 (BitVec.ofBool (s.mruAt (4096 * w.toNat + n))))
  | _ => none

/-- What a read of the instruction cache array shows becomes known (R573). -/
def State.ctmLearn (s : State) (arr : BitVec 3) (a : BitVec 12) (w : Bool) : State :=
  if arr = 2#3 then s.learn (s.iWordAt (wayKey (a.toNat / 16) w) (a.toNat % 16)).bits else s

/-- The place a command accesses: its own, or the one after the last (R1206 to R1209); none where there is no last one. -/
def CtmMemory.place (m : Option CtmMemory) (c : BitVec 58) : Option (BitVec 12 × Bool) :=
  if ctmAuto c then m.map fun x => (x.addr + 1#12, x.way != (x.addr == 0xFFF#12)) else some (ctmAddr c, ctmWay c)

/-- The data of a write: its own, or the last write's (R1207); an auto-increment write after a read is undefined. -/
def CtmMemory.writeData (m : Option CtmMemory) (c : BitVec 58) : Option (BitVec 40) :=
  if ctmAuto c then m.bind fun x => if x.wrote then some x.data else none else some (ctmData c)

/-- The outputs that are undefined in the mode (R1201) have free values. -/
def State.ctmOutputs (s : State) : State :=
  { s with
    bus := { s.bus with corErr := (Config.ctmOutputs s.ctr).getLsbD 0, uncErr := (Config.ctmOutputs s.ctr).getLsbD 1 }
    jtag := { s.jtag with tdo := (Config.ctmOutputs s.ctr).getLsbD 2 } }

/-- Remember a command. The supply of free values moves on: the undefined bits of two reads and the undefined outputs after two
commands have nothing to do with each other (R1201, R1205). -/
def State.ctmRemember (s : State) (a : BitVec 12) (w : Bool) (d : BitVec 40) (wrote : Bool) : State :=
  ({ s with ctr := s.ctr + 1, ctm := { s.ctm with last := some ⟨a, w, d, wrote⟩ } } : State).ctmOutputs

/-- One command: the state after it and, of a read, what the processor answers; none where the source gives it no meaning. -/
def State.ctmCommand (s : State) (c : BitVec 58) : Option (State × Option (BitVec 40)) :=
  if !s.ctm.active then none else
  match CtmMemory.place s.ctm.last c with
  | .none => none
  | some (a, w) =>
    if ctmWrite c then
      match CtmMemory.writeData s.ctm.last c with
      | .none => none
      | some d => (s.ctmStore (ctmArray c) a w d).map fun t => (t.ctmRemember a w d true, none)
    else
      (s.ctmLoad (ctmArray c) a w).map fun v =>
        ((s.ctmLearn (ctmArray c) a w).ctmRemember a w ((s.ctm.last.map CtmMemory.data).getD 0) false, some v)

end Sys2Proof.Machine
end

