-- ==== Sys2Proof/Machine/Jtag.lean ====
section
/-! DEFINITION. The JTAG port (spec/61 R1130 to R1136): the TAP controller, its instruction register, the bypass register and
the boundary scan register. It touches no other state (R1130). One call is one rising edge of JTCK; what the standard does on
the falling edge of an Update state is done when that state is left. -/

namespace Sys2Proof.Machine

/-- The next state of the TAP controller, by JTMS (R1132). -/
def Tap.next (t : Tap) (tms : Bool) : Tap :=
  match t with
  | .reset => if tms then .reset else .idle
  | .idle => if tms then .selectDr else .idle
  | .selectDr => if tms then .selectIr else .captureDr
  | .captureDr => if tms then .exit1Dr else .shiftDr
  | .shiftDr => if tms then .exit1Dr else .shiftDr
  | .exit1Dr => if tms then .updateDr else .pauseDr
  | .pauseDr => if tms then .exit2Dr else .pauseDr
  | .exit2Dr => if tms then .updateDr else .shiftDr
  | .updateDr => if tms then .selectDr else .idle
  | .selectIr => if tms then .reset else .captureIr
  | .captureIr => if tms then .exit1Ir else .shiftIr
  | .shiftIr => if tms then .exit1Ir else .shiftIr
  | .exit1Ir => if tms then .updateIr else .pauseIr
  | .pauseIr => if tms then .exit2Ir else .pauseIr
  | .exit2Ir => if tms then .updateIr else .shiftIr
  | .updateIr => if tms then .selectDr else .idle

/-- 0000 and 0001 select the boundary register (R1133). -/
def Jtag.selectsBoundary (j : Jtag) : Bool := j.ir == 0b0000#4 || j.ir == 0b0001#4

/-- 1111 selects the bypass register (R1133). -/
def Jtag.selectsBypass (j : Jtag) : Bool := j.ir == 0b1111#4

/-- One bit into a register at its top, the lowest bit out (R1133 to R1135). -/
def shiftIn {n : Nat} (v : BitVec n) (tdi : Bool) : BitVec n := putBit (v >>> 1) (n - 1) tdi

/-- What a clock edge does in the state it finds, with these levels on the pins, cell by cell: "load and observe specific logic values on the
processor pins" (R1135); none for a data register that is not used (0010 to 1110, R1133). DESIGN CHOICE,
where the spec is silent (notes/assumptions/42.md): Test-Logic-Reset selects the bypass register and leaves the direction bit as
it is, which SysReset* alone sets to 0 (R60, R1135); the bypass register captures 0 (R1134); outside the shift states JTDO keeps
the last bit shifted out (R1131). -/
def Jtag.act (j : Jtag) (ctr : Nat) (pins : BitVec 333) (tdi : Bool) : Option Jtag :=
  match j.tap with
  | .reset => some { j with ir := 0b1111 }
  | .captureIr => some { j with irShift := Config.jtagCaptureIr ctr }
  | .shiftIr => some { j with irShift := shiftIn j.irShift tdi, tdo := j.irShift.getLsbD 0 }
  | .updateIr => some { j with ir := j.irShift }
  | .captureDr =>
    if j.selectsBoundary then some { j with boundary := BitVec.ofBool (Config.jtagCaptureDirection ctr) ++ pins }
    else if j.selectsBypass then some { j with bypass := false } else none
  | .shiftDr =>
    if j.selectsBoundary then some { j with boundary := shiftIn j.boundary tdi, tdo := j.boundary.getLsbD 0 }
    else if j.selectsBypass then some { j with bypass := tdi, tdo := j.bypass } else none
  | .updateDr => if j.selectsBoundary then some { j with latch := j.boundary } else some j
  | _ => some j

/-- One rising edge of JTCK (R1132). -/
def Jtag.clock (j : Jtag) (ctr : Nat) (pins : BitVec 333) (tms tdi : Bool) : Option Jtag :=
  (j.act ctr pins tdi).map fun k => { k with tap := j.tap.next tms }

/-- The direction of the bidirectional pins: false is input (R1135). -/
def Jtag.direction (j : Jtag) : Bool := j.latch.getLsbD 333

/-! ## The boundary scan order (R1136) -/

/-- A pin with a cell in the boundary scan register: a bit of a bus, or a single signal by its name. -/
inductive Pin where
  /-- SCData -/
  | scData (i : Nat)
  /-- SCDataChk -/
  | scDataChk (i : Nat)
  /-- SCAAddr -/
  | scaAddr (i : Nat)
  /-- SCBAddr -/
  | scbAddr (i : Nat)
  /-- SCTag -/
  | scTag (i : Nat)
  /-- SCTagChk -/
  | scTagChk (i : Nat)
  /-- SysAD -/
  | sysAd (i : Nat)
  /-- SysADChk -/
  | sysAdChk (i : Nat)
  /-- SysCmd -/
  | sysCmd (i : Nat)
  /-- SysResp -/
  | sysResp (i : Nat)
  /-- SysState -/
  | sysState (i : Nat)
  /-- a signal that is no bus -/
  | single (name : String)
  deriving DecidableEq, Repr

/-- Bits a, a+1, … of a bus, n of them. -/
def pinsUp (f : Nat → Pin) (a n : Nat) : List Pin := (List.range n).map fun i => f (a + i)

/-- Bits a, a-1, … of a bus, n of them. -/
def pinsDown (f : Nat → Pin) (a n : Nat) : List Pin := (List.range n).map fun i => f (a - i)

/-- Positions 1 to 160 of Table 11-2. -/
def boundaryPinsA : List Pin :=
  List.flatten [
    [.scDataChk 1], pinsDown Pin.scData 63 32, pinsUp Pin.sysAd 0 16, pinsUp Pin.scData 0 32, [.scDataChk 0],
    pinsDown Pin.scaAddr 18 10, [.scDataChk 2, .scDataChk 4], pinsUp Pin.scData 64 8,
    [.scDataChk 9, .single "SysCyc*"], pinsUp Pin.sysAd 32 16, pinsUp Pin.scData 72 8, pinsUp Pin.scaAddr 0 9,
    [.single "SCADWay", .single "SCADCS*", .single "SCADOE*", .single "SCADWr*"], pinsUp Pin.scData 80 16,
    [.scDataChk 6, .scDataChk 8, .single "Spare1"]]

/-- Positions 161 to 270. -/
def boundaryPinsB : List Pin :=
  List.flatten [
    [.single "SCTCS*", .single "SCTOE*", .single "SCTWr*"], pinsDown Pin.scTag 25 26,
    [.single "SCTagLSBAddr", .single "TriState", .single "SCTWay"], pinsDown Pin.scTagChk 6 7, pinsUp Pin.sysCmd 0 12,
    [.single "SysCmdPar", .single "SysVal*", .single "SysReq*", .single "SysRel*", .single "SysGnt*",
      .single "SysReset*", .single "SysRespVal*", .single "SysRespPar"],
    pinsDown Pin.sysResp 4 5,
    [.single "SysGblPerf*", .single "SysRdRdy*", .single "SysWrRdy*", .single "SysStateVal*", .single "SysStatePar"],
    pinsDown Pin.sysState 2 3,
    [.single "SysCorErr*", .single "SysUncErr*", .single "SysNMI*", .scDataChk 7, .scDataChk 5],
    pinsDown Pin.scData 127 16, [.single "SCBDWr*", .single "SCBDOE*", .single "SCBDCS*", .single "SCBDWay"],
    pinsDown Pin.scbAddr 8 9, pinsDown Pin.scData 111 4]

/-- Positions 271 to 333, printed 361 to 423. -/
def boundaryPinsC : List Pin :=
  List.flatten [
    pinsDown Pin.scData 107 4, pinsDown Pin.sysAd 63 16, pinsDown Pin.sysAdChk 7 8, pinsDown Pin.sysAd 31 16,
    pinsDown Pin.scData 103 8, [.scDataChk 3], pinsUp Pin.scbAddr 9 10]

/-- The 333 cells in the order of Table 11-2 (R1136). -/
def boundaryPins : List Pin := List.flatten [boundaryPinsA, boundaryPinsB, boundaryPinsC]

/-- The bit of the boundary register that is a pin's cell. That position 1 is nearest JTDI, bit 332, is a DESIGN CHOICE: the table
does not say which end it is (notes/assumptions/42.md). -/
def Pin.bit (p : Pin) : Option Nat := (boundaryPins.idxOf? p).map fun k => 332 - k

/-- A level on a pin, among those of all cells. -/
def Pin.put (p : Pin) (level : Bool) (pins : BitVec 333) : BitVec 333 :=
  match p.bit with
  | some k => putBit pins k level
  | .none => pins

/-- What the shift stage holds for a pin. -/
def Jtag.cell (j : Jtag) (p : Pin) : Option Bool := p.bit.map fun k => j.boundary.getLsbD k

/-- What the update stage holds for a pin: the value that an output, or a bidirectional pin that is an output, drives while the boundary
scan has the pins (R60, R1135). DESIGN CHOICE (notes/assumptions/42.md): it is told under every instruction code, for "the boundary-scan
instructions take over the pins" (R60) does not say which codes of R1133 do; and whatever the code, the core's own accesses and the events
from outside go on as they would without the port, which R60 and R1133 to R1138 do not settle. -/
def Jtag.driven (j : Jtag) (p : Pin) : Option Bool := p.bit.map fun k => j.latch.getLsbD k

end Sys2Proof.Machine
end

