-- ==== Sys2Proof/Machine/Speculation.lean ====
section
/-! DEFINITION. Speculation (spec/20 R247, R248; spec/46 R863, R865; spec/41 R541): which references may be made ahead of the program,
and the refill that one leaves. An instruction is reached along a predicted path from the instruction at pc, and its registers hold what
the instructions of the path make of them. -/

noncomputable section

namespace Sys2Proof.Machine

/-! ## The predicted path -/

/-- Where a predicted transfer goes after its delay slot. -/
inductive Predicted where
  /-- to one address: a jump, a likely branch, which is "always predicted as taken" (R863), or a branch already decided -/
  | taken (target : DWord)
  /-- a conditional branch: either way -/
  | either (target : DWord)
  /-- JR and JALR: the register may hold any value (R247) -/
  | anywhere
  deriving DecidableEq, Repr

/-- Whether b may follow the delay slot at a. -/
def Predicted.allows (p : Predicted) (a b : DWord) : Bool :=
  match p with
  | .taken t => b == t
  | .either t => b == t || b == a + 4#64
  | .anywhere => true

/-- The instruction that a fetch at an address would deliver now; at pc, the one that is held there. DESIGN CHOICE
(notes/assumptions/57.md): speculation ends at a word that decodes to no instruction, or whose fetch fails; R247 and R248 do not say
that it does. DESIGN CHOICE (the same entry): it goes on through code that is fetched uncached, though "uncached reads ... are guaranteed
to be non-speculative" (R247): the words are those the program would fetch there, and no uncached read is made for them. -/
def State.instrAt (s : State) (a : DWord) : Option Instr :=
  match ({ s with pc := a } : State).nextWord (if a == s.pc then s.held else .none) with
  | .ok w _ => match decode w with
    | .instr i => some i
    | _ => .none
  | _ => .none

/-- "Incorrect speculation on a branch-likely always occurs on a taken path" (R248): such a branch leads to its target alone. -/
def State.predicted (s : State) (a : DWord) (i : Instr) : Option Predicted :=
  let at_ : State := { s with pc := a }
  match i with
  | .j t | .jal t => some (.taken (at_.jumpTarget t))
  | .jr _ | .jalr _ _ => some .anywhere
  | .beq _ _ o | .bne _ _ o | .blez _ o | .bgtz _ o | .bltz _ o | .bgez _ o | .bltzal _ o | .bgezal _ o | .bc1f _ o
  | .bc1t _ o => some (.either (at_.branchTarget o))
  | .beql _ _ o | .bnel _ _ o | .blezl _ o | .bgtzl _ o | .bltzl _ o | .bgezl _ o | .bltzall _ o | .bgezall _ o
  | .bc1fl _ o | .bc1tl _ o => some (.taken (at_.branchTarget o))
  | _ => .none

/-- A branch that is predicted, of which at most four may be undecided (R865). DESIGN CHOICE (notes/assumptions/57.md): "up to four
branches deep" counts the conditional branches; JR and JALR, which wait for their register, are not counted, and a path may hold any
number of them, where R865 says only "branches". -/
def isBranch : Instr → Bool
  | .beq _ _ _ | .bne _ _ _ | .blez _ _ | .bgtz _ _ | .bltz _ _ | .bgez _ _ | .bltzal _ _ | .bgezal _ _ | .bc1f _ _
  | .bc1t _ _ | .beql _ _ _ | .bnel _ _ _ | .blezl _ _ | .bgtzl _ _ | .bltzl _ _ | .bgezl _ _ | .bltzall _ _ | .bgezall _ _
  | .bc1fl _ _ | .bc1tl _ _ => true
  | _ => false

/-- "A serializing instruction such as a cache barrier or a CP0 instruction" (R248); every CACHE operation is one (R541). -/
def serializes : Instr → Bool
  | .mfc0 _ _ | .mtc0 _ _ | .dmfc0 _ _ | .dmtc0 _ _ | .mfpc _ _ | .mtpc _ _ | .mfps _ _ | .mtps _ _ | .tlbr | .tlbwi
  | .tlbwr | .tlbp | .eret | .rfe | .bc0f _ | .bc0t _ | .bc0fl _ | .bc0tl _ | .cacheIndexInvalidateI _ _
  | .cacheIndexLoadTagI _ _ | .cacheIndexStoreTagI _ _ | .cacheHitInvalidateI _ _ | .cacheBarrier _ _
  | .cacheIndexLoadDataI _ _ | .cacheIndexStoreDataI _ _ | .cacheIndexWritebackInvalidateD _ _ | .cacheIndexLoadTagD _ _
  | .cacheIndexStoreTagD _ _ | .cacheHitInvalidateD _ _ | .cacheHitWritebackInvalidateD _ _ | .cacheIndexLoadDataD _ _
  | .cacheIndexStoreDataD _ _ | .cacheIndexWritebackInvalidateS _ _ | .cacheIndexLoadTagS _ _ | .cacheIndexStoreTagS _ _
  | .cacheHitInvalidateS _ _ | .cacheHitWritebackInvalidateS _ _ | .cacheIndexLoadDataS _ _
  | .cacheIndexStoreDataS _ _ => true
  | _ => false

/-- CFC1 and CTC1: "no subsequent instruction is decoded until they have been completed" (R627). -/
def holdsDecode : Instr → Bool
  | .cfc1 _ _ | .ctc1 _ _ => true
  | _ => false

/-- The addresses follow one another from a on. -/
def sequentialFrom (a : DWord) : List DWord → Bool
  | [] => true
  | b :: l => b == a + 4#64 && sequentialFrom b l

/-- SYNC, which writes no register even when it waits (R505). -/
def isSync : Instr → Bool
  | .sync => true
  | _ => false

/-- What an instruction of the path makes of the registers, in the delay slot of a transfer or not; none: not known. DESIGN CHOICE
(notes/assumptions/57.md): after an instruction that takes an exception, waits or stops the model knows no register, so that a load or
store that follows may have any address; R247 and R248 speak of none. DESIGN CHOICE (the same entry): an uncached load of the path, which
is not made ahead of the program (R243, R247), gives its register what it would deliver now, and a load or store that follows may take
its address from that. Of what follows SYNC, "load and store instructions speculatively
and out-of-order" (R505), whether or not it waits. -/
def State.passes (u : State) (slot : Bool) (a : DWord) (i : Instr) : Option State :=
  match exec i { u with pc := a, delay := if slot then .slot .none else .none, note := .none } with
  | .next t => if t.note == .none || t.note == .scFailed || isSync i then some t else .none
  | _ => .none

/-- Whether speculation reaches, from the instruction at a, the instructions at the addresses that follow, in order; the answer is the
state of the registers there, if known (`State.passes`). `due`: a stands in the delay slot of this transfer; `n`: how many more
branches may be undecided; `u`: the registers at a. Loads and stores are not speculated beyond an instruction that serializes;
"instruction fetches are not affected" (R541), and that they pass a CP0 instruction too is a DESIGN CHOICE
(notes/assumptions/57.md). Past CFC1 and CTC1 nothing is decoded (R627), so that no load, no store and no transfer of control is known
there; DESIGN CHOICE (the same entry): fetches go on past them from one address to the next, where R627 speaks of decoding only. -/
def State.reaches (s : State) (fetch : Bool) (due : Option Predicted) (n : Nat) (a : DWord) (u : Option State) :
    List DWord → Option (Option State)
  | [] => some u
  | b :: l =>
    match s.instrAt a with
    | .none => .none
    | some i =>
      if (fetch || !serializes i) && (!isBranch i || n != 0) &&
          (match due with
            | .none => b == a + 4#64
            | some p => p.allows a b) then
        if holdsDecode i then (if fetch && sequentialFrom b l then some .none else .none)
        else s.reaches fetch (s.predicted a i) (if isBranch i then n - 1 else n) b (u.bind fun u => u.passes due.isSome a i) l
      else .none

/-- The transfer in whose delay slot pc stands: it is decided. -/
def State.decided (s : State) : Option Predicted :=
  match s.delay with
  | .none => .none
  | .slot .none => some (.taken (s.pc + 4#64))
  | .slot (some t) => some (.taken t)

/-- The address of the reference that an instruction makes ahead of the program, of a kind (R800, R247). DESIGN CHOICE
(notes/assumptions/57.md): the checks that an executed instruction would fail before its access (alignment, coprocessor usability, MIPS III
and IV) do not keep a speculated one from its refill, where R247 is silent. -/
def State.refersTo (u : State) (kind : Access) (i : Instr) : Option DWord :=
  match i with
  | .lb b _ o | .lbu b _ o | .lh b _ o | .lhu b _ o | .lw b _ o | .lwu b _ o | .ld b _ o | .lwl b _ o | .lwr b _ o | .ldl b _ o
  | .ldr b _ o | .ll b _ o | .lld b _ o | .lwc1 b _ o | .ldc1 b _ o => if kind == .load then some (u.ea b o) else .none
  | .lwxc1 b x _ | .ldxc1 b x _ => if kind == .load then some (u.eaIndexed b x) else .none
  | .pref b _ o => if kind == .pref then some (u.ea b o) else .none
  | .prefx b x _ => if kind == .pref then some (u.eaIndexed b x) else .none
  | .sb b _ o | .sh b _ o | .sw b _ o | .sd b _ o | .swl b _ o | .swr b _ o | .sdl b _ o | .sdr b _ o | .sc b _ o | .scd b _ o
  | .swc1 b _ o | .sdc1 b _ o => if kind == .store then some (u.ea b o) else .none
  | .swxc1 b x _ | .sdxc1 b x _ => if kind == .store then some (u.eaIndexed b x) else .none
  | _ => .none

/-- The hint of a prefetch; of another instruction 2, which is undefined and asks for nothing (R501). -/
def prefetchHint : Instr → BitVec 5
  | .pref _ h _ | .prefx _ _ h => h
  | _ => 2#5

/-- Whether a reference may be made ahead of the program (R247, R248): a fetch at the end of a predicted path, or a load, store or
prefetch by the instruction at its end, at the address that its registers, as the path leaves them, give: "make all aborted branch
assignments safe" (spec/95_test_vectors.md, Speculation workarounds). The path lists the addresses after pc. -/
def State.maySpeculate (s : State) (path : List DWord) (kind : Access) (va : DWord) : Bool :=
  if kind == .fetch then (s.reaches true s.decided 4 s.pc (some s) (path ++ [va])).isSome
  else
    match s.reaches false s.decided 4 s.pc (some s) path, s.instrAt (path.getLastD s.pc) with
    | some (some u), some i => u.refersTo kind i == some va
    | some .none, some i => (s.refersTo kind i).isSome
    | _, _ => false

/-- The hint of the prefetch at the end of a path. -/
def State.pathHint (s : State) (path : List DWord) : BitVec 5 := ((s.instrAt (path.getLastD s.pc)).map prefetchHint).getD 2#5

/-! ## The refill -/

/-- An answer as it stands for a speculated request: "Rejection is made by returning an external NACK completion response" (R248). The
request is not made again, as R388 allows, and nothing is filled. DESIGN CHOICE: after an ACK without data, which R315 overrides to a NACK,
it is made again, which R388 allows too (notes/assumptions/57.md). -/
def Reply.rejecting (r : Reply) : Reply := if r.completion == .nack then { r with completion := .err } else r

/-- The state a reference leaves that finds or fills a block and is then aborted; a speculated store has marked the line Dirty (R247).
No exception is taken. DESIGN CHOICE (notes/assumptions/57.md): a speculated store does so whether it misses or hits, with an upgrade of a
Shared block, where R247 (b) names one that misses. DESIGN CHOICE (the same entry): a speculated prefetch asks for the block as the
executed one does (R501), exclusive for hints 1, 5 and 7, in the way of hints 4 to 7, nothing for an undefined hint, where R503 says only
"executed speculatively like a load". DESIGN CHOICE (the same entry): an access that has no translation makes no request, and so does a
store, or a prefetch for an exclusive copy, of a page that is not writable, which would take TLB Modified or be dropped when executed; R247 is
silent on it. -/
def State.refill (s : State) (kind : Access) (hint : BitVec 5) (va : DWord) : State :=
  let a := if kind == .fetch then va else s.dataAddress va
  match s.translate a (if kind == .pref && prefExclusive hint then .store else kind) with
  | .ok p =>
    if algCached p.alg then
      match kind with
      | .pref => if prefDefined hint then (s.dEnsure a p.pa p.alg (prefExclusive hint) (prefWay hint)).stateOr s else s
      | .fetch => (s.iEnsure a p.pa p.alg).stateOr s
      | .store => ((s.dEnsure a p.pa p.alg true .none).bind fun w s =>
          .ok w (s.own a p.pa (s.dTagAt (wayKey (dSet a) w)).scWay)).stateOr s
      | _ => (s.dEnsure a p.pa p.alg false .none).stateOr s
    else s
  | _ => s

/-- A refill that speculation makes, by the prefetch of this hint if it is one; the agent rejects it by a NACK (R248). -/
def State.speculate (s : State) (kind : Access) (hint : BitVec 5) (va : DWord) : State :=
  let t := (s.setReplies (s.bus.replies.map Reply.rejecting)).refill kind hint va
  t.setReplies (s.bus.replies.drop (s.bus.replies.length - t.bus.replies.length))

end Sys2Proof.Machine

end
end

