-- ==== Sys2Proof/Machine/External.lean ====
section
/-! DEFINITION. What the outside world does between two steps (R18): resets (spec/70 R1150 to R1154), NMI (R421), external
interrupt requests (R420), external coherency requests (spec/22 R391, R393, R400), writes of memory by other agents (R440),
answers to requests and the pins an instruction waits for (R331, R388, R412), errors of the arrays and units (R308, R316),
speculative refills (R247), JTAG clocks (spec/61) and cache test mode commands (spec/62). `step` itself takes none of them: it
finds what they left. -/

noncomputable section

namespace Sys2Proof.Machine

/-- An external coherency request (R391, R393). -/
inductive CoherencyRequest where
  /-- intervention shared -/
  | interventionShared
  /-- intervention exclusive -/
  | interventionExclusive
  /-- invalidate -/
  | invalidate
  deriving DecidableEq, Repr

/-- An error that the System interface unit detects (R308, R312, R160). -/
inductive SystemError where
  /-- SysAD, external address cycle, correctable: nothing but a pulse of SysCorErr* (R305, R312) -/
  | corrected
  /-- SysAD, external address cycle, uncorrectable: SA -/
  | address
  /-- SysCmd parity: SC -/
  | command
  /-- SysResp parity: SR -/
  | response
  /-- block data forwarded with the error flag set, into a way: EE, D, SIdx -/
  | blockData (pa : PAddr) (owned way : Bool)
  deriving DecidableEq, Repr

/-- The units that keep a local CacheErr register (R308). -/
inductive ErrorUnit where
  /-- instruction cache -/
  | instruction
  /-- data cache -/
  | data
  /-- secondary cache -/
  | secondary
  /-- System interface -/
  | systemInterface
  deriving DecidableEq, Repr

/-- An error in a cache array (D14, R316): the bits of an entry that flip. One bit of a secondary entry is "correctable at p"; the
primary arrays have parity. -/
inductive ArrayError where
  /-- instruction tag: PA[39:12], Valid, TP, SP -/
  | iTag (k : Nat) (flip : BitVec 31)
  /-- instruction word: parity, 36 bits -/
  | iWord (k i : Nat) (flip : BitVec 37)
  /-- data tag: PA[39:12], PState, StateMod, SCWay, TP, SP -/
  | dTag (k : Nat) (flip : BitVec 36)
  /-- data word: byte parity, data -/
  | dWord (k i : Nat) (flip : BitVec 36)
  /-- secondary tag: PA[39:18], PIdx, state, ECC -/
  | sTag (k : Nat) (flip : BitVec 33)
  /-- secondary quadword: check bits, data -/
  | sQuad (k q : Nat) (flip : BitVec 138)
  deriving DecidableEq, Repr

/-- One event. -/
inductive ExternalEvent where
  /-- Power-on or Cold Reset sequence with the mode bits driven (R1151, R1152); bit 31 (CTM) enters cache test mode (R1203) -/
  | coldReset (modeBits : DWord)
  /-- Soft Reset sequence; the data cache tag entries named were being refilled (R1153) -/
  | softReset (refilling : List Nat)
  /-- SysNMI* goes from negated to asserted (R421) -/
  | nmi
  /-- external interrupt request: SysAD[20:16] and SysAD[4:0] (R420) -/
  | interrupt (enables values : BitVec 5)
  /-- a coherency request that targets this processor (R400) -/
  | coherency (request : CoherencyRequest) (pa : PAddr)
  /-- a System interface error (R308) -/
  | systemError (e : SystemError)
  /-- an uncorrectable error of a unit, with its CacheErr value (R1025, D14) -/
  | cacheError (unit : ErrorUnit) (info : Word)
  /-- an error in a cache array (D14) -/
  | arrayError (e : ArrayError)
  /-- another agent writes lanes of the doubleword at an address (R18, R440) -/
  | memory (pa : PAddr) (lanes : BitVec 8) (data : DWord)
  /-- one more answer that the agent will give to a request (R343, R388, R440) -/
  | reply (r : Reply)
  /-- an external response data cycle with an unexpected request number, in a block data response (R315) -/
  | strayData
  /-- SysWrRdy* is asserted or negated (R331) -/
  | writeReady (b : Bool)
  /-- SysGblPerf* is asserted or negated (R412) -/
  | globallyPerformed (b : Bool)
  /-- a refill that speculation makes, for a fetch, load, store or prefetch at an address, by way of a path of instructions (R247) -/
  | speculate (path : List DWord) (kind : Access) (va : DWord)
  /-- a rising edge of JTCK with JTMS and JTDI (R1132), and the levels on the pins then, cell by cell as in the boundary register (R1135); those
  that the state holds are the state's, whatever stands here for them -/
  | jtag (tms tdi : Bool) (pins : BitVec 333)
  /-- a cache test mode command, SysAD(57:0) (R1205) -/
  | cacheTest (command : BitVec 58)
  deriving DecidableEq, Repr

/-! ## Coherency -/

/-- A data block under a secondary block that becomes Shared: written back if Inconsistent, then Shared (R400). DESIGN CHOICE
(notes/assumptions/43.md): a block in the refill state, whose PState is no state yet (R165, R266), is left as it is, and an access to it still
stops (R1153), where no rule says what an intervention does to it. -/
def State.dShare (s : State) (i : Nat) (pa : PAddr) (w : Bool) : State :=
  let k := wayKey i w
  let t := s.dTagAt k
  if t.state != .invalid && t.tag == pageOf pa && t.mod != 0b100#3 then
    (s.dWriteBack i w).setDTag k { dTagOf t.tag .shared 0b001#3 t.scWay with tagParity := t.tagParity }
  else s

/-- The data blocks of `n` data-block sized pieces from pa on become Shared; the tags read are checked (R307, R308). -/
def State.shareFrom (s : State) (pidx : BitVec 2) (pa : PAddr) : Nat → State
  | 0 => s
  | n + 1 =>
    let i := dSet (aliasVa pidx pa)
    (((s.checkDTags i (BitVec.ofNat 9 i ++ 0#2)).dShare i pa false).dShare i pa true).shareFrom pidx (pa + 32#40) n

/-- Whether a tag of the data set of an address has an error. -/
def State.dTagError (s : State) (pidx : BitVec 2) (pa : PAddr) : Bool :=
  let i := dSet (aliasVa pidx pa)
  (s.dTagAt (wayKey i false)).bad || (s.dTagAt (wayKey i true)).bad

/-- The quadwords of the block at an address that a coherency data response marks bad, but for those that the secondary cache has wrong:
all if the tags interrogated have an uncorrectable error, `tagBad` in the secondary cache; else those with an error in the data
that the data cache sends (R307). -/
def State.responseFlags (s : State) (tagBad : Bool) (pidx : BitVec 2) (pa : PAddr) : List Bool :=
  let all := tagBad || (s.quadAddrs pa).any (s.dTagError pidx)
  (s.purgeFlags .inconsistent pidx pa).map fun b => all || b

/-- The way that holds the block and its tag as an external request reads them (R302). -/
def State.sExternal (s : State) (pa : PAddr) : State × Option (Bool × STag) :=
  let c0 := (s.sTagAt (s.sKey pa false)).checked
  let c1 := (s.sTagAt (s.sKey pa true)).checked
  let s1 := s.pulseCor (c0.fixed || c1.fixed)
  let s2 := if c0.bad || c1.bad then (s1.pulseUnc true).postS (s.sErrInfo pa 0 (wayPair c1.bad c0.bad)) else s1
  (s2, (hitWay (Config.bothWays s.ctr) (c0.value.holds pa) (c1.value.holds pa)).map
    fun w => (w, pickWay (c0.value, c1.value) w))

/-- A coherency data response as it is told (R397). -/
structure CoherencyData where
  /-- the state of the block, SysCmd[2:1] -/
  state : BlockState
  /-- the data quality bit, SysCmd[5], set on some doubleword -/
  error : Bool
  deriving DecidableEq, Repr

/-- What the processor drives in answer to a coherency request (R396, R400). -/
structure CoherencyResponse where
  /-- the former state of the block -/
  state : BlockState
  /-- the tag quality bit, SysState(2): an uncorrectable error in the secondary tags -/
  tagError : Bool
  /-- the data response; none: no data response -/
  data : Option CoherencyData
  deriving DecidableEq, Repr

/-- The state that the data response of a DirtyExclusive block to a request carries, the last column of Table 6-27 (R400); none: an invalidate
has no data response. -/
def CoherencyRequest.dataState (r : CoherencyRequest) : Option BlockState :=
  match r with
  | .interventionShared => some .shared
  | .interventionExclusive => some .dirtyExclusive
  | .invalidate => .none

/-- The primary caches give up or share the data of the block they hold, as an intervention asks (R400): Inconsistent data blocks go
into the secondary cache. -/
def State.intervene (s : State) (r : CoherencyRequest) (pidx : BitVec 2) (pa : PAddr) : State :=
  if r == .interventionShared then s.shareFrom pidx (s.blockBase pa) (2 ^ (s.sBlkBits - 5)) else s.purge .inconsistent pidx pa

/-- The secondary tags that an external request reads have an uncorrectable error (R307). -/
def State.sTagError (s : State) (pa : PAddr) : Bool :=
  (s.sTagAt (s.sKey pa false)).checked.bad || (s.sTagAt (s.sKey pa true)).checked.bad

/-! ### A block write pending issue (R344, R401) -/

/-- A typical entry of the outgoing buffer that a coherency request for a block hits. DESIGN CHOICE: one that an intervention has already
made a data response is no longer hit, and the request goes on to the secondary cache: R344 and R401 speak only of entries that are
block write requests (notes/assumptions/40.md). -/
def Outgoing.pending (o : Outgoing) (block : PAddr) : Bool := o.kind.isWrite && o.pa == block

/-- The block write request pending issue for the block at pa. -/
def State.pendingWrite (s : State) (pa : PAddr) : Option Outgoing := s.bus.outgoing.find? fun o => o.pending (s.blockBase pa)

/-- An entry that becomes the coherency data response to an intervention at an address; if a tag had an uncorrectable error, all its data
are marked bad (R307). -/
def Outgoing.convert (o : Outgoing) (pa : PAddr) (tagBad : Bool) : Outgoing :=
  { o with kind := .converted (quadBase pa), quads := o.quads.map fun x => (x.1, x.2 || tagBad) }

/-- Table 6-28 (R401): an intervention changes the block write request pending issue into a coherency data response, an invalidate
deletes it. -/
def State.resolveWrite (s : State) (r : CoherencyRequest) (pa : PAddr) : State :=
  let b := s.blockBase pa
  if r == .invalidate then s.setOutgoing (s.bus.outgoing.filter fun o => !o.pending b)
  else s.setOutgoing (s.bus.outgoing.map fun o => if o.pending b then o.convert pa (s.sTagError pa) else o)

/-- The response to a coherency request (R307, R396, R400, R401): a DirtyExclusive block is sent to an intervention, with the data
quality bit if a tag has an uncorrectable error, or data that are sent: those of Inconsistent data blocks, and of the secondary
quadwords that these do not replace; a block in the outgoing buffer answers as DirtyExclusive, and its data response says so too
(R401). -/
def State.coherencyResponse (s : State) (r : CoherencyRequest) (pa : PAddr) : CoherencyResponse :=
  let bad := s.sTagError pa
  match s.pendingWrite pa with
  | some o => ⟨.dirtyExclusive, bad, if r == .invalidate then .none else some ⟨.dirtyExclusive, (o.convert pa bad).quads.any Prod.snd⟩⟩
  | .none =>
    match (s.sExternal pa).2 with
    | .none => ⟨.invalid, bad, .none⟩
    | some (w, t) =>
      ⟨t.state, bad,
        if t.state == .dirtyExclusive then
          r.dataState.map fun state => ⟨state, (s.responseFlags bad t.pidx pa).any id ||
            ((s.intervene r t.pidx pa).sReadQuads (s.sKey pa w) 0 s.sQuads).bad⟩
        else .none⟩

/-- A coherency request can be answered: there is one special entry in the outgoing buffer, and an intervention that would send a
DirtyExclusive block out of the secondary cache needs it (R344). -/
def State.canAnswer (s : State) (r : CoherencyRequest) (pa : PAddr) : Bool :=
  match s.pendingWrite pa, (s.sExternal pa).2 with
  | .none, some (_, t) =>
    r == .invalidate || t.state != .dirtyExclusive || !(s.bus.outgoing.any fun o => o.kind.isSpecial)
  | _, _ => true

/-- Intervention exclusive and invalidate break the link on the linked block (R510). -/
def State.breakLinkOn (s : State) (pa : PAddr) : State :=
  if s.blockBase pa == s.link.block then s.breakLink else s

/-- The primary caches give up or share the block in way w, and a DirtyExclusive one goes into the special entry of the outgoing
buffer, as a coherency data response with the state of Table 6-27 (R344, R400). -/
def State.respond (s : State) (r : CoherencyRequest) (pa : PAddr) (w : Bool) (t : STag) : State :=
  let s1 := s.intervene r t.pidx pa
  match t.state, r.dataState with
  | .dirtyExclusive, some state =>
    s1.castOut (.special state (quadBase pa)) (s.responseFlags (s.sTagError pa) t.pidx pa) pa w
  | _, _ => s1

/-- The secondary cache answers: Table 6-27 (R400). The data response of a DirtyExclusive block goes to memory, from which the rest of
the system reads it (notes/assumptions/40.md); an invalidate discards dirty data. -/
def State.probe (s : State) (r : CoherencyRequest) (pa : PAddr) : State :=
  let x := s.sExternal pa
  let s0 := x.1
  match x.2 with
  | .none => if r == .interventionShared then s0 else s0.breakLinkOn pa
  | some (w, t) =>
    match r with
    | .interventionShared => (s0.respond r pa w t).setSTag (s.sKey pa w) { t with state := .shared, ecc := .good }
    | .interventionExclusive =>
      ((s0.respond r pa w t).setSTag (s.sKey pa w) { t with state := .invalid, ecc := .good }).breakLinkOn pa
    | .invalidate =>
      ((s0.purge .drop t.pidx pa).setSTag (s.sKey pa w) { t with state := .invalid, ecc := .good }).breakLinkOn pa

/-- Table 6-27 or Table 6-28 (R400, R401): a request is resolved in the outgoing buffer if a block write for the block is pending issue
there, else in the secondary cache. -/
def State.resolve (s : State) (r : CoherencyRequest) (pa : PAddr) : State :=
  match s.pendingWrite pa with
  | .none => s.probe r pa
  | some _ =>
    let t := (s.sExternal pa).1.resolveWrite r pa
    if r == .interventionShared then t else t.breakLinkOn pa

/-- A coherency request: the state response, which "will always be issued before an associated processor coherency data response" (R396),
and what the request does. -/
def State.coherency (s : State) (r : CoherencyRequest) (pa : PAddr) : State :=
  let x := s.coherencyResponse r pa
  (s.record (.stateResponse x.state x.tagError)).resolve r pa

/-- SysState[0] while SysStateVal* is negated: "one or more processor coherency data responses pending issue in the outgoing buffer" (R397). -/
def State.responsePending (s : State) : Bool := s.bus.outgoing.any fun o => !o.kind.isWrite

/-! ## Errors -/

/-- An error of the System interface unit: a corrected one pulses SysCorErr* (R305), another is posted (R160, R306, R308). -/
def State.systemError (s : State) (e : SystemError) : State :=
  let p := s.params.cacheErr
  match e with
  | .corrected => s.pulseCor true
  | .address => (s.pulseUnc true).postSi (errField p.source 3#2 ||| errField p.sa 1#1)
  | .command => (s.pulseUnc true).postSi (errField p.source 3#2 ||| errField p.sc 1#1)
  | .response => s.postResponse
  | .blockData pa owned w => s.postSi (s.siDataInfo pa owned (wayBit w true))

/-- An uncorrectable error of a unit is posted with a given value (R1025). -/
def State.unitError (s : State) (u : ErrorUnit) (info : Word) : State :=
  match u with
  | .instruction => s.postI info
  | .data => s.postD info
  | .secondary => s.postS info
  | .systemInterface => s.postSi info

/-- Bits of an array entry flip (D14, R316). -/
def State.flipBits (s : State) (e : ArrayError) : State :=
  match e with
  | .iTag k f =>
    let t := s.iTagAt k
    s.setITag k ⟨t.tag ^^^ f.extractLsb' 3 28, t.valid != f.getLsbD 2, t.tagParity != f.getLsbD 1,
      t.stateParity != f.getLsbD 0⟩
  | .iWord k i f =>
    let x := s.iWordAt k i
    let v := x.bits.value
    s.setIWord k i ⟨if f.extractLsb' 0 36 = 0#36 then x.bits else .raw (v ^^^ f.extractLsb' 0 36),
      some (x.parity.getD (parityBit v) != f.getLsbD 36)⟩
  | .dTag k f =>
    let t := s.dTagAt k
    s.setDTag k ⟨t.tag ^^^ f.extractLsb' 8 28, BlockState.ofBits (t.state.bits ^^^ f.extractLsb' 6 2),
      t.mod ^^^ f.extractLsb' 3 3, t.scWay != f.getLsbD 2, t.tagParity != f.getLsbD 1, t.stateParity != f.getLsbD 0⟩
  | .dWord k i f =>
    let x := s.dWordAt k i
    s.setDWord k i ⟨x.data ^^^ f.extractLsb' 0 32, x.parity ^^^ f.extractLsb' 32 4⟩
  | .sTag k f =>
    let t := s.sTagAt k
    s.setSTag k ⟨t.tag ^^^ f.extractLsb' 11 22, t.pidx ^^^ f.extractLsb' 9 2,
      BlockState.ofBits (t.state.bits ^^^ f.extractLsb' 7 2), .given (t.eccBits ^^^ f.extractLsb' 0 7)⟩
  | .sQuad k q f =>
    let x := s.sQuadAt k q
    s.setSQuad k q ⟨x.data ^^^ f.extractLsb' 0 128, .given (x.checkBits ^^^ f.extractLsb' 128 10)⟩

/-! ## The pins and other agents -/

/-- SysWrRdy* (R331): asserted, it lets the outgoing buffer go out, and then, for the uncached requests have "the lowest priority"
(R349), everything that is ready in the uncached buffer, and the FIFO empty. -/
def State.setWriteReady (s : State) (b : Bool) : State :=
  let t : State := { s with bus := { s.bus with wrRdy := b } }
  if b then t.sendOutgoing.flushBuffer else t

/-- The levels that boundary scan finds on the pins (R1135), from those that the environment gives: SysWrRdy* and SysGblPerf* are what
the state holds, negated high, and SysState[0] is the pending indication of R397 if SysStateVal* is negated. DESIGN CHOICE (notes/assumptions/42.md): a pin that boundary
scan drives has any level that the environment gives, for R1135 does not say what its cell observes, and so have SysCorErr* and SysUncErr*,
whose pulses last one SysClk cycle and may be over. -/
def State.pinLevels (s : State) (pins : BitVec 333) : BitVec 333 :=
  let v := (Pin.single "SysWrRdy*").put (!s.bus.wrRdy) ((Pin.single "SysGblPerf*").put (!s.bus.gblPerf) pins)
  if (Pin.single "SysStateVal*").bit.any pins.getLsbD then (Pin.sysState 0).put s.responsePending v else v

/-! ## Interrupts and resets -/

/-- An external interrupt request: the enabled bits take their values (R420). -/
def State.interruptRequest (s : State) (enables values : BitVec 5) : State :=
  { s with pending := { s.pending with interrupt := mergeMask enables s.pending.interrupt values } }

/-- Data cache blocks left in the refill state (R1153). -/
def State.leaveRefilling (s : State) : List Nat → State
  | [] => s
  | k :: l => (s.setDTag k { s.dTagAt k with mod := 0b100#3 }).leaveRefilling l

/-- The mode bits are loaded (R1150, R1203, R1204): with CTM set the processor is held in cache test mode, whose other outputs are
undefined (R1201), else a Cold Reset is due at the next step. DESIGN CHOICE: a load while already in the mode forgets the last command, so that no auto-increment
command can follow it, which the spec does not say (R1203; notes/assumptions/45.md). -/
def State.loadModeBits (s : State) (m : DWord) : State :=
  if m.getLsbD 31 then ({ s.coldReset m with ctm := ⟨true, .none⟩, held := .none } : State).ctmOutputs
  else { s with ctm := ⟨false, .none⟩, pending := { s.pending with coldReset := some m } }

/-- No field of the mode bits holds a reserved value: "A reserved value in any field is a configuration the source does not define"
(R1160). SCClkTap, whose codes are not recoverable, is electrical and not looked at. -/
def modeBitsDefined (m : DWord) : Bool :=
  !algReserved (m.extractLsb' 0 3) && m.extractLsb' 9 4 != 0#4 && (m.extractLsb' 9 4).ule 7#4 &&
    (m.extractLsb' 16 3).ule 5#3 && m.extractLsb' 19 3 != 0#3 && (m.extractLsb' 19 3).ule 5#3 &&
    m.extractLsb' 22 3 == 0#3 && !m.getLsbD 29 && m.extractLsb' 32 32 == 0#32

/-- Another agent writes lanes of the doubleword at an address (R18, R440). -/
def State.writeByAgent (s : State) (pa : PAddr) (lanes : BitVec 8) (d : DWord) : State :=
  s.setMem (Memory.writeDouble s.memEnd s.mem (doubleBase pa).toNat lanes d)

/-- The state after an event that cache test mode ignores; none where the event cannot occur. A data cycle with an unexpected request
number changes nothing: "Ignore the external response data cycle" (R315). -/
def State.deliverRunning (s : State) (e : ExternalEvent) : Option State :=
  match e with
  | .softReset l => some { s.leaveRefilling l with pending := { s.pending with softReset := true } }
  | .nmi => some { s with pending := { s.pending with nmi := true } }
  | .interrupt en v => some (s.interruptRequest en v)
  | .coherency r pa => if s.canAnswer r pa then some (s.coherency r pa) else .none
  | .systemError x => some (s.systemError x)
  | .cacheError u info => some (s.unitError u info)
  | .arrayError x => some (s.flipBits x)
  | .memory pa l d => some (s.writeByAgent pa l d)
  | .reply r => some (s.setReplies (s.bus.replies ++ [r]))
  | .strayData => some s
  | .writeReady b => some (s.setWriteReady b)
  | .globallyPerformed b => some { s with bus := { s.bus with gblPerf := b } }
  | .speculate l k va =>
    if s.params.speculativeRefills && s.maySpeculate l k va then some (s.speculate k (s.pathHint l) va) else .none
  | .jtag tms tdi pins => (s.jtag.clock s.ctr (s.pinLevels pins) tms tdi).map fun j => { s with jtag := j }
  | .coldReset _ => some s
  | .cacheTest _ => .none

/-- The state after an event; none where the source gives the event no meaning. The free values of an event are its own
(`State.fresh`). In cache test mode only the mode bits and the
commands count: "Any input signals not listed above are ignored" (R1201), and the TAP controller is held in reset by SysReset*,
which stays asserted (R1132, R1203); that another agent writes memory is no signal to the processor. DESIGN CHOICE: nor is an error that
arises in an array (D14), which the mode does not keep away, where R1201 does not say (notes/assumptions/45.md). -/
def State.deliver (s : State) (e : ExternalEvent) : Option State :=
  match e with
  | .coldReset m => if modeBitsDefined m then some (s.fresh.loadModeBits m) else .none
  | .cacheTest c => (s.ctmCommand c).map Prod.fst
  | .memory pa l d => some (s.writeByAgent pa l d)
  | .arrayError x => some (s.flipBits x)
  | e => if s.ctm.active then some s else s.fresh.deliverRunning e

end Sys2Proof.Machine

end
end

