-- ==== Sys2Proof/Safety.lean ====
section
/-! DEFINITION. The words in which claims speak of the machine: values in range, what a memory access may change, accesses that
neither cache nor TLB takes part in, and the invariants of the state. -/

noncomputable section

namespace Sys2Proof.Machine

/-! ## Values -/

/-- The register holds a 32-bit value sign-extended to 64 bits: `not NotWord(v)` (R702). -/
def FitsWord (v : DWord) : Prop := -2 ^ 31 ≤ v.toInt ∧ v.toInt < 2 ^ 31

/-- The signed 32-bit number that agrees with an integer in its low 32 bits. -/
def wrap32 (x : Int) : Int := Int.bmod x (2 ^ 32)

/-- A 64-bit register value for an integer, modulo 2^64. -/
def reg64 (x : Int) : DWord := BitVec.ofInt 64 x

/-- The unsigned number in n bytes of memory from address a on, in a byte order (R230). -/
def bytesAt (be : Bool) (m : List Host.Cell) (a : Nat) : Nat → Nat
  | 0 => 0
  | n + 1 =>
    if be then bytesAt be m a n * 256 + (Memory.read m (a + n)).toNat
    else bytesAt be m a n + (Memory.read m (a + n)).toNat * 256 ^ n

/-- Byte i, in address order, of the n-byte number v (R230). -/
def byteOf (be : Bool) (v : Nat) (n i : Nat) : Nat := v / 256 ^ (if be then n - 1 - i else i) % 256

/-! ## What an access may change -/

/-- Between s and t only the caches, memory, the load link, the delayed Watch, the posted errors, and the traffic of the System
interface (the uncached and the outgoing buffer, what it sent, the answers to come, a hang, the error pulses) may differ. -/
structure State.SameCore (s t : State) : Prop where
  int : t.int = s.int
  pc : t.pc = s.pc
  delay : t.delay = s.delay
  fp : t.fp = s.fp
  cp0 : t.cp0 = s.cp0
  perf : t.perf = s.perf
  tlb : t.tlb = s.tlb
  bpt : t.bpt = s.bpt
  interrupt : t.pending.interrupt = s.pending.interrupt
  timer : t.pending.timer = s.pending.timer
  nmi : t.pending.nmi = s.pending.nmi
  softReset : t.pending.softReset = s.pending.softReset
  coldReset : t.pending.coldReset = s.pending.coldReset
  waited : t.pending.waited = s.pending.waited
  modeBits : t.bus.modeBits = s.bus.modeBits
  errAddrs : t.bus.errAddrs = s.bus.errAddrs
  wrRdy : t.bus.wrRdy = s.bus.wrRdy
  gblPerf : t.bus.gblPerf = s.bus.gblPerf
  jtag : t.jtag = s.jtag
  ctm : t.ctm = s.ctm
  ctr : t.ctr = s.ctr
  note : t.note = s.note
  held : t.held = s.held
  params : t.params = s.params

/-! ## Accesses without cache and TLB -/

/-- Physical address of a kseg1 address (R187). -/
def kseg1Pa (va : DWord) : Nat := va.toNat - 0xFFFFFFFFA0000000

/-- A naturally aligned n-byte data access in kseg1: Kernel mode, no watchpoint on it, an empty uncached buffer, and an external
agent that accepts writes (SysWrRdy* asserted) and answers reads with what memory holds. -/
structure State.Plain (s : State) (va : DWord) (n : Nat) (store : Bool) : Prop where
  kernel : s.mode = .kernel
  low : 0xFFFFFFFFA0000000 ≤ va.toNat
  high : va.toNat < 0xFFFFFFFFC0000000
  aligned : va.toNat % n = 0
  watch : s.watchMatch (BitVec.ofNat 40 (kseg1Pa va)) store = false
  gather : s.bus.gather = .idle
  ready : s.bus.ready = []
  fifo : s.bus.fifo = []
  wrRdy : s.bus.wrRdy = true
  replies : s.bus.replies = []
  noError : s.bus.errAddrs = []

/-- A byte access takes no alignment. -/
abbrev State.PlainByte (s : State) (va : DWord) (store : Bool) : Prop := s.Plain va 1 store

/-- A CACHE operation at a virtual address reaches the caches: CP0 is usable, the address translates to pa under a cached
algorithm (R533, R534), its bit 1 is clear, and no block cast out before it waits in the outgoing buffer (R541). -/
structure State.ReachesCaches (s : State) (va : DWord) (pa : PAddr) : Prop where
  usable : s.cp0Usable = true
  aligned : (s.dataAddress va).getLsbD 1 = false
  cached : ∃ p, s.translate (s.dataAddress va) .cacheOp = .ok p ∧ p.pa = pa ∧ algCached p.alg = true
  outgoing : s.bus.outgoing = []

/-- The uncached attribute of an access in kseg1: bits 58:57 of its address, or what the parameter CompatSegUncachedAttr says (R219). -/
def State.kseg1Attr (s : State) : BitVec 2 := s.params.compatAttr.getD 3#2

/-- The state after one read request on the System interface: a double, single or partial-word read of n bytes at a physical address,
by an access in kseg1 (R350, R440). -/
def State.afterRead (s : State) (pa n : Nat) : State :=
  { s with bus := { s.bus with sent := s.bus.sent ++ [.read (BitVec.ofNat 40 pa) n s.kseg1Attr] } }

/-- Between s and t the System interface made one write request more: a double, single or partial-word write of n bytes at a physical
address, by an access in kseg1, with the write cause 1 of an uncached store (R359, R371, R440). -/
def State.WroteOnce (s t : State) (pa n : Nat) : Prop :=
  ∃ g, t.bus = { s.bus with sent := s.bus.sent ++ [.single (BitVec.ofNat 40 pa) 1#2 s.kseg1Attr g] } ∧
    laneCount g.lanes = n

/-- Besides the pc and the link, only the caches, memory, CP0, the posted errors, the error pulses, the outgoing buffer and the record of
what the System interface sent differ. -/
def State.OnlyCachesAndErrors (s t : State) : Prop :=
  t = { s.breakLink.advance with
    caches := t.caches, mem := t.mem, cp0 := t.cp0
    pending := { s.pending with
      iErr := t.pending.iErr, dErr := t.pending.dErr, sErr := t.pending.sErr, siErr := t.pending.siErr }
    bus := { s.bus with
      corErr := t.bus.corErr, uncErr := t.bus.uncErr, outgoing := t.bus.outgoing, sent := t.bus.sent } }

/-- Between s and t nothing went out to memory. -/
def State.NothingOut (s t : State) : Prop :=
  t.mem = s.mem ∧ t.bus.outgoing = s.bus.outgoing ∧ t.bus.sent = s.bus.sent

/-- Entry k of the secondary cache, whose quadwords had right check bits, was written back to memory at a block address if its tag was
DirtyExclusive. With SysWrRdy* asserted the block has gone out, and memory has it; else memory is as before, and has it once the
outgoing buffer is sent (R344, R347). Memory then holds the quadwords that t's data array holds, which are s's if no data block was
Inconsistent; every byte outside the block is as before, and without a write back every byte. -/
def State.WrittenBack (s t : State) (k : Nat) (base : PAddr) : Prop :=
  let m := t.sendOutgoing.mem
  (s.bus.wrRdy = true → t.bus.outgoing = [] ∧ t.mem = m) ∧ (s.bus.wrRdy = false → t.mem = s.mem) ∧
  (∀ a, a < base.toNat ∨ base.toNat + 2 ^ s.sBlkBits ≤ a ∨ (s.sTagRead k).state ≠ .dirtyExclusive →
    Memory.read m a = Memory.read s.mem a) ∧
  ((∀ q < s.sQuads, (s.sQuadAt k q).check = .good) → (s.sTagRead k).state = .dirtyExclusive → ∀ q < s.sQuads,
    Memory.readDouble s.memEnd m (base.toNat + 16 * q) = (t.sQuadAt k q).data.extractLsb' 64 64 ∧
    Memory.readDouble s.memEnd m (base.toNat + 16 * q + 8) = (t.sQuadAt k q).data.extractLsb' 0 64) ∧
  ((∀ d, (s.dTagAt d).inconsistent = false) → t.caches.sData = s.caches.sData)

/-! ## Control flow -/

/-- From s, control is in the delay slot of a branch that goes to `target` (none: not taken). Besides the pc and the branch-delay
state, only the prediction table and Diagnostic.BPState may differ (R861, R865). -/
def State.InSlotOf (s t : State) (target : Option DWord) : Prop :=
  t = { s with
    pc := s.pc + 4#64, delay := .slot target, bpt := t.bpt
    cp0 := { s.cp0 with diagBpState := t.cp0.diagBpState } }

/-! ## The parts of an unaligned transfer -/

/-- How many bytes of the n-byte unit around an address lie at or above it in significance order: the left forms transfer the
bytes from the address on towards the end of the unit that holds the least significant byte (R820). -/
def leftCount (be : Bool) (va : DWord) (n : Nat) : Nat := if be then n - va.toNat % n else va.toNat % n + 1

/-- How many bytes a right form transfers (R821). -/
def rightCount (be : Bool) (va : DWord) (n : Nat) : Nat := if be then va.toNat % n + 1 else n - va.toNat % n

/-- The unsigned number of the bytes a left form transfers, and of those a right form transfers, in kseg1. -/
def leftBytes (s : State) (va : DWord) (n : Nat) : Nat :=
  bytesAt s.memEnd s.mem (if s.memEnd then kseg1Pa va else kseg1Pa va - va.toNat % n) (leftCount s.memEnd va n)

/-- The right form's bytes. -/
def rightBytes (s : State) (va : DWord) (n : Nat) : Nat :=
  bytesAt s.memEnd s.mem (if s.memEnd then kseg1Pa va - va.toNat % n else kseg1Pa va) (rightCount s.memEnd va n)

/-! ## Loads and stores, listed -/

/-- A load or store: the instruction, its address, the number of which the address must be a multiple, and, for an address in kseg1,
the physical address of the first byte it reads or writes, and how many. -/
structure MemForm where
  /-- the instruction -/
  instr : Instr
  /-- its address -/
  va : DWord
  /-- its alignment -/
  align : Nat
  /-- the first byte -/
  start : Nat := kseg1Pa va
  /-- the number of bytes -/
  count : Nat := align

/-- A store: also the unsigned number that its bytes then hold. -/
structure StoreForm extends MemForm where
  /-- what they hold -/
  value : Nat

/-- A doubleword of a floating-point register may be named: FR = 1 or an even number (R622). -/
def State.evenOrFr (s : State) (n : BitVec 5) : Bool := s.fr || !n.getLsbD 0

/-- The loads that the current mode has (R472, R473), the floating-point ones where CP1 is usable (R806 to R812, R820 to R823, R830 to
R837, R511, R512). -/
def State.loadForms (s : State) (base index rt : BitVec 5) (off : BitVec 16) : List MemForm :=
  let va := s.ea base off
  let vx := s.eaIndexed base index
  let pa := kseg1Pa va
  [{ instr := .lb base rt off, va := va, align := 1 }, { instr := .lbu base rt off, va := va, align := 1 },
    { instr := .lh base rt off, va := va, align := 2 }, { instr := .lhu base rt off, va := va, align := 2 },
    { instr := .lw base rt off, va := va, align := 4 }, { instr := .ll base rt off, va := va, align := 4 },
    ⟨.lwl base rt off, va, 1, if s.memEnd then pa else pa - va.toNat % 4, leftCount s.memEnd va 4⟩,
    ⟨.lwr base rt off, va, 1, if s.memEnd then pa - va.toNat % 4 else pa, rightCount s.memEnd va 4⟩] ++
  (if s.mips3 then [{ instr := .lwu base rt off, va := va, align := 4 }, { instr := .ld base rt off, va := va, align := 8 },
    { instr := .lld base rt off, va := va, align := 8 },
    ⟨.ldl base rt off, va, 1, if s.memEnd then pa else pa - va.toNat % 8, leftCount s.memEnd va 8⟩,
    ⟨.ldr base rt off, va, 1, if s.memEnd then pa - va.toNat % 8 else pa, rightCount s.memEnd va 8⟩] else []) ++
  (if s.cu1 then { instr := .lwc1 base rt off, va := va, align := 4 } ::
    (if s.mips4 then [{ instr := .lwxc1 base index rt, va := vx, align := 4 }] else []) else []) ++
  (if s.cu1 && s.evenOrFr rt then { instr := .ldc1 base rt off, va := va, align := 8 } ::
    (if s.mips4 then [{ instr := .ldxc1 base index rt, va := vx, align := 8 }] else []) else [])

/-- The stores that the current mode has, but for Store Conditional (R813 to R816, R824 to R827, R832 to R837). -/
def State.storeForms (s : State) (base index rt : BitVec 5) (off : BitVec 16) : List StoreForm :=
  let va := s.ea base off
  let vx := s.eaIndexed base index
  let pa := kseg1Pa va
  let px := kseg1Pa vx
  let r := (s.gpr rt).toNat
  let c4 := leftCount s.memEnd va 4
  let c8 := leftCount s.memEnd va 8
  [⟨⟨.sb base rt off, va, 1, pa, 1⟩, r⟩, ⟨⟨.sh base rt off, va, 2, pa, 2⟩, r⟩, ⟨⟨.sw base rt off, va, 4, pa, 4⟩, r⟩,
    ⟨⟨.swl base rt off, va, 1, if s.memEnd then pa else pa - va.toNat % 4, c4⟩, r % 2 ^ 32 / 256 ^ (4 - c4)⟩,
    ⟨⟨.swr base rt off, va, 1, if s.memEnd then pa - va.toNat % 4 else pa, rightCount s.memEnd va 4⟩, r⟩] ++
  (if s.mips3 then [⟨⟨.sd base rt off, va, 8, pa, 8⟩, r⟩,
    ⟨⟨.sdl base rt off, va, 1, if s.memEnd then pa else pa - va.toNat % 8, c8⟩, r / 256 ^ (8 - c8)⟩,
    ⟨⟨.sdr base rt off, va, 1, if s.memEnd then pa - va.toNat % 8 else pa, rightCount s.memEnd va 8⟩, r⟩] else []) ++
  (if s.cu1 then ⟨⟨.swc1 base rt off, va, 4, pa, 4⟩, (s.fpr32 rt).toNat⟩ ::
    (if s.mips4 then [⟨⟨.swxc1 base index rt, vx, 4, px, 4⟩, (s.fpr32 rt).toNat⟩] else []) else []) ++
  (if s.cu1 && s.evenOrFr rt then ⟨⟨.sdc1 base rt off, va, 8, pa, 8⟩, (s.fpr rt).toNat⟩ ::
    (if s.mips4 then [⟨⟨.sdxc1 base index rt, vx, 8, px, 8⟩, (s.fpr rt).toNat⟩] else []) else [])

/-- Store Conditional. -/
def State.scForms (s : State) (base rt : BitVec 5) (off : BitVec 16) : List MemForm :=
  { instr := .sc base rt off, va := s.ea base off, align := 4 } ::
    (if s.mips3 then [{ instr := .scd base rt off, va := s.ea base off, align := 8 }] else [])

/-- What instruction i does if the data address a cannot be translated (R200, R801, R802, R1031 to R1036). -/
def State.TrapsUntranslated (s : State) (i : Instr) (store : Bool) (a : DWord) : Prop :=
  let kind := if store then Access.store else .load
  (s.translate a kind = .addressError → exec i s = .next (s.addressError store a)) ∧
  (s.translate a kind = .refill → exec i s = .next (s.tlbRefill store a)) ∧
  (s.translate a kind = .invalid → exec i s = .next (s.tlbInvalid store a)) ∧
  (s.translate a kind = .modified → exec i s = .next (s.tlbModified a))

/-- WatchLo and WatchHi name the doubleword of a kseg1 address, and a kind of access (R130, R1055). -/
abbrev State.Watched (s : State) (va : DWord) (store : Bool) : Prop :=
  s.cp0.watchHi.extractLsb' 0 8 = (BitVec.ofNat 40 (kseg1Pa va)).extractLsb' 32 8 ∧
    s.cp0.watchLo.extractLsb' 3 29 = (BitVec.ofNat 40 (kseg1Pa va)).extractLsb' 3 29 ∧
    s.cp0.watchLo.getLsbD (if store then 0 else 1) = true

/-- An address of kseg1, aligned. -/
abbrev InKseg1 (va : DWord) (n : Nat) : Prop :=
  0xFFFFFFFFA0000000 ≤ va.toNat ∧ va.toNat < 0xFFFFFFFFC0000000 ∧ va.toNat % n = 0

/-- Nothing is in the uncached buffer, and the external agent takes writes and answers at once. -/
def State.QuietBus (s : State) : Prop :=
  s.bus.gather = .idle ∧ s.bus.ready = [] ∧ s.bus.fifo = [] ∧ s.bus.wrRdy = true ∧ s.bus.replies = []

/-! ## Coherent caches -/

/-- The block that entry k of the data cache holds. -/
def State.dAddr (s : State) (k : Nat) : PAddr := dBlockAddr (s.dTagAt k).tag (k / 2)

/-- The block that entry k of the instruction cache holds. -/
def State.iAddr (s : State) (k : Nat) : PAddr := (s.iTagAt k).tag ++ BitVec.ofNat 6 (k / 2) ++ 0#6

/-- The primary blocks that lie in the secondary block at an address, with its alias bits, VA[13:12], in their index, are Invalid in t,
and no other primary block changed (R278, R547, R550, R553). -/
def State.PrimariesEmptied (s t : State) (pidx : BitVec 2) (base : PAddr) : Prop :=
  (∀ k < 1024, (s.dTagAt k).state ≠ .invalid ∧ k / 256 = pidx.toNat ∧ s.blockBase (s.dAddr k) = base →
    (t.dTagAt k).state = .invalid) ∧
  (∀ k < 512, (s.iTagAt k).valid = true ∧ k / 128 = pidx.toNat ∧ s.blockBase (s.iAddr k) = base → (t.iTagAt k).valid = false) ∧
  (∀ k < 1024, t.dTagAt k ≠ s.dTagAt k → k / 256 = pidx.toNat ∧ s.blockBase (s.dAddr k) = base) ∧
  (∀ k < 512, t.iTagAt k ≠ s.iTagAt k → k / 128 = pidx.toNat ∧ s.blockBase (s.iAddr k) = base)

/-- Entry k of the data cache holds a block that a purge of the secondary block at an address, of these alias bits, writes back: an
Inconsistent one (R553), or, with `dirty`, one that is DirtyExclusive too (R547). -/
def State.WritesInto (s : State) (dirty : Bool) (pidx : BitVec 2) (base : PAddr) (k : Nat) : Prop :=
  k < 1024 ∧ (s.dTagAt k).state ≠ .invalid ∧ k / 256 = pidx.toNat ∧ s.blockBase (s.dAddr k) = base ∧
    (s.dTagAt k).inconsistent = true ∧ (dirty = true → (s.dTagAt k).state = .dirtyExclusive)

/-- The secondary data array of t is that of s, but that each data block which `State.WritesInto` names has reached the two quadwords
that its tag and SCWay name, "before the secondary block is written back" (R536, R547, R553); two entries of one set that hold the
same block may name the same two. -/
def State.PrimaryDataMerged (s t : State) (dirty : Bool) (pidx : BitVec 2) (base : PAddr) : Prop :=
  let key (k : Nat) : Nat := s.sKey (s.dAddr k) (s.dTagAt k).scWay
  let at_ (k : Nat) : Nat := s.sQuadIndex (s.dAddr k)
  (∀ k, s.WritesInto dirty pidx base k →
    (∀ j, j / 2 = k / 2 → j ≠ k → (s.dTagAt j).state ≠ .invalid → s.dAddr j ≠ s.dAddr k) →
    t.sQuadAt (key k) (at_ k) = ⟨s.dDouble k 0 ++ s.dDouble k 1, .good⟩ ∧
    t.sQuadAt (key k) (at_ k + 1) = ⟨s.dDouble k 2 ++ s.dDouble k 3, .good⟩) ∧
  (∀ e, ∀ q < s.sQuads, (∀ k, s.WritesInto dirty pidx base k → e = key k → q ≠ at_ k ∧ q ≠ at_ k + 1) →
    t.sQuadAt e q = s.sQuadAt e q)

/-- Entry k of the data cache lies in a block of the secondary cache that has its alias bits, is DirtyExclusive if it is, and, unless
it is Inconsistent, has its data (R267, R268, R278, R290). -/
def State.DataInSecondary (s : State) (k : Nat) : Prop :=
  let t := s.dTagAt k
  let key := s.sKey (s.dAddr k) t.scWay
  let e := s.sTagAt key
  e.holds (s.dAddr k) = true ∧ e.pidx.toNat = k / 256 ∧ s.dBlockOk k = true ∧
    (t.inconsistent = true → t.state = .dirtyExclusive) ∧ (t.state = .dirtyExclusive → e.state = .dirtyExclusive) ∧
    (t.inconsistent = false → ∀ j < 4,
      s.dDouble k j = (s.sQuadAt key (s.sQuadIndex (s.dAddr k) + j / 2)).data.extractLsb' (if j % 2 = 0 then 64 else 0) 64)

/-- The data and secondary caches hold no error, no block twice, no entry in the wrong place, and agree with each other and with
memory, once it has the blocks of the outgoing buffer, as the protocol of R267 to R290 keeps them. -/
structure State.Coherent (s : State) : Prop where
  dTags : ∀ k < 1024, (s.dTagAt k).bad = false ∧ (s.dTagAt k).mod ≠ 0b100#3 ∧
    ((s.dTagAt k).state = .invalid → (s.dTagAt k).inconsistent = false)
  inclusion : ∀ k < 1024, (s.dTagAt k).state ≠ .invalid → s.DataInSecondary k
  dOnce : ∀ j < 1024, ∀ k < 1024, (s.dTagAt j).state ≠ .invalid → (s.dTagAt k).state ≠ .invalid → s.dAddr j = s.dAddr k → j = k
  sGood : ∀ k, (s.sTagAt k).ecc = .good ∧ ∀ q, (s.sQuadAt k q).check = .good
  sOnce : ∀ pa, ((s.sTagAt (s.sKey pa false)).holds pa && (s.sTagAt (s.sKey pa true)).holds pa) = false
  sPlace : ∀ pa w, (s.sTagAt (s.sKey pa w)).state ≠ .invalid →
    s.sKey (s.sBlockAddr (s.sTagAt (s.sKey pa w)).tag pa) w = s.sKey pa w
  outgoing : ∀ o ∈ s.bus.outgoing, o.pa = s.blockBase o.pa ∧ o.quads.length = s.sQuads
  clean : ∀ pa w, (s.sTagAt (s.sKey pa w)).holds pa = true → (s.sTagAt (s.sKey pa w)).state ≠ .dirtyExclusive →
    ∀ q < s.sQuads, (s.sQuadAt (s.sKey pa w) q).data =
      Memory.readDouble s.memEnd s.sendOutgoing.mem ((s.blockBase pa).toNat + 16 * q) ++
        Memory.readDouble s.memEnd s.sendOutgoing.mem ((s.blockBase pa).toNat + 16 * q + 8)

/-- The access of n bytes at an address goes to a physical address, through the caches or past them. -/
def State.GoesTo (s : State) (va : DWord) (kind : Access) (cached : Bool) (pa : PAddr) : Prop :=
  ∃ p, s.translate (s.dataAddress va) kind = .ok p ∧ p.pa = pa ∧ algCached p.alg = cached

/-! ## Encodings, written out (R452) -/

/-- A word of the R-type format. -/
def wordR (op : BitVec 6) (rs rt rd sa : BitVec 5) (fn : BitVec 6) : Word := op ++ rs ++ rt ++ rd ++ sa ++ fn

/-- A word of the I-type format. -/
def wordI (op : BitVec 6) (rs rt : BitVec 5) (imm : BitVec 16) : Word := op ++ rs ++ rt ++ imm

/-- A word of the J-type format. -/
def wordJ (op : BitVec 6) (target : BitVec 26) : Word := op ++ target

/-- A word of the SPECIAL format with a ten-bit code (R464). -/
def wordTrap (rs rt : BitVec 5) (code : BitVec 10) (fn : BitVec 6) : Word := 0b000000#6 ++ rs ++ rt ++ code ++ fn

/-- A check that the class of a word takes first (R478), with its exception. -/
inductive ClassCheck where
  /-- MIPS III, else Reserved Instruction -/
  | mips3
  /-- MIPS IV, else Reserved Instruction -/
  | mips4
  /-- coprocessor 1, else Coprocessor Unusable -/
  | cp1
  /-- MIPS III for a format L, else Unimplemented Operation -/
  | long
  /-- MIPS IV for a function of opcode COP1, else Unimplemented Operation -/
  | fp4
  deriving DecidableEq, Repr

/-- Whether a check lets the word go on. -/
def ClassCheck.passes (c : ClassCheck) (s : State) : Bool :=
  match c with
  | .mips3 | .long => s.mips3
  | .mips4 | .fp4 => s.mips4
  | .cp1 => s.cu1

/-- The exception of a check. -/
def ClassCheck.trap (c : ClassCheck) (s : State) : State :=
  match c with
  | .mips3 | .mips4 => s.takeException 10#5
  | .cp1 => s.coprocessorUnusable 1
  | .long | .fp4 => { s with fp := { s.fp with fsr := (s.fp.fsr &&& 0xFFFC0FFF#32) ||| 0x00020000#32 } }.takeException 15#5

/-- A must-be-zero field outside COP0. -/
structure ZeroField where
  /-- the bits that select the instructions -/
  mask : Word
  /-- their value -/
  value : Word
  /-- the field -/
  field : Word
  /-- the checks that come first, in order -/
  checks : List ClassCheck

/-- The must-be-zero fields of opcode SPECIAL, and of the opcodes without functions (R452 to R457, R461, R470). -/
def zeroFieldsInteger : List ZeroField :=
  ([0x00, 0x02, 0x03].map fun fn => ⟨0xFC00003F, fn, 0x03E00000, []⟩) ++
  ([0x38, 0x3A, 0x3B, 0x3C, 0x3E, 0x3F].map fun fn => ⟨0xFC00003F, fn, 0x03E00000, [.mips3]⟩) ++
  ([0x04, 0x06, 0x07, 0x20, 0x21, 0x22, 0x23, 0x24, 0x25, 0x26, 0x27, 0x2A, 0x2B].map fun fn =>
    ⟨0xFC00003F, fn, 0x000007C0, []⟩) ++
  ([0x14, 0x16, 0x17, 0x2C, 0x2D, 0x2E, 0x2F].map fun fn => ⟨0xFC00003F, fn, 0x000007C0, [.mips3]⟩) ++
  ([0x0A, 0x0B].map fun fn => ⟨0xFC00003F, fn, 0x000007C0, [.mips4]⟩) ++
  ([0x18, 0x19, 0x1A, 0x1B].map fun fn => ⟨0xFC00003F, fn, 0x0000FFC0, []⟩) ++
  ([0x1C, 0x1D, 0x1E, 0x1F].map fun fn => ⟨0xFC00003F, fn, 0x0000FFC0, [.mips3]⟩) ++
  ([0x08, 0x11, 0x13].map fun fn => ⟨0xFC00003F, fn, 0x001FFFC0, []⟩) ++
  ([0x10, 0x12].map fun fn => ⟨0xFC00003F, fn, 0x03FF07C0, []⟩) ++
  [⟨0xFC00003F, 0x01, 0x000207C0, [.mips4, .cp1]⟩, ⟨0xFC00003F, 0x09, 0x001F07C0, []⟩, ⟨0xFC00003F, 0x0F, 0x03FFFFC0, []⟩] ++
  ([0x18000000, 0x1C000000, 0x58000000, 0x5C000000].map fun w => ⟨0xFC000000, w, 0x001F0000, []⟩) ++
  [⟨0xFC000000, 0x3C000000, 0x03E00000, []⟩]

/-- The must-be-zero fields of opcodes COP1 and COP1X (R459, R460, R462, R470). -/
def zeroFieldsFloat : List ZeroField :=
  ([0x44000000, 0x44400000, 0x44800000, 0x44C00000].map fun w => ⟨0xFFE00000, w, 0x000007FF, [.cp1]⟩) ++
  ([0x44200000, 0x44A00000].map fun w => ⟨0xFFE00000, w, 0x000007FF, [.cp1, .mips3]⟩) ++
  ([0x46000000, 0x46200000].flatMap fun w =>
    ([0x04, 0x05, 0x06, 0x07, 0x0C, 0x0D, 0x0E, 0x0F, 0x24].map fun fn => ⟨0xFFE0003F, w + fn, 0x001F0000, [.cp1]⟩) ++
    ([0x08, 0x09, 0x0A, 0x0B, 0x25].map fun fn => ⟨0xFFE0003F, w + fn, 0x001F0000, [.cp1, .long]⟩) ++
    ([0x15, 0x16].map fun fn => ⟨0xFFE0003F, w + fn, 0x001F0000, [.cp1, .fp4]⟩) ++
    [⟨0xFFE0003F, w + 0x11, 0x00020000, [.cp1, .fp4]⟩, ⟨0xFFE00730, w + 0x30, 0x000000C0, [.cp1]⟩] ++
    ([1, 2, 3, 4, 5, 6, 7].map fun cc => ⟨0xFFE00730, w + 0x30 + (cc <<< 8), 0x000000C0, [.cp1, .fp4]⟩)) ++
  ([0x46000021, 0x46200020, 0x46800020, 0x46800021].map fun w => ⟨0xFFE0003F, w, 0x001F0000, [.cp1]⟩) ++
  ([0x46A00020, 0x46A00021].map fun w => ⟨0xFFE0003F, w, 0x001F0000, [.cp1, .long]⟩) ++
  ([0x4C000000, 0x4C000001].map fun w => ⟨0xFC00003F, w, 0x0000F800, [.mips4, .cp1]⟩) ++
  ([0x4C000008, 0x4C000009, 0x4C00000F].map fun w => ⟨0xFC00003F, w, 0x000007C0, [.mips4, .cp1]⟩)

/-! ## Lists of instructions -/

/-- The CACHE operations. -/
def cacheInstructions (base : BitVec 5) (offset : BitVec 16) : List Instr :=
  [.cacheIndexInvalidateI base offset, .cacheIndexLoadTagI base offset, .cacheIndexStoreTagI base offset,
    .cacheHitInvalidateI base offset, .cacheBarrier base offset, .cacheIndexLoadDataI base offset,
    .cacheIndexStoreDataI base offset, .cacheIndexWritebackInvalidateD base offset, .cacheIndexLoadTagD base offset,
    .cacheIndexStoreTagD base offset, .cacheHitInvalidateD base offset, .cacheHitWritebackInvalidateD base offset,
    .cacheIndexLoadDataD base offset, .cacheIndexStoreDataD base offset, .cacheIndexWritebackInvalidateS base offset,
    .cacheIndexLoadTagS base offset, .cacheIndexStoreTagS base offset, .cacheHitInvalidateS base offset,
    .cacheHitWritebackInvalidateS base offset, .cacheIndexLoadDataS base offset, .cacheIndexStoreDataS base offset]

/-- The CP0 instructions, CACHE among them (R80). -/
def cp0Instructions (rt rd reg base : BitVec 5) (offset : BitVec 16) : List Instr :=
  [.mfc0 rt rd, .mtc0 rt rd, .dmfc0 rt rd, .dmtc0 rt rd, .mfpc rt reg, .mtpc rt reg, .mfps rt reg, .mtps rt reg, .tlbr,
    .tlbwi, .tlbwr, .tlbp, .eret, .rfe, .bc0f offset, .bc0t offset, .bc0fl offset, .bc0tl offset] ++
  cacheInstructions base offset

/-- The floating-point instructions of opcode COP1, compares and branches apart, and the floating-point loads and stores. -/
def cp1Instructions (rt ft fs fd base : BitVec 5) (cc : BitVec 3) (off : BitVec 16) : List Instr :=
  [.lwc1 base ft off, .ldc1 base ft off, .swc1 base ft off, .sdc1 base ft off, .mfc1 rt fs, .dmfc1 rt fs, .cfc1 rt fs,
    .mtc1 rt fs, .dmtc1 rt fs, .ctc1 rt fs, .addS ft fs fd, .subS ft fs fd, .mulS ft fs fd, .divS ft fs fd, .sqrtS fs fd,
    .absS fs fd, .movS fs fd, .negS fs fd, .recipS fs fd, .rsqrtS fs fd, .roundLS fs fd, .truncLS fs fd, .ceilLS fs fd,
    .floorLS fs fd, .roundWS fs fd, .truncWS fs fd, .ceilWS fs fd, .floorWS fs fd, .cvtWS fs fd, .cvtLS fs fd,
    .movfS cc fs fd, .movtS cc fs fd, .movzS rt fs fd, .movnS rt fs fd, .addD ft fs fd, .subD ft fs fd, .mulD ft fs fd,
    .divD ft fs fd, .sqrtD fs fd, .absD fs fd, .movD fs fd, .negD fs fd, .recipD fs fd, .rsqrtD fs fd, .roundLD fs fd,
    .truncLD fs fd, .ceilLD fs fd, .floorLD fs fd, .roundWD fs fd, .truncWD fs fd, .ceilWD fs fd, .floorWD fs fd,
    .cvtWD fs fd, .cvtLD fs fd, .movfD cc fs fd, .movtD cc fs fd, .movzD rt fs fd, .movnD rt fs fd, .cvtSD fs fd,
    .cvtSW fs fd, .cvtSL fs fd, .cvtDS fs fd, .cvtDW fs fd, .cvtDL fs fd]

/-- The instructions of opcode COP1X. -/
def cop1xInstructions (fr ft fs fd base : BitVec 5) : List Instr :=
  [.lwxc1 base ft fd, .ldxc1 base ft fd, .swxc1 base ft fs, .sdxc1 base ft fs, .prefx base ft fd, .maddS fr ft fs fd,
    .maddD fr ft fs fd, .msubS fr ft fs fd, .msubD fr ft fs fd, .nmaddS fr ft fs fd, .nmaddD fr ft fs fd,
    .nmsubS fr ft fs fd, .nmsubD fr ft fs fd]

/-- The MIPS III integer instructions, LL and SC forms among them, whose operands are any registers. -/
def mips3Instructions (a b c : BitVec 5) (imm : BitVec 16) : List Instr :=
  [.daddi a b imm, .daddiu a b imm, .dadd a b c, .daddu a b c, .dsub a b c, .dsubu a b c, .dsll a b c, .dsrl a b c,
    .dsra a b c, .dsll32 a b c, .dsrl32 a b c, .dsra32 a b c, .dsllv a b c, .dsrlv a b c, .dsrav a b c, .dmult a b,
    .dmultu a b, .ddiv a b, .ddivu a b, .ld a b imm, .sd a b imm, .lwu a b imm, .ldl a b imm, .ldr a b imm, .sdl a b imm,
    .sdr a b imm, .lld a b imm, .scd a b imm]

/-- The MIPS IV instructions of the integer unit and of opcode COP1X. -/
def mips4Instructions (a b c d : BitVec 5) (cc : BitVec 3) (imm : BitVec 16) : List Instr :=
  [.movz a b c, .movn a b c, .movf a cc b, .movt a cc b, .pref a b imm, .lwxc1 a b c, .ldxc1 a b c, .swxc1 a b c,
    .sdxc1 a b c, .prefx a b c, .maddS a b c d, .maddD a b c d, .msubS a b c d, .msubD a b c d, .nmaddS a b c d,
    .nmaddD a b c d, .nmsubS a b c d, .nmsubD a b c d]

/-- The 32-bit CP0 registers, Status and Diagnostic apart, with the bits that a write changes (R176). -/
def cp0Masks : List (BitVec 5 × Word) :=
  [(0, 0x3F), (2, 0xFFFFFFFF), (3, 0xFFFFFFFF), (4, 0xFF800000), (5, 0x01FFE000), (6, 0x3F), (8, 0), (9, 0xFFFFFFFF),
    (10, 0xFFFFE0FF), (11, 0xFFFFFFFF), (13, 0x300), (14, 0xFFFFFFFF), (15, 0), (16, 7), (17, 0xFFFFFFFF),
    (18, 0xFFFFFFFB), (19, 0xFF), (20, 0), (21, 0xFFFF), (26, 0x3FF), (27, 0), (28, 0xFFFFFFFF), (29, 0xFFFFFFFF),
    (30, 0xFFFFFFFF)]

/-- A with the register of number n as in b; Wired carries Random with it (R94, R176). A number without a register, or of one that
cannot be written, gives a. -/
def Cp0.withRegister (a b : Cp0) (n : BitVec 5) : Cp0 :=
  match n.toNat with
  | 0 => { a with index := b.index }
  | 2 => { a with entryLo0 := b.entryLo0 }
  | 3 => { a with entryLo1 := b.entryLo1 }
  | 4 => { a with context := b.context }
  | 5 => { a with pageMask := b.pageMask }
  | 6 => { a with wired := b.wired, random := b.random }
  | 9 => { a with count := b.count }
  | 10 => { a with entryHi := b.entryHi }
  | 11 => { a with compare := b.compare }
  | 12 => { a with status := b.status }
  | 13 => { a with causeIpSw := b.causeIpSw }
  | 14 => { a with epc := b.epc }
  | 16 => { a with k0 := b.k0 }
  | 17 => { a with llAddr := b.llAddr }
  | 18 => { a with watchLo := b.watchLo }
  | 19 => { a with watchHi := b.watchHi }
  | 20 => { a with xContext := b.xContext }
  | 21 => { a with frameMask := b.frameMask }
  | 22 => { a with
      diagDbrc := b.diagDbrc, diagBpMode := b.diagBpMode, diagBpState := b.diagBpState, diagBpIdx := b.diagBpIdx
      diagBpOp := b.diagBpOp, diagPending := b.diagPending }
  | 26 => { a with ecc := b.ecc }
  | 28 => { a with tagLo := b.tagLo }
  | 29 => { a with tagHi := b.tagHi }
  | 30 => { a with errorEpc := b.errorEpc }
  | _ => a

/-- The 64-bit CP0 registers, Diagnostic apart, with the bits that a write changes (R176). -/
def cp0WideMasks : List (BitVec 5 × DWord) :=
  [(2, 0xC0000003FFFFFFFF), (3, 0xC0000003FFFFFFFF), (4, 0xFFFFFFFFFF800000), (8, 0), (10, 0xC0000FFFFFFFE0FF),
    (14, 0xFFFFFFFFFFFFFFFF), (20, 0xFFFFFFE000000000), (30, 0xFFFFFFFFFFFFFFFF)]

/-- The 64-bit CP0 register of a number, Diagnostic apart (R51). -/
def Cp0.wideRegister (c : Cp0) (n : BitVec 5) : DWord :=
  match n.toNat with
  | 2 => c.entryLo0
  | 3 => c.entryLo1
  | 4 => c.context
  | 8 => c.badVAddr
  | 10 => c.entryHi
  | 14 => c.epc
  | 20 => c.xContext
  | 30 => c.errorEpc
  | _ => 0

/-- What MFC0 delivers of a CP0 register before it is sign-extended, Diagnostic apart: the register, or the low word of a 64-bit one
(R51, R582). Cause is put together from its fields, IP[7:2] from the live sources (R113, R1083); PRId is the implementation number above
the revision (R121); Config has the cache sizes, the mode bits 21:3 and K0 (R124). A number without a register gives 0 here. -/
def State.cp0Word (s : State) (n : BitVec 5) : Word :=
  let c := s.cp0
  let overflow (cnt ctl : Word) : Bool := cnt.getLsbD 31 && ctl.getLsbD 4
  let ip7 := s.pending.timer || overflow s.perf.cnt0 s.perf.ctl0 || overflow s.perf.cnt1 s.perf.ctl1
  match n.toNat with
  | 0 => c.index
  | 1 => c.random.setWidth 32
  | 2 => c.entryLo0.extractLsb' 0 32
  | 3 => c.entryLo1.extractLsb' 0 32
  | 4 => c.context.extractLsb' 0 32
  | 5 => c.pageMask
  | 6 => c.wired.setWidth 32
  | 8 => c.badVAddr.extractLsb' 0 32
  | 9 => c.count
  | 10 => c.entryHi.extractLsb' 0 32
  | 11 => c.compare
  | 12 => c.status
  | 13 => BitVec.ofBool c.causeBd ++ 0#1 ++ c.causeCe ++ 0#12 ++ BitVec.ofBool ip7 ++ s.pending.interrupt ++ c.causeIpSw ++ 0#1 ++
      c.causeCode ++ 0#2
  | 14 => c.epc.extractLsb' 0 32
  | 15 => 0x000009#24 ++ Config.pridRev
  | 16 => 0b011#3 ++ 0b011#3 ++ 0b0000#4 ++ s.bus.modeBits.extractLsb' 3 19 ++ c.k0
  | 17 => c.llAddr
  | 18 => c.watchLo
  | 19 => c.watchHi
  | 20 => c.xContext.extractLsb' 0 32
  | 21 => c.frameMask
  | 25 => s.perf.ctl0
  | 26 => c.ecc
  | 27 => c.cacheErr
  | 28 => c.tagLo
  | 29 => c.tagHi
  | 30 => c.errorEpc.extractLsb' 0 32
  | _ => 0

/-- v shows the writable fields of Diagnostic in the places of the default DiagLayout (R150); BPState is the stored one, or, while a read
of the prediction table is under way, perhaps the entry (R151). -/
def State.ShowsDiagnostic (s : State) (v : DWord) : Prop :=
  v.extractLsb' 26 38 = 0 ∧ v.extractLsb' 0 2 = s.cp0.diagBpOp ∧ v.extractLsb' 2 9 = s.cp0.diagBpIdx ∧
    v.extractLsb' 13 2 = s.cp0.diagBpMode ∧ v.getLsbD 15 = s.cp0.diagDbrc ∧
    (v.extractLsb' 11 2 = s.cp0.diagBpState ∨
      (s.cp0.diagPending = true ∧ v.extractLsb' 11 2 = Sparse.get 0#2 s.bpt s.cp0.diagBpIdx.toNat))

/-- Besides the pc, a move to CP0 register n changed that register alone, and what R176 ties to it: the timer interrupt to Count and
Compare, the delayed Watch to WatchLo, the prediction table to Diagnostic; register 25 is a performance control register. -/
def State.OnlyCp0Register (s : State) (n : BitVec 5) (t : State) : Prop :=
  t = { s.advance with
    cp0 := s.cp0.withRegister t.cp0 n
    pending := { s.pending with
      timer := if n = 9#5 ∨ n = 11#5 then t.pending.timer else s.pending.timer
      watch := if n = 18#5 then t.pending.watch else s.pending.watch }
    perf := { s.perf with ctl0 := if n = 25#5 then t.perf.ctl0 else s.perf.ctl0 }
    bpt := if n = 22#5 then t.bpt else s.bpt }

/-! ## Floating point -/

/-- What an arithmetic instruction with result r of format g does (R635, R637): the result is settled under FS; FSR.Cause is
replaced by the status; if an enabled exception or Unimplemented Operation is among it the Floating-Point exception, code 15, is
taken with the flags and the destination unchanged; else the flags accumulate and the destination receives the value. -/
def fpOutcome (s : State) (g : Fmt) (fd : BitVec 5) (r : FpRes) : Out :=
  let x := g.settle s.flush s.trapU r
  let cause := (s.fp.fsr &&& 0xFFFC0FFF#32) ||| (x.status.setWidth 32 <<< 12)
  let flags := (x.status &&& 0x1F#6).setWidth 32 <<< 2
  if x.status.getLsbD 5 = true ∨ x.status.extractLsb' 0 5 &&& s.fp.fsr.extractLsb' 7 5 ≠ 0#5 then
    .next ({ s with fp := { s.fp with fsr := cause } }.takeException 15#5)
  else .next ({ s with fp := { s.fp with fsr := cause ||| flags } }.result g fd x.value).advance

/-- Unimplemented Operation: FSR.Cause becomes 100000, and the Floating-Point exception is taken (R640). -/
def fpRefused (s : State) : Out :=
  .next ({ s with fp := { s.fp with fsr := (s.fp.fsr &&& 0xFFFC0FFF#32) ||| 0x00020000#32 } }.takeException 15#5)

/-- Instruction i is an operation on operands of format f with result r of format g: it does what `fpOutcome` says, or the unit does not
perform it, which R640 leaves open for denormalized and NaN operands alone. -/
def State.Performs (s : State) (i : Instr) (f : Fmt) (ops : List DWord) (g : Fmt) (fd : BitVec 5) (r : FpRes) : Prop :=
  (exec i s = fpOutcome s g fd r ∨ exec i s = fpRefused s) ∧
    ((∀ v ∈ ops, f.special v = false) → exec i s = fpOutcome s g fd r)

/-- A pattern is a NaN: the exponent is all ones and the fraction is not zero (R650). -/
def Fmt.NotANumber (f : Fmt) (v : DWord) : Prop :=
  match f with
  | .s => v.extractLsb' 23 8 = 0xFF#8 ∧ v.extractLsb' 0 23 ≠ 0#23
  | .d => v.extractLsb' 52 11 = 0x7FF#11 ∧ v.extractLsb' 0 52 ≠ 0#52

/-- A NaN signals if the most significant fraction bit is 1 (R650). -/
def Fmt.Signals (f : Fmt) (v : DWord) : Prop :=
  f.NotANumber v ∧ v.getLsbD (match f with | .s => 22 | .d => 51) = true

/-- A pattern is denormalized: the exponent is zero and the fraction is not (R632). -/
def Fmt.Denormalized (f : Fmt) (v : DWord) : Prop :=
  match f with
  | .s => v.extractLsb' 23 8 = 0#8 ∧ v.extractLsb' 0 23 ≠ 0#23
  | .d => v.extractLsb' 52 11 = 0#11 ∧ v.extractLsb' 0 52 ≠ 0#52

/-- The sign bit of a format. -/
def Fmt.signBit : Fmt → DWord
  | .s => 0x80000000#64
  | .d => 0x8000000000000000#64

/-- An infinity. -/
def Fmt.infinite (f : Fmt) (neg : Bool) : DWord :=
  (match f with | .s => 0x7F800000#64 | .d => 0x7FF0000000000000#64) ||| (if neg then f.signBit else 0#64)

/-- A zero. -/
def Fmt.zeroOf (f : Fmt) (neg : Bool) : DWord := if neg then f.signBit else 0#64

/-- The largest finite number. -/
def Fmt.largestFinite (f : Fmt) (neg : Bool) : DWord :=
  (match f with | .s => 0x7F7FFFFF#64 | .d => 0x7FEFFFFFFFFFFFFF#64) ||| f.zeroOf neg

/-- Rounded to the precision of a format in mode rm, with an unbounded exponent, x is 2 to a power or more in magnitude (R636): the numbers
of that precision just below the power lie one `ulp` apart. -/
def Fmt.RoundsTo (f : Fmt) (rm : BitVec 2) (power : Int) (x : ℝ) : Prop :=
  let p : Int := match f with | .s => 24 | .d => 53
  let ulp : ℝ := 2 ^ (power - p)
  if rm = 0#2 then 2 ^ power - ulp / 2 ≤ |x|
  else if (rm = 2#2 ∧ 0 < x) ∨ (rm = 3#2 ∧ x < 0) then 2 ^ power - ulp < |x|
  else 2 ^ power ≤ |x|

/-- Rounding x overflows: with an unbounded exponent it would be 2 to the power emax + 1 or more in magnitude (R650). -/
def Fmt.Overflows (f : Fmt) (rm : BitVec 2) (x : ℝ) : Prop := f.RoundsTo rm (match f with | .s => 128 | .d => 1024) x

/-- The result x is tiny: rounded with an unbounded exponent it lies below the least normal number, 2 to the power emin, in magnitude
(R650; that tininess is judged after rounding is the model's choice, notes/assumptions/20.md). -/
def Fmt.Tiny (f : Fmt) (rm : BitVec 2) (x : ℝ) : Prop := ¬ f.RoundsTo rm (match f with | .s => -126 | .d => -1022) x

/-- What an overflowed result is (R650): infinity or the largest finite number by rounding mode and sign, with O and I. -/
def Fmt.overflowed (f : Fmt) (rm : BitVec 2) (neg : Bool) : FpRes :=
  ⟨if rm = 0#2 ∨ (rm = 2#2 ∧ neg = false) ∨ (rm = 3#2 ∧ neg = true) then f.infinite neg else f.largestFinite neg, 0b000101, false⟩

/-- What an Invalid Operation delivers: the default quiet NaN, with V (R650). -/
def Fmt.invalidResult (f : Fmt) : FpRes :=
  ⟨match f with | .s => 0x7FBFFFFF#64 | .d => 0x7FF7FFFFFFFFFFFF#64, 0b010000, false⟩

/-- The sixteen compares of a format, in the order of their cond field. -/
def compares (f : Fmt) (ft fs : BitVec 5) (cc : BitVec 3) : List Instr :=
  match f with
  | .s => [.cFS ft fs cc, .cUnS ft fs cc, .cEqS ft fs cc, .cUeqS ft fs cc, .cOltS ft fs cc, .cUltS ft fs cc,
      .cOleS ft fs cc, .cUleS ft fs cc, .cSfS ft fs cc, .cNgleS ft fs cc, .cSeqS ft fs cc, .cNglS ft fs cc,
      .cLtS ft fs cc, .cNgeS ft fs cc, .cLeS ft fs cc, .cNgtS ft fs cc]
  | .d => [.cFD ft fs cc, .cUnD ft fs cc, .cEqD ft fs cc, .cUeqD ft fs cc, .cOltD ft fs cc, .cUltD ft fs cc,
      .cOleD ft fs cc, .cUleD ft fs cc, .cSfD ft fs cc, .cNgleD ft fs cc, .cSeqD ft fs cc, .cNglD ft fs cc,
      .cLtD ft fs cc, .cNgeD ft fs cc, .cLeD ft fs cc, .cNgtD ft fs cc]

/-- The value of a finite operand. -/
def finiteValue (neg : Bool) (m : Nat) (e : Int) : ℚ := (if neg then -1 else 1) * (m : ℚ) * (2 : ℚ) ^ e

/-- The value that a pattern of a format represents; none for an infinity or a NaN. -/
def Fmt.value (f : Fmt) (v : DWord) : Option ℚ :=
  match f.unpack v with
  | .fin neg n q => some (finiteValue neg n q)
  | _ => .none

/-- A result is x rounded in mode rm, among all the numbers of the format (R636): to nearest (0) no number is closer, and its lowest
bit is zero if another is equally near; toward zero (1) it is the largest in magnitude not above x's; toward plus infinity (2) the
least not below x; toward minus infinity (3) the greatest not above it. Inexact is reported exactly when it is not x (R650). -/
def CorrectlyRounded (f : Fmt) (rm : BitVec 2) (x : ℝ) (r : FpRes) : Prop :=
  ∃ y : ℚ, f.value r.value = some y ∧ (r.status.getLsbD 0 = true ↔ (y : ℝ) ≠ x) ∧
    (rm = 0#2 → ∀ u z, f.value u = some z →
      |y - x| ≤ |z - x| ∧ (|y - x| = |z - x| → z ≠ y → r.value.getLsbD 0 = false)) ∧
    (rm = 1#2 → |(y : ℝ)| ≤ |x| ∧ 0 ≤ x * y ∧
      ∀ u z, f.value u = some z → |(z : ℝ)| ≤ |x| → 0 ≤ x * z → |z| ≤ |y|) ∧
    (rm = 2#2 → x ≤ y ∧ ∀ u z, f.value u = some z → x ≤ z → y ≤ z) ∧
    (rm = 3#2 → y ≤ x ∧ ∀ u z, f.value u = some z → z ≤ x → z ≤ y)

/-- What rounding the exact result x, which is not zero, delivers (R636, R650): where it overflows, infinity or the largest finite number,
with O and I; else a correctly rounded number, a zero with the sign of x, and a status in which E, V, Z and O are clear, I says whether the
result is inexact, and U that it is tiny and inexact (the model's choice of tininess and of U: notes/assumptions/20.md). -/
def Rounded (f : Fmt) (rm : BitVec 2) (x : ℝ) (r : FpRes) : Prop :=
  ∀ neg : Bool, (neg = true ↔ x < 0) →
    (f.Overflows rm x → r = f.overflowed rm neg) ∧
    (¬ f.Overflows rm x → CorrectlyRounded f rm x r ∧ (f.value r.value = some 0 → r.value = f.zeroOf neg) ∧
      r.status.extractLsb' 2 4 = 0#4 ∧ (r.status.getLsbD 1 = true ↔ f.Tiny rm x ∧ r.status.getLsbD 0 = true))

/-- The integer n is x rounded in mode rm (R636); of two integers equally near the even one. -/
def RoundsToInt (rm : BitVec 2) (x : ℚ) (n : Int) : Prop :=
  (rm = 0#2 → |n - x| ≤ 1 / 2 ∧ (|n - x| = 1 / 2 → n % 2 = 0)) ∧
  (rm = 1#2 → |(n : ℚ)| ≤ |x| ∧ |n - x| < 1) ∧
  (rm = 2#2 → x ≤ n ∧ n - x < 1) ∧
  (rm = 3#2 → n ≤ x ∧ x - n < 1)

/-! ## Invariants -/

/-- Every cache array is in canonical form. -/
def Caches.wf (c : Caches) : Bool :=
  Sparse.wf ITag.default c.iTag && Sparse.wf IWord.default c.iData && Sparse.wf false c.iLru &&
  Sparse.wf DTag.default c.dTag && Sparse.wf DLine.default c.dData && Sparse.wf false c.dLru &&
  Sparse.wf STag.default c.sTag && Sparse.wf SQuad.default c.sData && Sparse.wf false c.sMru

/-- Memory, the cache arrays and the branch prediction table are in canonical form. -/
def State.canonical (s : State) : Bool := Memory.wf s.mem && s.caches.wf && Sparse.wf 0#2 s.bpt

/-- The reserved bits of the CP0 registers are zero (R82, R86, R90, R92, R101, R105, R130, R134, R138, R158). -/
def Cp0.reservedZero (c : Cp0) : Bool :=
  c.index &&& 0x7FFFFFC0#32 == 0#32 &&
  c.entryLo0 &&& 0x3FFFFFFC00000000#64 == 0#64 &&
  c.entryLo1 &&& 0x3FFFFFFC00000000#64 == 0#64 &&
  c.context &&& 0xF#64 == 0#64 &&
  c.pageMask &&& 0xFE001FFF#32 == 0#32 &&
  c.entryHi &&& 0x3FFFF00000001F00#64 == 0#64 &&
  c.status &&& 0x01800000#32 == 0#32 &&
  c.watchLo &&& 0x4#32 == 0#32 &&
  c.watchHi &&& 0xFFFFFF00#32 == 0#32 &&
  c.xContext &&& 0xF#64 == 0#64 &&
  c.frameMask &&& 0xFFFF0000#32 == 0#32 &&
  c.ecc &&& 0xFFFFFC00#32 == 0#32

/-- Random is not below Wired (R84). -/
def Cp0.randomInRange (c : Cp0) : Bool := decide (c.wired.toNat ≤ c.random.toNat)

/-- The reserved bits of the FSR are zero (R47), and those of the performance control registers (R1102). -/
def State.controlReservedZero (s : State) : Bool :=
  s.fp.fsr &&& 0x007C0000#32 == 0#32 && s.perf.ctl0 &&& 0xFFFFFE00#32 == 0#32 && s.perf.ctl1 &&& 0xFFFFFE00#32 == 0#32

/-- The invariant of the machine. -/
def State.Inv (s : State) : Prop :=
  s.canonical = true ∧ s.cp0.reservedZero = true ∧ s.cp0.randomInRange = true ∧ s.controlReservedZero = true

end Sys2Proof.Machine

end
end

