-- ==== Sys2Proof/Certificates/Slice0/Obligations.lean ====
section
/-! DEFINITION. The statements about the machine, for the provers. Each formalises rules of spec/, named in its docstring; a
clause that rests on a choice of the model says so and names the log entry. -/

open Sys2Proof Sys2Proof.Machine

/-! ## Registers and control flow -/

/-- GPR[0] reads as zero and a write to it is discarded (R31); a write to another register changes that register and nothing else of
the state. And `advance`, with which every falling-through instruction ends, goes to pc + 4 (R860), or to the pending target after
the slot of a taken branch (R861); the slot is over, and nothing else changes. -/
def Obligations.RegisterZeroIsConstantAndFallingThroughAdvances : Prop :=
  (∀ (s : State) (r : BitVec 5) (v : DWord),
      s.gpr 0#5 = 0#64 ∧ s.setGpr 0#5 v = s ∧
      (r ≠ 0#5 →
        (s.setGpr r v).gpr r = v ∧ (∀ x, x ≠ r → (s.setGpr r v).gpr x = s.gpr x) ∧
        s.setGpr r v = { s with int := { s.int with gpr := (s.setGpr r v).int.gpr } })) ∧
  (∀ (s : State),
      (s.delay = .none → s.advance = { s with pc := s.pc + 4#64, delay := .none }) ∧
      (s.delay = .slot none → s.advance = { s with pc := s.pc + 4#64, delay := .none }) ∧
      (∀ t, s.delay = .slot (some t) → s.advance = { s with pc := t, delay := .none }))

/-! ## Integer arithmetic -/

/-- ADD, ADDI, SUB on registers that hold words, and DADD, DADDI, DSUB where MIPS III is enabled, write the exact sum or difference,
or take Integer Overflow when it does not fit in the operation's width, with the destination not written (R701). The unsigned-named
forms on the same operands write the result modulo 2^32, sign-extended, or modulo 2^64; ADDU, SUBU and ADDIU never trap, whatever the
registers hold. -/
def Obligations.IntegerOverflowTrapsOnlyInTheSignedForms : Prop :=
  ∀ (s : State) (rs rt rd : BitVec 5) (imm : BitVec 16),
    (FitsWord (s.gpr rs) → FitsWord (s.gpr rt) →
      let sum := (s.gpr rs).toInt + (s.gpr rt).toInt
      let diff := (s.gpr rs).toInt - (s.gpr rt).toInt
      exec (.add rs rt rd) s = (if -2 ^ 31 ≤ sum ∧ sum < 2 ^ 31 then .next (s.setGpr rd (reg64 sum)).advance
        else .next (s.takeException excOv)) ∧
      exec (.sub rs rt rd) s = (if -2 ^ 31 ≤ diff ∧ diff < 2 ^ 31 then .next (s.setGpr rd (reg64 diff)).advance
        else .next (s.takeException excOv)) ∧
      exec (.addu rs rt rd) s = .next (s.setGpr rd (reg64 (wrap32 sum))).advance ∧
      exec (.subu rs rt rd) s = .next (s.setGpr rd (reg64 (wrap32 diff))).advance) ∧
    (FitsWord (s.gpr rs) →
      let sum := (s.gpr rs).toInt + imm.toInt
      exec (.addi rs rt imm) s = (if -2 ^ 31 ≤ sum ∧ sum < 2 ^ 31 then .next (s.setGpr rt (reg64 sum)).advance
        else .next (s.takeException excOv)) ∧
      exec (.addiu rs rt imm) s = .next (s.setGpr rt (reg64 (wrap32 sum))).advance) ∧
    (s.mips3 = true →
      let sum := (s.gpr rs).toInt + (s.gpr rt).toInt
      let diff := (s.gpr rs).toInt - (s.gpr rt).toInt
      let sumI := (s.gpr rs).toInt + imm.toInt
      exec (.dadd rs rt rd) s = (if -2 ^ 63 ≤ sum ∧ sum < 2 ^ 63 then .next (s.setGpr rd (reg64 sum)).advance
        else .next (s.takeException excOv)) ∧
      exec (.dsub rs rt rd) s = (if -2 ^ 63 ≤ diff ∧ diff < 2 ^ 63 then .next (s.setGpr rd (reg64 diff)).advance
        else .next (s.takeException excOv)) ∧
      exec (.daddi rs rt imm) s = (if -2 ^ 63 ≤ sumI ∧ sumI < 2 ^ 63 then .next (s.setGpr rt (reg64 sumI)).advance
        else .next (s.takeException excOv)) ∧
      exec (.daddu rs rt rd) s = .next (s.setGpr rd (reg64 sum)).advance ∧
      exec (.dsubu rs rt rd) s = .next (s.setGpr rd (reg64 diff)).advance ∧
      exec (.daddiu rs rt imm) s = .next (s.setGpr rt (reg64 sumI)).advance) ∧
    (∃ v, exec (.addu rs rt rd) s = .next (s.setGpr rd v).advance) ∧
    (∃ v, exec (.subu rs rt rd) s = .next (s.setGpr rd v).advance) ∧
    (∃ v, exec (.addiu rs rt imm) s = .next (s.setGpr rt v).advance)

/-- SLT, SLTI, SLTU and SLTIU compare all 64 bits, signed or unsigned, the immediate sign-extended first (R707, R708, R723, R724).
The logical instructions work bit by bit on 64 bits, immediates zero-extended (R709 to R711, R719 to R722); LUI puts its immediate
into the upper half of a word and sign-extends (R712). -/
def Obligations.ComparisonsAndLogicalInstructionsUseSixtyFourBits : Prop :=
  (∀ (s : State) (rs rt rd : BitVec 5) (imm : BitVec 16),
      exec (.slt rs rt rd) s =
        .next (s.setGpr rd (if (s.gpr rs).toInt < (s.gpr rt).toInt then 1#64 else 0#64)).advance ∧
      exec (.sltu rs rt rd) s =
        .next (s.setGpr rd (if (s.gpr rs).toNat < (s.gpr rt).toNat then 1#64 else 0#64)).advance ∧
      exec (.slti rs rt imm) s =
        .next (s.setGpr rt (if (s.gpr rs).toInt < imm.toInt then 1#64 else 0#64)).advance ∧
      exec (.sltiu rs rt imm) s =
        .next (s.setGpr rt (if (s.gpr rs).toNat < (reg64 imm.toInt).toNat then 1#64 else 0#64)).advance) ∧
  (∀ (s : State) (rs rt rd : BitVec 5) (imm : BitVec 16),
      (∃ v, exec (.and rs rt rd) s = .next (s.setGpr rd v).advance ∧
        ∀ j, v.getLsbD j = ((s.gpr rs).getLsbD j && (s.gpr rt).getLsbD j)) ∧
      (∃ v, exec (.or rs rt rd) s = .next (s.setGpr rd v).advance ∧
        ∀ j, v.getLsbD j = ((s.gpr rs).getLsbD j || (s.gpr rt).getLsbD j)) ∧
      (∃ v, exec (.xor rs rt rd) s = .next (s.setGpr rd v).advance ∧
        ∀ j, v.getLsbD j = ((s.gpr rs).getLsbD j != (s.gpr rt).getLsbD j)) ∧
      (∃ v, exec (.nor rs rt rd) s = .next (s.setGpr rd v).advance ∧
        ∀ j < 64, v.getLsbD j = !((s.gpr rs).getLsbD j || (s.gpr rt).getLsbD j)) ∧
      (∃ v, exec (.andi rs rt imm) s = .next (s.setGpr rt v).advance ∧
        ∀ j, v.getLsbD j = ((s.gpr rs).getLsbD j && imm.getLsbD j)) ∧
      (∃ v, exec (.ori rs rt imm) s = .next (s.setGpr rt v).advance ∧
        ∀ j, v.getLsbD j = ((s.gpr rs).getLsbD j || imm.getLsbD j)) ∧
      (∃ v, exec (.xori rs rt imm) s = .next (s.setGpr rt v).advance ∧
        ∀ j, v.getLsbD j = ((s.gpr rs).getLsbD j != imm.getLsbD j)) ∧
      exec (.lui rt imm) s = .next (s.setGpr rt (reg64 (imm.toInt * 2 ^ 16))).advance) ∧
  (∀ (rs rt rd : BitVec 5) (imm : BitVec 16),
      ∀ p ∈ [(Instr.slti rs rt imm, wordI 0b001010 rs rt imm), (.sltiu rs rt imm, wordI 0b001011 rs rt imm),
        (.andi rs rt imm, wordI 0b001100 rs rt imm), (.ori rs rt imm, wordI 0b001101 rs rt imm),
        (.xori rs rt imm, wordI 0b001110 rs rt imm), (.lui rt imm, wordI 0b001111 0 rt imm),
        (.and rs rt rd, wordR 0 rs rt rd 0 0b100100), (.or rs rt rd, wordR 0 rs rt rd 0 0b100101),
        (.xor rs rt rd, wordR 0 rs rt rd 0 0b100110), (.nor rs rt rd, wordR 0 rs rt rd 0 0b100111),
        (.slt rs rt rd, wordR 0 rs rt rd 0 0b101010), (.sltu rs rt rd, wordR 0 rs rt rd 0 0b101011)],
      encode p.1 = p.2)

/-- The 32-bit shifts: left shifts take any source and sign-extend the low word of the product by a power of two; right shifts of a
word divide by a power of two, unsigned or rounding down; variable amounts are the low five bits (R730 to R735). The 64-bit shifts,
where MIPS III is enabled: the 32 forms shift by 32 more, variable amounts are the low six bits (R736 to R744). That SRLV and SRAV ask
only rt to hold a word, and rs may hold anything, where R702 expects a word in "each source register", is the model's choice.
Choices of the model it rests on: notes/assumptions 61. -/
def Obligations.ShiftsMultiplyAndDivideByPowersOfTwo : Prop :=
  (∀ (s : State) (rs rt rd sa : BitVec 5),
      let x := s.gpr rt
      let k := sa.toNat
      let kv := (s.gpr rs).toNat % 32
      exec (.sll rt rd sa) s = .next (s.setGpr rd (reg64 (wrap32 (x.toNat * 2 ^ k)))).advance ∧
      exec (.sllv rs rt rd) s = .next (s.setGpr rd (reg64 (wrap32 (x.toNat * 2 ^ kv)))).advance ∧
      (FitsWord x →
        exec (.srl rt rd sa) s = .next (s.setGpr rd (reg64 (wrap32 (x.toNat % 2 ^ 32 / 2 ^ k : Nat)))).advance ∧
        exec (.srlv rs rt rd) s = .next (s.setGpr rd (reg64 (wrap32 (x.toNat % 2 ^ 32 / 2 ^ kv : Nat)))).advance ∧
        exec (.sra rt rd sa) s = .next (s.setGpr rd (reg64 (x.toInt / 2 ^ k))).advance ∧
        exec (.srav rs rt rd) s = .next (s.setGpr rd (reg64 (x.toInt / 2 ^ kv))).advance)) ∧
  (∀ (s : State) (rs rt rd sa : BitVec 5), s.mips3 = true →
      let x := s.gpr rt
      let k := sa.toNat
      let kv := (s.gpr rs).toNat % 64
      exec (.dsll rt rd sa) s = .next (s.setGpr rd (reg64 (x.toNat * 2 ^ k))).advance ∧
      exec (.dsll32 rt rd sa) s = .next (s.setGpr rd (reg64 (x.toNat * 2 ^ (k + 32)))).advance ∧
      exec (.dsllv rs rt rd) s = .next (s.setGpr rd (reg64 (x.toNat * 2 ^ kv))).advance ∧
      exec (.dsrl rt rd sa) s = .next (s.setGpr rd (reg64 (x.toNat / 2 ^ k : Nat))).advance ∧
      exec (.dsrl32 rt rd sa) s = .next (s.setGpr rd (reg64 (x.toNat / 2 ^ (k + 32) : Nat))).advance ∧
      exec (.dsrlv rs rt rd) s = .next (s.setGpr rd (reg64 (x.toNat / 2 ^ kv : Nat))).advance ∧
      exec (.dsra rt rd sa) s = .next (s.setGpr rd (reg64 (x.toInt / 2 ^ k))).advance ∧
      exec (.dsra32 rt rd sa) s = .next (s.setGpr rd (reg64 (x.toInt / 2 ^ (k + 32)))).advance ∧
      exec (.dsrav rs rt rd) s = .next (s.setGpr rd (reg64 (x.toInt / 2 ^ kv))).advance) ∧
  (∀ (rs rt rd sa : BitVec 5), encode (.sll rt rd sa) = wordR 0 0 rt rd sa 0b000000 ∧
      encode (.sllv rs rt rd) = wordR 0 rs rt rd 0 0b000100)

/-- Multiplies write HI and LO and nothing else: together they are the exact product, of words (R750, R751) or of doublewords
(R754, R755). -/
def Obligations.MultipliesLeaveTheExactProductInHiAndLo : Prop :=
  ∀ (s : State) (rs rt : BitVec 5),
    (FitsWord (s.gpr rs) → FitsWord (s.gpr rt) →
      (∃ hi lo, exec (.mult rs rt) s = .next ((s.setHi hi).setLo lo).advance ∧ FitsWord hi ∧ FitsWord lo ∧
        hi.toInt * 2 ^ 32 + lo.toInt % 2 ^ 32 = (s.gpr rs).toInt * (s.gpr rt).toInt) ∧
      (∃ hi lo, exec (.multu rs rt) s = .next ((s.setHi hi).setLo lo).advance ∧ FitsWord hi ∧ FitsWord lo ∧
        hi.toNat % 2 ^ 32 * 2 ^ 32 + lo.toNat % 2 ^ 32 = (s.gpr rs).toNat % 2 ^ 32 * ((s.gpr rt).toNat % 2 ^ 32))) ∧
    (s.mips3 = true →
      (∃ hi lo, exec (.dmult rs rt) s = .next ((s.setHi hi).setLo lo).advance ∧
        hi.toInt * 2 ^ 64 + lo.toNat = (s.gpr rs).toInt * (s.gpr rt).toInt) ∧
      (∃ hi lo, exec (.dmultu rs rt) s = .next ((s.setHi hi).setLo lo).advance ∧
        hi.toNat * 2 ^ 64 + lo.toNat = (s.gpr rs).toNat * (s.gpr rt).toNat))

/-- Divides leave the quotient in LO and the remainder in HI: the quotient truncates toward zero and the remainder has the sign
of the dividend (R752, R753, R756, R757). -/
def Obligations.DividesTruncateAndTheRemainderHasTheDividendsSign : Prop :=
  ∀ (s : State) (rs rt : BitVec 5),
    let a := s.gpr rs
    let b := s.gpr rt
    (FitsWord a → FitsWord b → b.toInt ≠ 0 →
      (¬ (a.toInt = -2 ^ 31 ∧ b.toInt = -1) →
        ∃ hi lo, exec (.div rs rt) s = .next ((s.setHi hi).setLo lo).advance ∧ FitsWord hi ∧ FitsWord lo ∧
          a.toInt = lo.toInt * b.toInt + hi.toInt ∧ hi.toInt.natAbs < b.toInt.natAbs ∧
          (hi.toInt = 0 ∨ (hi.toInt < 0 ↔ a.toInt < 0))) ∧
      (∃ hi lo, exec (.divu rs rt) s = .next ((s.setHi hi).setLo lo).advance ∧ FitsWord hi ∧ FitsWord lo ∧
        lo.toNat % 2 ^ 32 = a.toNat % 2 ^ 32 / (b.toNat % 2 ^ 32) ∧
        hi.toNat % 2 ^ 32 = a.toNat % 2 ^ 32 % (b.toNat % 2 ^ 32))) ∧
    (s.mips3 = true → b.toInt ≠ 0 →
      (¬ (a.toInt = -2 ^ 63 ∧ b.toInt = -1) →
        ∃ hi lo, exec (.ddiv rs rt) s = .next ((s.setHi hi).setLo lo).advance ∧
          a.toInt = lo.toInt * b.toInt + hi.toInt ∧ hi.toInt.natAbs < b.toInt.natAbs ∧
          (hi.toInt = 0 ∨ (hi.toInt < 0 ↔ a.toInt < 0))) ∧
      (∃ hi lo, exec (.ddivu rs rt) s = .next ((s.setHi hi).setLo lo).advance ∧
        lo.toNat = a.toNat / b.toNat ∧ hi.toNat = a.toNat % b.toNat))

/-- Where the architecture leaves a result undefined (a 32-bit operation on a register that holds no sign-extended word, R702; a
division by zero or an overflowing division, R752, R753, R756, R757) the instruction still runs, raises nothing, and writes only
its destinations.
Choices of the model it rests on: notes/assumptions 61. -/
def Obligations.UndefinedIntegerResultsRaiseNothing : Prop :=
  ∀ (s : State) (rs rt rd sa : BitVec 5) (imm : BitVec 16),
    (¬ (FitsWord (s.gpr rs) ∧ FitsWord (s.gpr rt)) →
      (∃ v, exec (.add rs rt rd) s = .next (s.setGpr rd v).advance) ∧
      (∃ v, exec (.sub rs rt rd) s = .next (s.setGpr rd v).advance) ∧
      (∃ v, exec (.addu rs rt rd) s = .next (s.setGpr rd v).advance) ∧
      (∃ v, exec (.subu rs rt rd) s = .next (s.setGpr rd v).advance) ∧
      (∃ hi lo, exec (.mult rs rt) s = .next ((s.setHi hi).setLo lo).advance) ∧
      (∃ hi lo, exec (.multu rs rt) s = .next ((s.setHi hi).setLo lo).advance) ∧
      (∃ hi lo, exec (.div rs rt) s = .next ((s.setHi hi).setLo lo).advance) ∧
      (∃ hi lo, exec (.divu rs rt) s = .next ((s.setHi hi).setLo lo).advance)) ∧
    (¬ FitsWord (s.gpr rs) →
      (∃ v, exec (.addi rs rt imm) s = .next (s.setGpr rt v).advance) ∧
      (∃ v, exec (.addiu rs rt imm) s = .next (s.setGpr rt v).advance)) ∧
    (¬ FitsWord (s.gpr rt) →
      (∃ v, exec (.srl rt rd sa) s = .next (s.setGpr rd v).advance) ∧
      (∃ v, exec (.sra rt rd sa) s = .next (s.setGpr rd v).advance) ∧
      (∃ v, exec (.srlv rs rt rd) s = .next (s.setGpr rd v).advance) ∧
      (∃ v, exec (.srav rs rt rd) s = .next (s.setGpr rd v).advance)) ∧
    ((s.gpr rt).toNat % 2 ^ 32 = 0 ∨ ((s.gpr rs).toInt = -2 ^ 31 ∧ (s.gpr rt).toInt = -1) →
      ∃ hi lo, exec (.div rs rt) s = .next ((s.setHi hi).setLo lo).advance) ∧
    ((s.gpr rt).toNat % 2 ^ 32 = 0 → ∃ hi lo, exec (.divu rs rt) s = .next ((s.setHi hi).setLo lo).advance) ∧
    (s.mips3 = true →
      (s.gpr rt = 0#64 ∨ ((s.gpr rs).toInt = -2 ^ 63 ∧ (s.gpr rt).toInt = -1) →
        ∃ hi lo, exec (.ddiv rs rt) s = .next ((s.setHi hi).setLo lo).advance) ∧
      (s.gpr rt = 0#64 → ∃ hi lo, exec (.ddivu rs rt) s = .next ((s.setHi hi).setLo lo).advance))

/-- Moves to and from HI and LO (R758 to R761), and the conditional moves: MOVZ and MOVN test all 64 bits of GPR[rt], MOVF and
MOVT a floating-point condition bit; where the condition fails nothing but the pc moves (R765 to R768). Outside MIPS IV the
conditional moves take Reserved Instruction; MOVF and MOVT need CP1 usable. -/
def Obligations.HiLoMovesAndConditionalMoves : Prop :=
  (∀ (s : State) (rs rt rd : BitVec 5) (cc : BitVec 3),
      exec (.mfhi rd) s = .next (s.setGpr rd s.int.hi).advance ∧
      exec (.mflo rd) s = .next (s.setGpr rd s.int.lo).advance ∧
      exec (.mthi rs) s = .next { s with int := { s.int with hi := s.gpr rs } }.advance ∧
      exec (.mtlo rs) s = .next { s with int := { s.int with lo := s.gpr rs } }.advance ∧
      (s.mips4 = true →
        exec (.movz rs rt rd) s = .next (if s.gpr rt = 0#64 then s.setGpr rd (s.gpr rs) else s).advance ∧
        exec (.movn rs rt rd) s = .next (if s.gpr rt = 0#64 then s else s.setGpr rd (s.gpr rs)).advance ∧
        (s.cu1 = true →
          exec (.movf rs cc rd) s = .next (if s.fp.fsr.getLsbD (if cc = 0#3 then 23 else 24 + cc.toNat) then s
            else s.setGpr rd (s.gpr rs)).advance ∧
          exec (.movt rs cc rd) s = .next (if s.fp.fsr.getLsbD (if cc = 0#3 then 23 else 24 + cc.toNat)
            then s.setGpr rd (s.gpr rs) else s).advance) ∧
        (s.cu1 = false → exec (.movf rs cc rd) s = .next (s.coprocessorUnusable 1) ∧
          exec (.movt rs cc rd) s = .next (s.coprocessorUnusable 1))) ∧
      (s.mips4 = false → ∀ i ∈ [Instr.movz rs rt rd, .movn rs rt rd, .movf rs cc rd, .movt rs cc rd],
        exec i s = .next (s.takeException 10#5))) ∧
  (∀ (rs rt rd : BitVec 5) (cc : BitVec 3),
      ∀ p ∈ [(Instr.mfhi rd, wordR 0 0 0 rd 0 0b010000), (.mthi rs, wordR 0 rs 0 0 0 0b010001),
        (.mflo rd, wordR 0 0 0 rd 0 0b010010), (.mtlo rs, wordR 0 rs 0 0 0 0b010011),
        (.movz rs rt rd, wordR 0 rs rt rd 0 0b001010), (.movn rs rt rd, wordR 0 rs rt rd 0 0b001011),
        (.movf rs cc rd, wordR 0 rs (cc ++ 0b00#2) rd 0 0b000001), (.movt rs cc rd, wordR 0 rs (cc ++ 0b01#2) rd 0 0b000001)],
      encode p.1 = p.2)

/-! ## Branches, jumps and traps -/

/-- The eight conditional branches that are not likely ones, outside a delay slot: the slot is next, then, if the condition
holds, (pc + 4) + offset * 4 (R861, R864, R875 to R882); the linking ones write r31 whether or not they are taken. That a linking
branch on r31 itself tests the register's old value is the model's choice, where the spec forbids rs = r31 (log entry 18).
Choices of the model it rests on: notes/assumptions 18. -/
def Obligations.ConditionalBranchesExecuteTheSlotThenTheTarget : Prop :=
  (∀ (s : State) (rs rt : BitVec 5) (offset : BitVec 16), s.delay = .none →
      let target := s.pc + 4#64 + reg64 (offset.toInt * 4)
      let go (c : Prop) [Decidable c] : Option DWord := if c then some target else none
      let link := s.setGpr 31#5 (s.pc + 8#64)
      (∃ t, exec (.beq rs rt offset) s = .next t ∧ s.InSlotOf t (go (s.gpr rs = s.gpr rt))) ∧
      (∃ t, exec (.bne rs rt offset) s = .next t ∧ s.InSlotOf t (go (s.gpr rs ≠ s.gpr rt))) ∧
      (∃ t, exec (.blez rs offset) s = .next t ∧ s.InSlotOf t (go ((s.gpr rs).toInt ≤ 0))) ∧
      (∃ t, exec (.bgtz rs offset) s = .next t ∧ s.InSlotOf t (go (0 < (s.gpr rs).toInt))) ∧
      (∃ t, exec (.bltz rs offset) s = .next t ∧ s.InSlotOf t (go ((s.gpr rs).toInt < 0))) ∧
      (∃ t, exec (.bgez rs offset) s = .next t ∧ s.InSlotOf t (go (0 ≤ (s.gpr rs).toInt))) ∧
      (∃ t, exec (.bltzal rs offset) s = .next t ∧ link.InSlotOf t (go ((s.gpr rs).toInt < 0))) ∧
      (∃ t, exec (.bgezal rs offset) s = .next t ∧ link.InSlotOf t (go (0 ≤ (s.gpr rs).toInt)))) ∧
  (∀ (rs rt : BitVec 5) (offset : BitVec 16),
      ∀ p ∈ [(Instr.beq rs rt offset, wordI 0b000100 rs rt offset), (.bne rs rt offset, wordI 0b000101 rs rt offset),
        (.blez rs offset, wordI 0b000110 rs 0 offset), (.bgtz rs offset, wordI 0b000111 rs 0 offset),
        (.bltz rs offset, wordI 0b000001 rs 0b00000 offset), (.bgez rs offset, wordI 0b000001 rs 0b00001 offset),
        (.bltzal rs offset, wordI 0b000001 rs 0b10000 offset), (.bgezal rs offset, wordI 0b000001 rs 0b10001 offset)],
      encode p.1 = p.2)

/-- A likely branch, outside a delay slot: taken, it is as any branch; not taken, the slot is nullified and execution goes on at
pc + 8; the predictor is neither used nor updated (R863, R883 to R890). That a linking branch on r31 itself tests the register's
old value is the model's choice, where the spec forbids rs = r31 (log entry 18).
Choices of the model it rests on: notes/assumptions 18. -/
def Obligations.LikelyBranchesNullifyTheSlotWhenNotTaken : Prop :=
  (∀ (s : State) (rs rt : BitVec 5) (offset : BitVec 16), s.delay = .none →
      let target := s.pc + 4#64 + reg64 (offset.toInt * 4)
      let go (s : State) (c : Prop) [Decidable c] : State :=
        if c then { s with pc := s.pc + 4#64, delay := .slot (some target) } else { s with pc := s.pc + 8#64 }
      let link := s.setGpr 31#5 (s.pc + 8#64)
      exec (.beql rs rt offset) s = .next (go s (s.gpr rs = s.gpr rt)) ∧
      exec (.bnel rs rt offset) s = .next (go s (s.gpr rs ≠ s.gpr rt)) ∧
      exec (.blezl rs offset) s = .next (go s ((s.gpr rs).toInt ≤ 0)) ∧
      exec (.bgtzl rs offset) s = .next (go s (0 < (s.gpr rs).toInt)) ∧
      exec (.bltzl rs offset) s = .next (go s ((s.gpr rs).toInt < 0)) ∧
      exec (.bgezl rs offset) s = .next (go s (0 ≤ (s.gpr rs).toInt)) ∧
      exec (.bltzall rs offset) s = .next (go link ((s.gpr rs).toInt < 0)) ∧
      exec (.bgezall rs offset) s = .next (go link (0 ≤ (s.gpr rs).toInt))) ∧
  (∀ (rs rt : BitVec 5) (offset : BitVec 16),
      ∀ p ∈ [(Instr.beql rs rt offset, wordI 0b010100 rs rt offset), (.bnel rs rt offset, wordI 0b010101 rs rt offset),
        (.blezl rs offset, wordI 0b010110 rs 0 offset), (.bgtzl rs offset, wordI 0b010111 rs 0 offset),
        (.bltzl rs offset, wordI 0b000001 rs 0b00010 offset), (.bgezl rs offset, wordI 0b000001 rs 0b00011 offset),
        (.bltzall rs offset, wordI 0b000001 rs 0b10010 offset), (.bgezall rs offset, wordI 0b000001 rs 0b10011 offset)],
      encode p.1 = p.2)

/-- J and JAL go to their 256-Mbyte region, JR and JALR to a register that is read first, all after the slot; JAL links r31 and
JALR rd with pc + 8 (R864, R870 to R873). That a JR through a register other than r31 also completes a read of the prediction table
that is under way is the model's choice, after the code sequence of R151 (log entry 36).
Choices of the model it rests on: notes/assumptions 36. -/
def Obligations.JumpsExecuteTheSlotThenTheTarget : Prop :=
  (∀ (s : State) (rs rd : BitVec 5) (index : BitVec 26), s.delay = .none →
      let region : Nat := (s.pc + 4#64).toNat / 2 ^ 28 * 2 ^ 28
      let target : DWord := BitVec.ofNat 64 (region + index.toNat * 4)
      let go (s : State) (t : DWord) : State := { s with pc := s.pc + 4#64, delay := .slot (some t) }
      exec (.j index) s = .next (go s target) ∧
      exec (.jal index) s = .next (go (s.setGpr 31#5 (s.pc + 8#64)) target) ∧
      exec (.jr rs) s = .next (go { s with cp0 := if rs ≠ 31#5 ∧ s.cp0.diagPending = true
        then { s.cp0 with diagBpState := Sparse.get 0#2 s.bpt s.cp0.diagBpIdx.toNat, diagPending := false } else s.cp0 }
        (s.gpr rs)) ∧
      exec (.jalr rs rd) s = .next (go (s.setGpr rd (s.pc + 8#64)) (s.gpr rs))) ∧
  (∀ (rs rd : BitVec 5) (index : BitVec 26),
      ∀ p ∈ [(Instr.j index, wordJ 0b000010 index), (.jal index, wordJ 0b000011 index), (.jr rs, wordR 0 rs 0 0 0 0b001000),
        (.jalr rs rd, wordR 0 rs 0 rd 0 0b001001)],
      encode p.1 = p.2)

/-- A branch, jump or ERET in a delay slot is undefined in the architecture, and the model stops (R862, R592). Only what comes
before the transfer is still checked: CP0 usability (ERET), CP1 usability and, for a condition other than 0, MIPS IV (BC1).
Choices of the model it rests on: notes/assumptions 52. -/
def Obligations.TransfersInADelaySlotStop : Prop :=
  ∀ (s : State) (rs rt rd : BitVec 5) (offset : BitVec 16) (index : BitVec 26) (cc : BitVec 3), s.delay ≠ .none →
    (∀ i ∈ [Instr.j index, .jal index, .jr rs, .jalr rs rd, .beq rs rt offset, .bne rs rt offset, .blez rs offset,
        .bgtz rs offset, .bltz rs offset, .bgez rs offset, .bltzal rs offset, .bgezal rs offset, .beql rs rt offset,
        .bnel rs rt offset, .blezl rs offset, .bgtzl rs offset, .bltzl rs offset, .bgezl rs offset, .bltzall rs offset,
        .bgezall rs offset], exec i s = .fault .branchInDelaySlot) ∧
    (s.cu1 = true → (cc = 0#3 ∨ s.mips4 = true) →
      ∀ i ∈ [Instr.bc1f cc offset, .bc1t cc offset, .bc1fl cc offset, .bc1tl cc offset],
        exec i s = .fault .branchInDelaySlot) ∧
    (s.cp0Usable = true → exec .eret s = .fault .eretInDelaySlot)

/-- The branches on a floating-point condition, outside a delay slot: CP1 must be usable and, for a condition other than 0,
MIPS IV enabled; otherwise the exceptions of R478 (R892 to R895). -/
def Obligations.FloatingPointBranchesTestTheirCondition : Prop :=
  (∀ (s : State) (cc : BitVec 3) (offset : BitVec 16), s.delay = .none →
      let target := s.pc + 4#64 + reg64 (offset.toInt * 4)
      let bit := s.fp.fsr.getLsbD (if cc = 0#3 then 23 else 24 + cc.toNat)
      let likely (c : Bool) : State :=
        if c then { s with pc := s.pc + 4#64, delay := .slot (some target) } else { s with pc := s.pc + 8#64 }
      (s.cu1 = true → (cc = 0#3 ∨ s.mips4 = true) →
        (∃ t, exec (.bc1f cc offset) s = .next t ∧ s.InSlotOf t (if bit then none else some target)) ∧
        (∃ t, exec (.bc1t cc offset) s = .next t ∧ s.InSlotOf t (if bit then some target else none)) ∧
        exec (.bc1fl cc offset) s = .next (likely !bit) ∧
        exec (.bc1tl cc offset) s = .next (likely bit)) ∧
      (∀ i ∈ [Instr.bc1f cc offset, .bc1t cc offset, .bc1fl cc offset, .bc1tl cc offset],
        (s.cu1 = false → exec i s = .next (s.coprocessorUnusable 1)) ∧
        (s.cu1 = true → cc ≠ 0#3 → s.mips4 = false → exec i s = .next (s.takeException excRi)))) ∧
  (∀ (cc : BitVec 3) (offset : BitVec 16),
      ∀ p ∈ [(Instr.bc1f cc offset, wordI 0b010001 0b01000 (cc ++ 0b00#2) offset),
        (.bc1t cc offset, wordI 0b010001 0b01000 (cc ++ 0b01#2) offset),
        (.bc1fl cc offset, wordI 0b010001 0b01000 (cc ++ 0b10#2) offset),
        (.bc1tl cc offset, wordI 0b010001 0b01000 (cc ++ 0b11#2) offset)],
      encode p.1 = p.2)

/-- The conditional traps compare as their names say and, where the comparison fails, fall through with nothing else changed; where
it holds they take the Trap exception, code 13 (R900 to R911). SYSCALL and BREAK take their exceptions whatever their code field
holds: codes 8 and 9 (R915, R916). -/
def Obligations.TrapsSyscallAndBreakTakeTheirExceptions : Prop :=
  (∀ (s : State) (rs rt : BitVec 5) (code : BitVec 10) (imm : BitVec 16),
      let a := s.gpr rs
      let b := s.gpr rt
      let u := (reg64 imm.toInt).toNat
      let out (c : Prop) [Decidable c] : Out := if c then .next (s.takeException 13#5) else .next s.advance
      exec (.tge rs rt code) s = out (b.toInt ≤ a.toInt) ∧ exec (.tgeu rs rt code) s = out (b.toNat ≤ a.toNat) ∧
      exec (.tlt rs rt code) s = out (a.toInt < b.toInt) ∧ exec (.tltu rs rt code) s = out (a.toNat < b.toNat) ∧
      exec (.teq rs rt code) s = out (a = b) ∧ exec (.tne rs rt code) s = out (a ≠ b) ∧
      exec (.tgei rs imm) s = out (imm.toInt ≤ a.toInt) ∧ exec (.tgeiu rs imm) s = out (u ≤ a.toNat) ∧
      exec (.tlti rs imm) s = out (a.toInt < imm.toInt) ∧ exec (.tltiu rs imm) s = out (a.toNat < u) ∧
      exec (.teqi rs imm) s = out (a.toInt = imm.toInt) ∧ exec (.tnei rs imm) s = out (a.toInt ≠ imm.toInt)) ∧
  (∀ (s : State) (code : BitVec 20),
      exec (.syscall code) s = .next (s.takeException 8#5) ∧ exec (.breakpoint code) s = .next (s.takeException 9#5)) ∧
  (∀ (rs rt : BitVec 5) (code : BitVec 10) (imm : BitVec 16),
      ∀ p ∈ [(Instr.tge rs rt code, wordTrap rs rt code 0b110000), (.tgeu rs rt code, wordTrap rs rt code 0b110001),
        (.tlt rs rt code, wordTrap rs rt code 0b110010), (.tltu rs rt code, wordTrap rs rt code 0b110011),
        (.teq rs rt code, wordTrap rs rt code 0b110100), (.tne rs rt code, wordTrap rs rt code 0b110110),
        (.tgei rs imm, wordI 0b000001 rs 0b01000 imm), (.tgeiu rs imm, wordI 0b000001 rs 0b01001 imm),
        (.tlti rs imm, wordI 0b000001 rs 0b01010 imm), (.tltiu rs imm, wordI 0b000001 rs 0b01011 imm),
        (.teqi rs imm, wordI 0b000001 rs 0b01100 imm), (.tnei rs imm, wordI 0b000001 rs 0b01110 imm)],
      encode p.1 = p.2)

/-! ## Exceptions -/

/-- Entry with EXL = 0 (R1020, R1021, R1024): EPC is the instruction, or the branch when it stands in a delay slot, and BD says which;
ExcCode is the code; EXL is set and with it Kernel mode; control goes to the general vector that BEV selects; the pending branch is
discarded and the link broken; nothing else changes but Cause.CE, which is undefined. Entry with EXL = 1 (R1022): EPC and BD keep
their values; ExcCode is written; a TLB Refill too goes to the general vector.
Choices of the model it rests on: notes/assumptions 60. -/
def Obligations.ExceptionEntrySavesThePcAndANestedOneKeepsIt : Prop :=
  (∀ (s : State) (code : BitVec 5), s.exl = false →
      let t := s.takeException code
      let slot := s.delay ≠ .none
      t = { s with
        pc := if s.bev then 0xFFFFFFFFBFC00380#64 else 0xFFFFFFFF80000180#64
        delay := .none
        link := { s.link with bit := false }
        note := t.note
        cp0 := { s.cp0 with
          epc := t.cp0.epc, causeBd := t.cp0.causeBd, causeCode := code, causeCe := t.cp0.causeCe
          status := s.cp0.status ||| 2#32 } } ∧
      (slot → t.cp0.epc = s.pc - 4#64 ∧ t.cp0.causeBd = true) ∧
      (¬ slot → t.cp0.epc = s.pc ∧ t.cp0.causeBd = false) ∧
      t.exl = true ∧ t.mode = .kernel) ∧
  (∀ (s : State) (code : BitVec 5) (store : Bool) (va : DWord), s.exl = true →
      let general := if s.bev then 0xFFFFFFFFBFC00380#64 else 0xFFFFFFFF80000180#64
      ((s.takeException code).cp0.epc = s.cp0.epc ∧ (s.takeException code).cp0.causeBd = s.cp0.causeBd ∧
        (s.takeException code).cp0.causeCode = code ∧ (s.takeException code).exl = true ∧
        (s.takeException code).pc = general) ∧
      ((s.tlbRefill store va).cp0.epc = s.cp0.epc ∧ (s.tlbRefill store va).cp0.causeBd = s.cp0.causeBd ∧
        (s.tlbRefill store va).pc = general))

/-- The registers of a TLB exception (R1032 to R1034): BadVAddr is the address, the VPN fields of Context, XContext and EntryHi
are its page number, the PTEBase fields and the ASID keep their values; with EXL = 0 a Refill goes to the 32-bit or the 64-bit
refill vector as the address's region and UX, SX or KX say (R1023), Invalid and Modified to the general one (R1035, R1036).
Every load and store of the current mode at an aligned address that cannot be translated, and the fetch at such a pc, takes the exception
that the translation names, at that address, and does nothing else: Address Error, Refill, Invalid or, for a store, Modified (R200, R801,
R802, R1031).
Choices of the model it rests on: notes/assumptions 16, 53. -/
def Obligations.TlbExceptionsRecordTheAddressAndChooseTheVector : Prop :=
  (∀ (s : State) (store : Bool) (va : DWord), s.exl = false →
    let base := if s.bev then 0xFFFFFFFFBFC00200#64 else 0xFFFFFFFF80000000#64
    let extended := if va.getLsbD 63 then s.kx else if va.getLsbD 62 then s.sx else s.ux
    (∀ t ∈ [s.tlbRefill store va, s.tlbInvalid store va, s.tlbModified va],
      t.cp0.badVAddr = va ∧
      t.cp0.context.extractLsb' 4 19 = va.extractLsb' 13 19 ∧
      t.cp0.context.extractLsb' 23 41 = s.cp0.context.extractLsb' 23 41 ∧
      t.cp0.xContext.extractLsb' 4 31 = va.extractLsb' 13 31 ∧ t.cp0.xContext.extractLsb' 35 2 = va.extractLsb' 62 2 ∧
      t.cp0.xContext.extractLsb' 37 27 = s.cp0.xContext.extractLsb' 37 27 ∧
      t.cp0.entryHi.extractLsb' 13 31 = va.extractLsb' 13 31 ∧ t.cp0.entryHi.extractLsb' 62 2 = va.extractLsb' 62 2 ∧
      t.cp0.entryHi.extractLsb' 0 8 = s.cp0.entryHi.extractLsb' 0 8 ∧
      t.cp0.random = s.cp0.random ∧ t.cp0.pageMask = s.cp0.pageMask ∧
      t.cp0.entryLo0 = s.cp0.entryLo0 ∧ t.cp0.entryLo1 = s.cp0.entryLo1 ∧ t.exl = true) ∧
    (s.tlbRefill store va).pc = base + (if extended then 0x80#64 else 0x0#64) ∧
    (s.tlbInvalid store va).pc = base + 0x180#64 ∧ (s.tlbModified va).pc = base + 0x180#64 ∧
    (s.tlbRefill store va).cp0.causeCode = (if store then 3#5 else 2#5) ∧
    (s.tlbInvalid store va).cp0.causeCode = (if store then 3#5 else 2#5) ∧
    (s.tlbModified va).cp0.causeCode = 1#5) ∧
  (∀ (s : State) (base index rt : BitVec 5) (off : BitVec 16),
    (∀ p ∈ s.loadForms base index rt off, (s.dataAddress p.va).toNat % p.align = 0 →
      s.TrapsUntranslated p.instr false (s.dataAddress p.va)) ∧
    (∀ p ∈ (s.storeForms base index rt off).map StoreForm.toMemForm ++ s.scForms base rt off,
      (s.dataAddress p.va).toNat % p.align = 0 → s.TrapsUntranslated p.instr true (s.dataAddress p.va)) ∧
    (s.pc.toNat % 4 = 0 →
      (s.translate s.pc .fetch = .addressError → s.fetch = .trap (s.addressError false s.pc)) ∧
      (s.translate s.pc .fetch = .refill → s.fetch = .trap (s.tlbRefill false s.pc)) ∧
      (s.translate s.pc .fetch = .invalid → s.fetch = .trap (s.tlbInvalid false s.pc))))

/-- ERET, outside a delay slot and where CP0 is usable (R592): with ERL = 1 it clears ERL and goes to ErrorEPC, with ERL = 0 it
clears EXL, whatever it was, and goes to EPC; the link is broken and nothing else changes. Where CP0 is not usable it takes
Coprocessor Unusable. R592 says that it must not stand in a delay slot; that the model stops there is its choice (log entry 52).
Choices of the model it rests on: notes/assumptions 52. -/
def Obligations.EretReturnsThroughErrorEpcOrEpc : Prop :=
  ∀ (s : State),
    (s.cp0Usable = true → s.delay = .none →
      (s.erl = true →
        exec .eret s = .next { s with
          pc := s.cp0.errorEpc, link := { s.link with bit := false }
          cp0 := { s.cp0 with status := s.cp0.status &&& 0xFFFFFFFB#32 } }) ∧
      (s.erl = false →
        exec .eret s = .next { s with
          pc := s.cp0.epc, link := { s.link with bit := false }
          cp0 := { s.cp0 with status := s.cp0.status &&& 0xFFFFFFFD#32 } })) ∧
    (s.cp0Usable = false → exec .eret s = .next (s.coprocessorUnusable 0)) ∧
    (s.cp0Usable = true → s.delay ≠ .none → exec .eret s = .fault .eretInDelaySlot) ∧
    encode .eret = 0x42000018#32

/-- The step takes an interrupt instead of an instruction when IE is set, EXL and ERL are clear and an enabled bit of Cause.IP is
pending (R1061), and it has been so at as many boundaries as the parameter InterruptLatency says (R1006; 0 by default), if no event
that comes first is pending (R1006): Interrupt, code 0, with EPC at the instruction that would have executed. Cause.IP is live: the
Interrupt register, the timer, the counters and the software bits (R1083, R1110). A delayed Watch comes after it (R1056): it is
taken at a boundary with EXL and ERL clear, code 23, and is then no longer pending.
Choices of the model it rests on: notes/assumptions 50, 29. -/
def Obligations.InterruptsAreTakenBeforeTheNextInstruction : Prop :=
  ∀ (s : State), s.ctm.active = false → s.bus.hung = false →
    let q := s.tick
    let ip7 := q.pending.timer || (q.perf.cnt0.getLsbD 31 && q.perf.ctl0.getLsbD 4) ||
      (q.perf.cnt1.getLsbD 31 && q.perf.ctl1.getLsbD 4)
    let ip : BitVec 8 := BitVec.ofBool ip7 ++ q.pending.interrupt ++ q.cp0.causeIpSw
    let taken := (s.ie = true ∧ s.exl = false ∧ s.erl = false ∧ ip &&& s.im ≠ 0#8) ∧
      s.params.interruptLatency ≤ s.pending.waited
    q.pending.coldReset = none → q.pending.softReset = false → q.pending.nmi = false →
    ((q.pending.iErr.posted || q.pending.dErr.posted || q.pending.sErr.posted || q.pending.siErr.posted) = false) →
      (taken → step s = q.counted none (.next (q.takeException 0#5))) ∧
      (¬ taken → s.exl = false → s.erl = false → s.pending.watch = true →
        step s = q.counted none (.next ({ q with pending := { q.pending with watch := false } }.takeException 23#5))) ∧
      (¬ taken → s.pending.watch = false ∨ s.exl = true ∨ s.erl = true → step s = q.fetchAndRun s.held)

/-! ## Coprocessor usability and gating -/

/-- "Coprocessor 0 instructions are enabled if the processor is in Kernel mode, or if bit 28 (CU0) is set in the Status register.
Otherwise, executing one of these instructions generates a Coprocessor 0 Unusable exception" (R80): code 11 with Cause.CE = 0
(R1046). A coprocessor 2 instruction takes Coprocessor Unusable with CE = 2 when CU2 is clear and Reserved Instruction when it is set
(R476); the CP0 branches and RFE, where CP0 is usable, take Reserved Instruction (R600, R601). -/
def Obligations.UnusableCoprocessorsTakeTheirException : Prop :=
  (∀ (s : State) (rt rd reg base : BitVec 5) (offset : BitVec 16), s.mode ≠ .kernel → s.cp0.status.getLsbD 28 = false →
      ∀ i ∈ cp0Instructions rt rd reg base offset,
        exec i s = .next (s.coprocessorUnusable 0) ∧ (s.coprocessorUnusable 0).cp0.causeCode = 11#5 ∧
        (s.coprocessorUnusable 0).cp0.causeCe = 0#2) ∧
  (∀ (s : State) (base rt : BitVec 5) (offset : BitVec 16) (code : BitVec 26),
      (∀ i ∈ [Instr.cop2 code, .lwc2 base rt offset, .ldc2 base rt offset, .swc2 base rt offset, .sdc2 base rt offset],
        (s.cp0.status.getLsbD 30 = false →
          exec i s = .next (s.coprocessorUnusable 2) ∧ (s.coprocessorUnusable 2).cp0.causeCode = 11#5 ∧
          (s.coprocessorUnusable 2).cp0.causeCe = 2#2) ∧
        (s.cp0.status.getLsbD 30 = true → exec i s = .next (s.takeException 10#5))) ∧
      (s.cp0Usable = true → ∀ i ∈ [Instr.rfe, .bc0f offset, .bc0t offset, .bc0fl offset, .bc0tl offset],
        exec i s = .next (s.takeException 10#5))) ∧
  (∀ (offset : BitVec 16),
      ∀ p ∈ [(Instr.bc0f offset, wordI 0b010000 0b01000 0b00000 offset), (.bc0t offset, wordI 0b010000 0b01000 0b00001 offset),
        (.bc0fl offset, wordI 0b010000 0b01000 0b00010 offset), (.bc0tl offset, wordI 0b010000 0b01000 0b00011 offset),
        (.rfe, wordR 0b010000 0b10000 0 0 0 0b010000)],
      encode p.1 = p.2)

/-- Where MIPS III is not enabled (User mode with UX = 0, Supervisor mode with SX = 0) its integer instructions take Reserved
Instruction (R472); where MIPS IV is not (User mode with XX = 0) its integer and COP1X instructions do, whether or not CP1 is
usable (R473, R478); DMFC0 and DMTC0, where CP0 is usable, take Reserved Instruction outside MIPS III (R472, R584, R585). In Kernel
mode both sets are always enabled. -/
def Obligations.DisabledInstructionSetsTakeReservedInstruction : Prop :=
  ∀ (s : State) (a b c d : BitVec 5) (cc : BitVec 3) (imm : BitVec 16),
    ((s.mode = .user ∧ s.cp0.status.getLsbD 5 = false) ∨ (s.mode = .supervisor ∧ s.cp0.status.getLsbD 6 = false) →
      (∀ i ∈ mips3Instructions a b c imm, exec i s = .next (s.takeException 10#5)) ∧
      (s.cp0Usable = true → ∀ i ∈ [Instr.dmfc0 a b, .dmtc0 a b], exec i s = .next (s.takeException 10#5))) ∧
    (s.mode = .user → s.cp0.status.getLsbD 31 = false →
      ∀ i ∈ mips4Instructions a b c d cc imm, exec i s = .next (s.takeException 10#5)) ∧
    (s.mode = .kernel → s.mips3 = true ∧ s.mips4 = true)

/-! ## Coprocessor 0 and the TLB -/

/-- MFC0 of each register delivers what the state's fields hold, sign-extended from 32 bits (R582): Cause from its fields with the live
sources of IP (R113), PRId and Config from what they are made of (R121, R124), Random, Status, BadVAddr, CacheErr and the others as they
stand; of Diagnostic the writable fields, in the places of the default layout, which is the model's choice (log entry 12), as is the
BPState of a table read under way (log entry 36).
MTC0 completes where CP0 is usable and changes exactly the writable bits of the register it names (R176): MFC0 of the register then
reads those bits from the source and the others as before; a 64-bit register takes all its writable bits from the source (R583); Status keeps what was written but for its reserved bits 24:23. Every
other CP0 register, and everything outside CP0, stays as it was, but for what R176 ties to the register: a write of Wired sets Random
to 63, Count and Compare reach the timer interrupt, WatchLo clears the delayed Watch, Diagnostic operates on the prediction table.
Random and the other read-only registers are not changed at all. That a write of the numbers 7, 23, 24 and 31, which name no register,
changes nothing is the model's choice (R175, log entry 13), and that MFC0 and MTC0 of 25 are MFPS and MTPS of register 0 follows from
R590 (the same entry).
Choices of the model it rests on: notes/assumptions 2, 12, 13, 36, 46. -/
def Obligations.Mtc0ChangesExactlyTheWritableBits : Prop :=
  ∀ (s : State) (rt x : BitVec 5), s.cp0Usable = true →
    let w := (s.gpr rt).extractLsb' 0 32
    (∀ n ∉ [7#5, 22#5, 23#5, 24#5, 31#5], exec (.mfc0 x n) s = .next (s.setGpr x ((s.cp0Word n).signExtend 64)).advance) ∧
    (s.params.diag = Params.default.diag →
      ∃ v, exec (.mfc0 x 22#5) s = .next (s.setGpr x v).advance ∧ s.ShowsDiagnostic v) ∧
    (s.cp0.reservedZero = true → ∀ p ∈ cp0Masks, ∃ t, exec (.mtc0 rt p.1) s = .next t ∧
      exec (.mfc0 x p.1) t =
        .next (t.setGpr x (((s.cp0Word p.1 &&& ~~~p.2) ||| (w &&& p.2)).signExtend 64)).advance) ∧
    (s.cp0.reservedZero = true → ∀ p ∈ cp0WideMasks, ∃ t, exec (.mtc0 rt p.1) s = .next t ∧
      t.cp0.wideRegister p.1 = (s.cp0.wideRegister p.1 &&& ~~~p.2) ||| (s.gpr rt &&& p.2)) ∧
    (∀ rd, ∃ v t, exec (.mfc0 x rd) s = .next (s.setGpr x v).advance ∧ exec (.mtc0 rt rd) s = .next t ∧ s.OnlyCp0Register rd t) ∧
    (∀ rd ∈ [1#5, 7#5, 8#5, 15#5, 23#5, 24#5, 27#5, 31#5], exec (.mtc0 rt rd) s = .next s.advance) ∧
    (∃ t, exec (.mtc0 rt 6#5) s = .next t ∧ t.cp0.random = 63#6) ∧
    (∃ t, exec (.mtc0 rt 12#5) s = .next t ∧ t.cp0.status = w &&& 0xFE7FFFFF#32) ∧
    (∃ t, exec (.mtc0 rt 18#5) s = .next t ∧ t.pending.watch = false) ∧
    (∃ t, exec (.mtc0 rt 22#5) s = .next t ∧ t.cp0.diagBpOp = (s.gpr rt).extractLsb' s.params.diag.bpOp 2 ∧
      t.cp0.diagBpIdx = (s.gpr rt).extractLsb' s.params.diag.bpIdx 9 ∧
      t.cp0.diagBpMode = (s.gpr rt).extractLsb' s.params.diag.bpMode 2 ∧
      t.cp0.diagDbrc = (s.gpr rt).getLsbD s.params.diag.dbrc) ∧
    (∃ t, exec (.mtc0 rt 25#5) s = .next t ∧ t.perf.ctl0 = w &&& 0x1FF#32)

/-- DMFC0 delivers a 64-bit register as it stands, all its bits (R584), of Diagnostic the writable fields in the places of the default
layout, which is the model's choice (log entry 12), as is the BPState of a table read under way (log entry 36); DMTC0 writes it from all
the bits of the source (R585) through the write masks of R176; of a 32-bit register
they are undefined, and still complete. Every other CP0 register, and everything outside CP0, stays as it was, as for MTC0; the
read-only registers are not changed at all. That the numbers which name no register are not changed either is the model's choice
(R175, log entry 13).
Choices of the model it rests on: notes/assumptions 12, 13, 36, 62. -/
def Obligations.DoublewordMovesReachTheSixtyFourBitRegisters : Prop :=
  ∀ (s : State) (rt x rd : BitVec 5), s.cp0Usable = true → s.mips3 = true →
    (s.cp0.reservedZero = true → ∀ p ∈ cp0WideMasks,
      exec (.dmfc0 x p.1) s = .next (s.setGpr x (s.cp0.wideRegister p.1)).advance ∧ ∃ t, exec (.dmtc0 rt p.1) s = .next t ∧
        exec (.dmfc0 x p.1) t = .next (t.setGpr x ((s.cp0.wideRegister p.1 &&& ~~~p.2) ||| (s.gpr rt &&& p.2))).advance) ∧
    (s.params.diag = Params.default.diag →
      ∃ v, exec (.dmfc0 x 22#5) s = .next (s.setGpr x v).advance ∧ s.ShowsDiagnostic v) ∧
    (∃ v, exec (.dmfc0 rt rd) s = .next (s.setGpr rt v).advance) ∧
    (∃ t, exec (.dmtc0 rt rd) s = .next t ∧ s.OnlyCp0Register rd t) ∧
    (rd ∈ [1#5, 7#5, 8#5, 15#5, 23#5, 24#5, 27#5, 31#5] → exec (.dmtc0 rt rd) s = .next s.advance)

/-- The performance registers 0 and 1 (R590): where CP0 is usable MFPC and MFPS complete with the counter or the control register,
sign-extended, and change nothing else; MTPC and MTPS write one of them, which MFPC and MFPS then read back, a control register only in
its bits 8:0; another number is not valid, and the model stops. A counter counts only with ERL clear and
the enable of its mode set (R1103); at event 1 of counter 1 and event 15 of counter 0 it then counts one for an instruction that
graduated, two for an integer multiply or divide, and none for one that took an exception, and at event 7 of counter 1 the TLB
Refills (R1105 to R1107); a step changes nothing else of the counters' state. Model's choices: the control registers and the mode
before the instruction decide, and a SYNC that waits counts nothing (log entry 29), and KSU = 3 counts as User mode (log entry 17).
Choices of the model it rests on: notes/assumptions 17, 29, 52. -/
def Obligations.PerformanceRegistersReadBackWhatWasWritten : Prop :=
  ∀ (s : State) (rt x reg : BitVec 5),
    (s.cp0Usable = true → reg.toNat ≤ 1 →
      let w := (s.gpr rt).extractLsb' 0 32
      exec (.mfpc x reg) s = .next (s.setGpr x ((if reg = 0#5 then s.perf.cnt0 else s.perf.cnt1).signExtend 64)).advance ∧
      exec (.mfps x reg) s = .next (s.setGpr x ((if reg = 0#5 then s.perf.ctl0 else s.perf.ctl1).signExtend 64)).advance ∧
      (∃ t, exec (.mtpc rt reg) s = .next t ∧ t = { s.advance with perf := t.perf } ∧
        t.perf.ctl0 = s.perf.ctl0 ∧ t.perf.ctl1 = s.perf.ctl1 ∧
        (∀ r : BitVec 5, r.toNat ≤ 1 → r ≠ reg → t.perfCounter r = s.perfCounter r) ∧
        exec (.mfpc x reg) t = .next (t.setGpr x (w.signExtend 64)).advance) ∧
      (∃ t, exec (.mtps rt reg) s = .next t ∧ t = { s.advance with perf := t.perf } ∧
        t.perf.cnt0 = s.perf.cnt0 ∧ t.perf.cnt1 = s.perf.cnt1 ∧
        (∀ r : BitVec 5, r.toNat ≤ 1 → r ≠ reg → t.perfControl r = s.perfControl r) ∧
        exec (.mfps x reg) t = .next (t.setGpr x ((w &&& 0x1FF#32).signExtend 64)).advance)) ∧
    (s.cp0Usable = true → 1 < reg.toNat → ∀ i ∈ [Instr.mtpc rt reg, .mfpc rt reg, .mtps rt reg, .mfps rt reg],
      exec i s = .fault .perfRegisterInvalid) ∧
    (∀ (t : State) (i : Instr),
      let e := s.params.enables
      let on (ctl : Word) : Prop := s.erl = false ∧ (if s.exl then ctl.getLsbD e.exl.val = true
        else (s.ksu = 0b00#2 ∧ ctl.getLsbD e.k.val = true) ∨ (s.ksu = 0b01#2 ∧ ctl.getLsbD e.s.val = true) ∨
          (s.ksu ≠ 0b00#2 ∧ s.ksu ≠ 0b01#2 ∧ ctl.getLsbD e.u.val = true))
      let event (ctl : Word) : BitVec 4 := ctl.extractLsb' 5 4
      let n : Word := if (∃ refill, t.note = .excepted refill) ∨ t.note = .waiting then 0#32
        else if countKind i = .mulDiv then 2#32 else 1#32
      let u := s.countEvents (some (countKind i)) t
      u = { t with perf := { t.perf with cnt0 := u.perf.cnt0, cnt1 := u.perf.cnt1 } } ∧
      (¬ on s.perf.ctl0 → u.perf.cnt0 = t.perf.cnt0) ∧ (¬ on s.perf.ctl1 → u.perf.cnt1 = t.perf.cnt1) ∧
      (on s.perf.ctl0 → event s.perf.ctl0 = 15#4 → u.perf.cnt0 = t.perf.cnt0 + n) ∧
      (on s.perf.ctl1 → event s.perf.ctl1 = 1#4 → u.perf.cnt1 = t.perf.cnt1 + n) ∧
      (on s.perf.ctl1 → event s.perf.ctl1 = 7#4 →
        u.perf.cnt1 = t.perf.cnt1 + (if t.note = .excepted true then 1#32 else 0#32)))

/-- "Whenever their values equal, the interrupt bit IP[7] in the Cause register is set. This interrupt bit is reset whenever the
Compare register is written" (R1088): an MTC0 to Count of Compare's value sets it, an MTC0 to Compare of a value other than
Count's clears it.
Choices of the model it rests on: notes/assumptions 11. -/
def Obligations.TimerInterruptIsSetByEqualityAndClearedByCompare : Prop :=
  ∀ (s : State) (rt : BitVec 5), s.cp0Usable = true →
    let w := (s.gpr rt).extractLsb' 0 32
    (w = s.cp0.compare → ∃ t, exec (.mtc0 rt 9#5) s = .next t ∧ t.cp0.count = w ∧ t.pending.timer = true) ∧
    (w ≠ s.cp0.compare → ∃ t, exec (.mtc0 rt 9#5) s = .next t ∧ t.cp0.count = w ∧ t.pending.timer = s.pending.timer) ∧
    (w ≠ s.cp0.count → ∃ t, exec (.mtc0 rt 11#5) s = .next t ∧ t.cp0.compare = w ∧ t.pending.timer = false)

/-- TLBWI writes the slot Index names and TLBWR the slot Random names, with the PageMask of one of the seven page sizes (R92,
R597, R598): G is the conjunction of both G bits, PFN bits inside the page and those FrameMask covers are zero. Another live entry
dies if and only if it overlaps the new one, that is if some address and ASID could match both, and TS is set exactly if one does,
a dead entry apart, which is the model's choice (log entry 69);
every other slot keeps all its fields (R207). TLBR of that slot then gives the entry back (R596). With another PageMask the operation
is undefined, and the model stops.
Choices of the model it rests on: notes/assumptions 52, 69. -/
def Obligations.TlbWritesAndReadsTransferTheEntry : Prop :=
  ∀ (s : State), s.cp0Usable = true → s.cp0.reservedZero = true →
    let m := s.cp0.pageMask.extractLsb' 13 12
    let legal := m ∈ [0x000#12, 0x003#12, 0x00F#12, 0x03F#12, 0x0FF#12, 0x3FF#12, 0xFFF#12]
    let g := s.cp0.entryLo0 &&& s.cp0.entryLo1 &&& 1#64
    let clash (e : TlbEntry) : Prop := e.dead = false ∧ e.r = s.cp0.entryHi.extractLsb' 62 2 ∧
      (∀ i < 31, (e.mask ||| m).getLsbD i = false → e.vpn2.getLsbD i = s.cp0.entryHi.getLsbD (13 + i)) ∧
      (e.g = true ∨ g = 1#64 ∨ e.asid = s.cp0.entryHi.extractLsb' 0 8)
    let wrote (t : State) (slot : Nat) : Prop :=
      t = { s.advance with tlb := t.tlb, cp0 := { s.cp0 with status := t.cp0.status } } ∧
      (∀ j : Fin 64, j.val = slot → t.tlb.get j = s.cp0.tlbEntry) ∧
      (∀ j : Fin 64, j.val ≠ slot →
        (clash (s.tlb.get j) → t.tlb.get j = { s.tlb.get j with dead := true }) ∧
        (¬ clash (s.tlb.get j) → t.tlb.get j = s.tlb.get j)) ∧
      ((∃ j : Fin 64, j.val ≠ slot ∧ clash (s.tlb.get j)) → t.cp0.status = s.cp0.status ||| 0x00200000#32) ∧
      ((∀ j : Fin 64, j.val ≠ slot → ¬ clash (s.tlb.get j)) → t.cp0.status = s.cp0.status)
    (legal →
      (∃ t u, exec .tlbwi s = .next t ∧ wrote t (s.cp0.index.toNat % 64) ∧ exec .tlbr t = .next u ∧
        u = { t.advance with cp0 := { t.cp0 with
          pageMask := u.cp0.pageMask, entryHi := u.cp0.entryHi, entryLo0 := u.cp0.entryLo0, entryLo1 := u.cp0.entryLo1 } } ∧
        u.cp0.pageMask = s.cp0.pageMask ∧
        u.cp0.entryHi = s.cp0.entryHi &&& ~~~(m.setWidth 64 <<< 13) ∧
        (let keep := ~~~(m.setWidth 64 <<< 6 ||| (s.cp0.frameMask.extractLsb' 0 16).setWidth 64 <<< 18 ||| 1#64)
         u.cp0.entryLo0 = s.cp0.entryLo0 &&& keep ||| g ∧ u.cp0.entryLo1 = s.cp0.entryLo1 &&& keep ||| g)) ∧
      (∃ t, exec .tlbwr s = .next t ∧ wrote t s.cp0.random.toNat)) ∧
    (¬ legal → exec .tlbwi s = .fault .pageMaskInvalid ∧ exec .tlbwr s = .fault .pageMaskInvalid) ∧
    (∃ u, exec .tlbr s = .next u ∧ u = { s.advance with cp0 := { s.cp0 with
      pageMask := u.cp0.pageMask, entryHi := u.cp0.entryHi, entryLo0 := u.cp0.entryLo0, entryLo1 := u.cp0.entryLo1 } })

/-- After TLBWI, TLBP finds exactly the slot that was written (R595, R207): Index becomes that slot with P = 0. A TLBP that no entry
matches sets P, bit 31 of Index, and leaves bits 30:6 zero (R595).
Choices of the model it rests on: notes/assumptions 60. -/
def Obligations.ProbeFindsTheEntryJustWrittenOrSetsTheProbeBit : Prop :=
  (∀ (s t : State), s.cp0Usable = true → exec .tlbwi s = .next t → t.cp0Usable = true →
      ∃ u, exec .tlbp t = .next u ∧ u.cp0.index = s.cp0.index &&& 0x3F#32 ∧
        u = { t.advance with cp0 := { t.cp0 with index := u.cp0.index } }) ∧
  (∀ (s : State), s.cp0Usable = true →
      ∃ u, exec .tlbp s = .next u ∧ u = { s.advance with cp0 := { s.cp0 with index := u.cp0.index } } ∧
        ((∀ j : Fin 64, (s.tlb.get j).hits (s.cp0.entryHi.extractLsb' 62 2) (s.cp0.entryHi.extractLsb' 13 31) s.asid = false) →
          u.cp0.index &&& 0xFFFFFFC0#32 = 0x80000000#32))

/-- An entry that is not dead matches an address when its region and, outside the bits of its MASK, its VPN2 are the address's, and it
is global or has the current ASID (R197). A mapped address is translated by the one entry that matches it (R196 to R201), whose pages have 2^(12+n) bytes, n the number
of ones of its MASK, one of the seven of R92: bit 12 + n of the address selects the even or the odd page, which must be valid, else
TLB Invalid, and for a store writable, else TLB Modified; the physical address is PFN[27:n] over the address's low 12 + n bits.
Without a match it is a TLB Refill. -/
def Obligations.MappedAddressesGoThroughTheMatchingEntry : Prop :=
  (∀ (e : TlbEntry) (va : DWord) (asid : BitVec 8), e.matchesVa va asid = true ↔
      e.dead = false ∧ e.r = va.extractLsb' 62 2 ∧
      (∀ i < 31, e.mask.getLsbD i = false → e.vpn2.getLsbD i = va.getLsbD (13 + i)) ∧ (e.g = true ∨ e.asid = asid)) ∧
  ∀ (s : State) (va : DWord) (kind : Access) (j : Fin 64),
    s.segment va = .mapped →
    ((∀ i : Fin 64, (s.tlb.get i).matchesVa va s.asid = false) → s.translate va kind = .refill) ∧
    ((s.tlb.get j).matchesVa va s.asid = true → (∀ i, i ≠ j → (s.tlb.get i).matchesVa va s.asid = false) →
      ∀ n ∈ [0, 2, 4, 6, 8, 10, 12], (s.tlb.get j).mask = BitVec.ofNat 12 (2 ^ n - 1) →
      let page := if va.getLsbD (12 + n) then (s.tlb.get j).odd else (s.tlb.get j).even
      let pa : Nat := page.pfn.toNat / 2 ^ n * 2 ^ (12 + n) + va.toNat % 2 ^ (12 + n)
      (page.v = false → s.translate va kind = .invalid) ∧
      (page.v = true → kind = .store → page.d = false → s.translate va kind = .modified) ∧
      (page.v = true → (kind = .store → page.d = true) →
        s.translate va kind = .ok ⟨BitVec.ofNat 40 pa, page.c, page.uc⟩))

/-- The fixed segments: kseg0 with Config.K0 and kseg1 uncached in Kernel mode (R187), with the uncached attribute VA[58:57] or the
one the parameter CompatSegUncachedAttr fixes (R219), kuseg uncached with ERL = 1 (R191), and with KX xkphys, whose address names the
cache algorithm, the attribute and PA[39:0] (R189). Which addresses are mapped through the TLB in User, Supervisor and Kernel mode
(R185 to R188), and that every other address is an Address Error (R190). A Kernel access to xksseg with KX = 1 and SX = 0, an Address Error
in R188 and R190, is mapped where the model's parameter xkssegRefill says so, as R1023 and D33 have it (log entry 66).
Choices of the model it rests on: notes/assumptions 59, 66. -/
def Obligations.SegmentsFixWhatIsMappedAndWhatIsLegal : Prop :=
  ∀ (s : State) (va : DWord) (kind : Access),
    (s.mode = .kernel → 0xFFFFFFFF80000000 ≤ va.toNat → va.toNat < 0xFFFFFFFFA0000000 →
      s.translate va kind = .ok ⟨BitVec.ofNat 40 (va.toNat - 0xFFFFFFFF80000000), s.cp0.k0, s.params.compatAttr.getD (va.extractLsb' 57 2)⟩) ∧
    (s.mode = .kernel → 0xFFFFFFFFA0000000 ≤ va.toNat → va.toNat < 0xFFFFFFFFC0000000 →
      s.translate va kind = .ok ⟨BitVec.ofNat 40 (va.toNat - 0xFFFFFFFFA0000000), 2#3, s.params.compatAttr.getD (va.extractLsb' 57 2)⟩) ∧
    (s.erl = true → va.toNat < 0x80000000 →
      s.translate va kind = .ok ⟨BitVec.ofNat 40 va.toNat, 2#3, 0#2⟩) ∧
    (s.mode = .kernel → s.kx = true → 0x8000000000000000 ≤ va.toNat → va.toNat < 0xC000000000000000 →
      let c := va.extractLsb' 59 3
      s.translate va kind =
        if (if c = 2#3 ∨ c = 7#3 then va.extractLsb' 40 17 = 0#17 else va.extractLsb' 40 19 = 0#19) then
          .ok ⟨va.extractLsb' 0 40, c, va.extractLsb' 57 2⟩
        else .addressError) ∧
    (let n := va.toNat
     let mapped : Prop :=
       (s.mode = .user ∧ n < (if s.ux then 0x100000000000 else 0x80000000)) ∨
       (s.mode = .supervisor ∧ (n < 0x80000000 ∨ (0xFFFFFFFFC0000000 ≤ n ∧ n < 0xFFFFFFFFE0000000) ∨
         (s.sx = true ∧ s.ux = true ∧ n < 0x100000000000) ∨
         (s.sx = true ∧ 0x4000000000000000 ≤ n ∧ n < 0x4000100000000000))) ∨
       (s.mode = .kernel ∧ ((s.erl = false ∧ n < 0x80000000) ∨ 0xFFFFFFFFC0000000 ≤ n ∨
         (s.kx = true ∧ ((s.ux = true ∧ s.erl = false ∧ n < 0x100000000000) ∨
           ((s.sx = true ∨ s.params.xkssegRefill = true) ∧ 0x4000000000000000 ≤ n ∧ n < 0x4000100000000000) ∨
           (0xC000000000000000 ≤ n ∧ n < 0xC0000FFF00000000)))))
     let fixed : Prop := s.mode = .kernel ∧ ((s.erl = true ∧ n < 0x80000000) ∨
       (0xFFFFFFFF80000000 ≤ n ∧ n < 0xFFFFFFFFC0000000) ∨
       (s.kx = true ∧ 0x8000000000000000 ≤ n ∧ n < 0xC000000000000000))
     (s.segment va = .mapped ↔ mapped) ∧ (¬ mapped → ¬ fixed → s.translate va kind = .addressError))

/-! ## Memory accesses -/

/-- A load or store whose address is not a multiple of its size takes Address Error, AdEL for loads and AdES for stores, with
BadVAddr the address (R232, R801, R1031); nothing is read or written, whatever the address maps to. Address Error is an exception entry
with code 4 or 5 after BadVAddr was written and the VPN fields of Context, XContext and EntryHi, which it leaves undefined (log entry 60).
Choices of the model it rests on: notes/assumptions 53, 60. -/
def Obligations.MisalignedAccessesTakeAddressError : Prop :=
  ∀ (s : State) (base rt index : BitVec 5) (off : BitVec 16),
    let a := s.dataAddress (s.ea base off)
    let x := s.dataAddress (s.eaIndexed base index)
    (∀ store va, ∃ c x h,
      s.addressError store va = ({ s with cp0 := { s.cp0 with badVAddr := va, context := c, xContext := x, entryHi := h } } :
        State).takeException (if store then 5#5 else 4#5) ∧
      c.extractLsb' 23 41 = s.cp0.context.extractLsb' 23 41 ∧ c.extractLsb' 0 4 = s.cp0.context.extractLsb' 0 4 ∧
      x.extractLsb' 37 27 = s.cp0.xContext.extractLsb' 37 27 ∧ x.extractLsb' 0 4 = s.cp0.xContext.extractLsb' 0 4 ∧
      h.extractLsb' 44 18 = s.cp0.entryHi.extractLsb' 44 18 ∧ h.extractLsb' 0 13 = s.cp0.entryHi.extractLsb' 0 13) ∧
    (∀ p ∈ [(Instr.lh base rt off, 2), (.lhu base rt off, 2), (.lw base rt off, 4), (.ll base rt off, 4)],
      a.toNat % p.2 ≠ 0 → exec p.1 s = .next (s.addressError false a)) ∧
    (∀ p ∈ [(Instr.sh base rt off, 2), (.sw base rt off, 4), (.sc base rt off, 4)],
      a.toNat % p.2 ≠ 0 → exec p.1 s = .next (s.addressError true a)) ∧
    (s.mips3 = true →
      (∀ p ∈ [(Instr.lwu base rt off, 4), (.ld base rt off, 8), (.lld base rt off, 8)],
        a.toNat % p.2 ≠ 0 → exec p.1 s = .next (s.addressError false a)) ∧
      (∀ p ∈ [(Instr.sd base rt off, 8), (.scd base rt off, 8)],
        a.toNat % p.2 ≠ 0 → exec p.1 s = .next (s.addressError true a))) ∧
    (s.cu1 = true →
      (a.toNat % 4 ≠ 0 → exec (.lwc1 base rt off) s = .next (s.addressError false a) ∧
        exec (.swc1 base rt off) s = .next (s.addressError true a)) ∧
      (s.mips4 = true → x.toNat % 4 ≠ 0 → exec (.lwxc1 base index rt) s = .next (s.addressError false x) ∧
        exec (.swxc1 base index rt) s = .next (s.addressError true x)) ∧
      (s.fr = true ∨ rt.getLsbD 0 = false →
        (a.toNat % 8 ≠ 0 → exec (.ldc1 base rt off) s = .next (s.addressError false a) ∧
          exec (.sdc1 base rt off) s = .next (s.addressError true a)) ∧
        (s.mips4 = true → x.toNat % 8 ≠ 0 → exec (.ldxc1 base index rt) s = .next (s.addressError false x) ∧
          exec (.sdxc1 base index rt) s = .next (s.addressError true x))))

/-- The aligned integer loads in kseg1: the register receives the bytes at the physical address in the memory's byte order,
sign-extended or zero-extended (R230, R806 to R812); on the System interface this is one read request of that size at that address (R350,
R440), and besides that, the destination and the pc only the load link changes (R510).
Choices of the model it rests on: notes/assumptions 59. -/
def Obligations.LoadsDeliverTheBytesOfMemoryExtended : Prop :=
  ∀ (s : State) (base rt : BitVec 5) (off : BitVec 16),
    let va := s.ea base off
    let n (k : Nat) : Nat := bytesAt s.memEnd s.mem (kseg1Pa va) k
    let loaded (k : Nat) (v : DWord) : Out := .next ((s.breakLink.afterRead (kseg1Pa va) k).setGpr rt v).advance
    (s.PlainByte va false →
      exec (.lb base rt off) s = loaded 1 (reg64 (Int.bmod (n 1) (2 ^ 8))) ∧
      exec (.lbu base rt off) s = loaded 1 (reg64 (n 1))) ∧
    (s.Plain va 2 false →
      exec (.lh base rt off) s = loaded 2 (reg64 (Int.bmod (n 2) (2 ^ 16))) ∧
      exec (.lhu base rt off) s = loaded 2 (reg64 (n 2))) ∧
    (s.Plain va 4 false →
      exec (.lw base rt off) s = loaded 4 (reg64 (wrap32 (n 4))) ∧
      exec (.lwu base rt off) s = loaded 4 (reg64 (n 4))) ∧
    (s.Plain va 8 false →
      exec (.ld base rt off) s = loaded 8 (reg64 (n 8)))

/-- The aligned integer stores in kseg1: the low bytes of the register go to the bytes from the physical address on, in the
memory's byte order, and every other byte of memory keeps its value; on the System interface this is one write request of that size
at that address (R359, R440), and besides these and the pc only the load link changes (R230, R510, R813 to R816).
Choices of the model it rests on: notes/assumptions 59. -/
def Obligations.StoresChangeExactlyTheirBytes : Prop :=
  ∀ (s : State) (base rt : BitVec 5) (off : BitVec 16), Memory.wf s.mem = true →
    let va := s.ea base off
    let pa := kseg1Pa va
    let stored (t : State) (n : Nat) : Prop :=
      t = { s.breakLink with mem := t.mem, bus := t.bus }.advance ∧ s.WroteOnce t pa n ∧
      ∀ a, Memory.read t.mem a =
        if pa ≤ a ∧ a < pa + n then BitVec.ofNat 8 (byteOf s.memEnd ((s.gpr rt).toNat % 256 ^ n) n (a - pa))
        else Memory.read s.mem a
    (s.PlainByte va true → ∃ t, exec (.sb base rt off) s = .next t ∧ stored t 1) ∧
    (s.Plain va 2 true → ∃ t, exec (.sh base rt off) s = .next t ∧ stored t 2) ∧
    (s.Plain va 4 true → ∃ t, exec (.sw base rt off) s = .next t ∧ stored t 4) ∧
    (s.Plain va 8 true → ∃ t, exec (.sd base rt off) s = .next t ∧ stored t 8)

/-- The floating-point loads and stores in kseg1, CP1 usable (R622, R830 to R837): words and doublewords between memory and the
register as R622 places them, by one read or write request of that size (R350, R359, R440), with nothing else changed but the link and
the pc; the indexed forms in MIPS IV. A doubleword form
that names an odd register with FR = 0 is invalid, and the model stops.
Choices of the model it rests on: notes/assumptions 52, 59. -/
def Obligations.FloatingPointLoadsAndStoresMoveBits : Prop :=
  ∀ (s : State) (base index ft : BitVec 5) (off : BitVec 16), s.cu1 = true → Memory.wf s.mem = true →
    let n (va : DWord) (k : Nat) : Nat := bytesAt s.memEnd s.mem (kseg1Pa va) k
    let stored (t : State) (va : DWord) (v n : Nat) : Prop :=
      t = { s.breakLink with mem := t.mem, bus := t.bus }.advance ∧ s.WroteOnce t (kseg1Pa va) n ∧
      ∀ a, Memory.read t.mem a =
        if kseg1Pa va ≤ a ∧ a < kseg1Pa va + n then BitVec.ofNat 8 (byteOf s.memEnd v n (a - kseg1Pa va))
        else Memory.read s.mem a
    (∀ p ∈ (Instr.lwc1 base ft off, s.ea base off) ::
        (if s.mips4 then [(.lwxc1 base index ft, s.eaIndexed base index)] else []), s.Plain p.2 4 false →
      exec p.1 s = .next ((s.breakLink.afterRead (kseg1Pa p.2) 4).setFpr32 ft (BitVec.ofNat 32 (n p.2 4))).advance) ∧
    (∀ p ∈ (Instr.swc1 base ft off, s.ea base off) ::
        (if s.mips4 then [(.swxc1 base index ft, s.eaIndexed base index)] else []), s.Plain p.2 4 true →
      ∃ t, exec p.1 s = .next t ∧ stored t p.2 (s.fpr32 ft).toNat 4) ∧
    (s.fr = true ∨ ft.getLsbD 0 = false →
      (∀ p ∈ (Instr.ldc1 base ft off, s.ea base off) ::
          (if s.mips4 then [(.ldxc1 base index ft, s.eaIndexed base index)] else []),
        s.Plain p.2 8 false →
          exec p.1 s = .next ((s.breakLink.afterRead (kseg1Pa p.2) 8).setFpr ft (BitVec.ofNat 64 (n p.2 8))).advance) ∧
      (∀ p ∈ (Instr.sdc1 base ft off, s.ea base off) ::
          (if s.mips4 then [(.sdxc1 base index ft, s.eaIndexed base index)] else []),
        s.Plain p.2 8 true → ∃ t, exec p.1 s = .next t ∧ stored t p.2 (s.fpr ft).toNat 8)) ∧
    (s.fr = false → ft.getLsbD 0 = true →
      ∀ i ∈ [Instr.ldc1 base ft off, .sdc1 base ft off] ++
          (if s.mips4 then [.ldxc1 base index ft, .sdxc1 base index ft] else []),
        exec i s = .fault .fpOddDoubleword)

/-- The unaligned loads in kseg1 (R820 to R823): the c bytes a left form transfers become the most significant bytes of its word
or doubleword of the register, those of a right form the least significant ones, and the register's other bytes of it stay; the
32-bit forms sign-extend, but for a right form that loads no sign bit over a register that held no word, whose upper half is
undefined. On the System interface this is one read request for the bytes transferred (R350, R440).
Choices of the model it rests on: notes/assumptions 59, 61. -/
def Obligations.UnalignedLoadsMergeTheirBytes : Prop :=
  ∀ (s : State) (base rt : BitVec 5) (off : BitVec 16), s.PlainByte (s.ea base off) false →
    let va := s.ea base off
    let old := (s.gpr rt).toNat
    let c4 := leftCount s.memEnd va 4
    let d4 := rightCount s.memEnd va 4
    let c8 := leftCount s.memEnd va 8
    let d8 := rightCount s.memEnd va 8
    let left (n c : Nat) (v : DWord) : Out :=
      .next ((s.breakLink.afterRead (if s.memEnd then kseg1Pa va else kseg1Pa va - va.toNat % n) c).setGpr rt v).advance
    let right (n c : Nat) (v : DWord) : Out :=
      .next ((s.breakLink.afterRead (if s.memEnd then kseg1Pa va - va.toNat % n else kseg1Pa va) c).setGpr rt v).advance
    exec (.lwl base rt off) s =
      left 4 c4 (reg64 (wrap32 (leftBytes s va 4 * 256 ^ (4 - c4) + old % 256 ^ (4 - c4) : Nat))) ∧
    (∃ v, exec (.lwr base rt off) s = right 4 d4 v ∧
      v.toNat % 2 ^ 32 = rightBytes s va 4 + old % 2 ^ 32 / 256 ^ d4 * 256 ^ d4 ∧
      (d4 = 4 ∨ FitsWord (s.gpr rt) → FitsWord v)) ∧
    exec (.ldl base rt off) s = left 8 c8 (reg64 (leftBytes s va 8 * 256 ^ (8 - c8) + old % 256 ^ (8 - c8) : Nat)) ∧
    exec (.ldr base rt off) s = right 8 d8 (reg64 (rightBytes s va 8 + old / 256 ^ d8 * 256 ^ d8 : Nat))

/-- The unaligned stores in kseg1 (R824 to R827): a left form stores the most significant c bytes of its word or doubleword of
the register, a right form the least significant c, to the bytes it transfers, in the memory's byte order; every other byte of
memory keeps its value; on the System interface this is one partial-word, word or doubleword write request (R359, R440), and besides
these only the link and the pc change.
Choices of the model it rests on: notes/assumptions 59. -/
def Obligations.UnalignedStoresChangeExactlyTheirBytes : Prop :=
  ∀ (s : State) (base rt : BitVec 5) (off : BitVec 16), s.PlainByte (s.ea base off) true → Memory.wf s.mem = true →
    let va := s.ea base off
    let r := (s.gpr rt).toNat
    let stored (t : State) (start v n : Nat) : Prop :=
      t = { s.breakLink with mem := t.mem, bus := t.bus }.advance ∧ s.WroteOnce t start n ∧
      ∀ a, Memory.read t.mem a =
        if start ≤ a ∧ a < start + n then BitVec.ofNat 8 (byteOf s.memEnd v n (a - start)) else Memory.read s.mem a
    let leftStart (n : Nat) : Nat := if s.memEnd then kseg1Pa va else kseg1Pa va - va.toNat % n
    let rightStart (n : Nat) : Nat := if s.memEnd then kseg1Pa va - va.toNat % n else kseg1Pa va
    (∃ t, exec (.swl base rt off) s = .next t ∧
      stored t (leftStart 4) (r % 2 ^ 32 / 256 ^ (4 - leftCount s.memEnd va 4)) (leftCount s.memEnd va 4)) ∧
    (∃ t, exec (.swr base rt off) s = .next t ∧ stored t (rightStart 4) r (rightCount s.memEnd va 4)) ∧
    (∃ t, exec (.sdl base rt off) s = .next t ∧
      stored t (leftStart 8) (r / 256 ^ (8 - leftCount s.memEnd va 8)) (leftCount s.memEnd va 8)) ∧
    (∃ t, exec (.sdr base rt off) s = .next t ∧ stored t (rightStart 8) r (rightCount s.memEnd va 8))

/-- Load Linked loads as LW or LD does, by one read request (R350, R440), and sets the link to the block of its address (R511, R512); Store Conditional, with the
link intact, stores by one write request (R359) and writes 1, and without it stores nothing and writes 0, in both cases breaking the link (R513, R514); all
in kseg1, where the outcome with an intact link set by a cached Load Linked is as for any store.
Choices of the model it rests on: notes/assumptions 28, 59. -/
def Obligations.LinkedLoadsAndConditionalStores : Prop :=
  ∀ (s : State) (base rt : BitVec 5) (off : BitVec 16), Memory.wf s.mem = true →
    let va := s.ea base off
    let pa := kseg1Pa va
    let n (k : Nat) : Nat := bytesAt s.memEnd s.mem pa k
    let linked (t : State) : State :=
      { t with link := ⟨true, s.blockBase (BitVec.ofNat 40 pa), true⟩ }
    let stored (t : State) (n : Nat) : Prop :=
      t = ({ s.breakLink with mem := t.mem, bus := t.bus }.setGpr rt 1#64).advance ∧ s.WroteOnce t pa n ∧
      ∀ a, Memory.read t.mem a =
        if pa ≤ a ∧ a < pa + n then BitVec.ofNat 8 (byteOf s.memEnd ((s.gpr rt).toNat % 256 ^ n) n (a - pa))
        else Memory.read s.mem a
    (s.Plain va 4 false →
      exec (.ll base rt off) s = .next (linked ((s.afterRead pa 4).setGpr rt (reg64 (wrap32 (n 4))))).advance) ∧
    (s.Plain va 8 false → exec (.lld base rt off) s = .next (linked ((s.afterRead pa 8).setGpr rt (reg64 (n 8)))).advance) ∧
    (s.link.bit = true → s.link.uncached = false →
      (s.Plain va 4 true → ∃ t, exec (.sc base rt off) s = .next t ∧ stored t 4) ∧
      (s.Plain va 8 true → ∃ t, exec (.scd base rt off) s = .next t ∧ stored t 8)) ∧
    (s.link.bit = false →
      (s.Plain va 4 true →
        exec (.sc base rt off) s = .next { s.breakLink.setGpr rt 0#64 with note := .scFailed }.advance) ∧
      (s.Plain va 8 true →
        exec (.scd base rt off) s = .next { s.breakLink.setGpr rt 0#64 with note := .scFailed }.advance))

/-- SYNC breaks the link and does nothing else, once no uncached store but accelerated ones waits in the uncached buffer and
SysGblPerf* is asserted; until then it has not graduated and runs again (R412, R505, R510). A prefetch never raises an exception
(R502, R503): with every hint and every address it completes, moving nothing but storage and the pc; it waits only while the outgoing
buffer holds a block (R344; log entry 40), and the model stops where the address is cached and a tag of its data cache set holds its page in the refill state, from which the spec says the
processor hangs (R1153, log entry 43). Where its address cannot be translated or is uncached, it only breaks the link.
Choices of the model it rests on: notes/assumptions 38, 40, 43, 47, 55. -/
def Obligations.PrefetchAndSyncChangeNoRegister : Prop :=
  ∀ (s : State) (base index hint : BitVec 5) (off : BitVec 16),
    ((∀ x ∈ s.bus.fifo, x.accelerated = true) → (∀ b ∈ s.bus.ready, b.accelerated = true) → s.bus.gblPerf = true →
      exec .sync s = .next s.breakLink.advance) ∧
    ((∃ x ∈ s.bus.fifo, x.accelerated = false) ∨ (∃ b ∈ s.bus.ready, b.accelerated = false) ∨ s.bus.gblPerf = false →
      exec .sync s = .next { s.breakLink with note := .waiting }) ∧
    (s.mips4 = true →
      let kind := if hint = 1#5 ∨ hint = 5#5 ∨ hint = 7#5 then Access.store else .pref
      ∀ p ∈ (Instr.pref base hint off, s.dataAddress (s.ea base off)) ::
        (if s.cu1 then [(Instr.prefx base index hint, s.dataAddress (s.eaIndexed base index))] else []),
      ((∀ q w, s.translate p.2 kind = .ok q →
          ¬ ((s.dTagAt (wayKey (dSet p.2) w)).mod = 0b100#3 ∧ (s.dTagAt (wayKey (dSet p.2) w)).tag = q.pa.extractLsb' 12 28)) →
        ∃ t u, exec p.1 s = .next t ∧ s.SameCore u ∧
          (t = u.advance ∨ (s.bus.outgoing ≠ [] ∧ t = { u with note := .waiting }))) ∧
      ((∀ q, s.translate p.2 kind = .ok q → algCached q.alg = false) → exec p.1 s = .next s.breakLink.advance))

/-- Wherever an access succeeds, through TLB and caches or not, the load completes with what the access read and the store with
what it wrote, and between the state before and the state the access leaves only storage moved: no register, no TLB entry, no CP0
register (R801 to R803, R806 to R837, R511 to R514). This is said of every load and store: the integer ones, the unaligned family, of
which the bytes of the unit at or below the address in significance come from memory or go to it (R820 to R827), Load Linked, Store
Conditional, and the floating-point ones.
In kseg1 every load and store in the doubleword that WatchLo and WatchHi name, of a kind WatchLo enables, takes Watch, code 23, and
reads and writes nothing (R1055). With EXL or ERL set it completes as it would without the watchpoint, with a Watch pending (R1056): a
store then changes its own bytes and no other, by one write request. A load or fetch the external agent answers with ERR takes Bus Error,
code 7 or 6 (R1040), after its one read request.
Choices of the model it rests on: notes/assumptions 41, 59, 61. -/
def Obligations.AccessesThatSucceedCompleteAndTouchNoRegister : Prop :=
  ∀ (s t : State) (base index rt : BitVec 5) (off : BitVec 16) (v : DWord),
    let va := s.ea base off
    let vx := s.eaIndexed base index
    (∀ a n, (s.read a n = .ok v t → s.SameCore t) ∧ (∀ p, s.readPhys a n = .ok (p, v) t → s.SameCore t) ∧
      (∀ l, s.readPart a n l = .ok v t → s.SameCore t) ∧ (∀ x, s.write a n x = .ok () t → s.SameCore t) ∧
      (∀ l x, s.writePart a n l x = .ok () t → s.SameCore t) ∧
      (∀ ok x, s.writeLinked a n x = .ok ok t → s.SameCore t ∧ t.link.bit = false ∧
        (ok = true → s.link.bit = true) ∧ (ok = false → t.mem = s.mem ∧ t.caches = s.caches))) ∧
    (s.read va 1 = .ok v t →
      exec (.lb base rt off) s = .next (t.setGpr rt ((v.extractLsb' 0 8).signExtend 64)).advance ∧
      exec (.lbu base rt off) s = .next (t.setGpr rt v).advance) ∧
    (s.read va 2 = .ok v t →
      exec (.lh base rt off) s = .next (t.setGpr rt ((v.extractLsb' 0 16).signExtend 64)).advance ∧
      exec (.lhu base rt off) s = .next (t.setGpr rt v).advance) ∧
    (s.read va 4 = .ok v t →
      exec (.lw base rt off) s = .next (t.setGpr rt ((v.extractLsb' 0 32).signExtend 64)).advance ∧
      (s.mips3 = true → exec (.lwu base rt off) s = .next (t.setGpr rt v).advance) ∧
      (s.cu1 = true → exec (.lwc1 base rt off) s = .next (t.setFpr32 rt (v.extractLsb' 0 32)).advance)) ∧
    (s.read vx 4 = .ok v t → s.cu1 = true → s.mips4 = true →
      exec (.lwxc1 base index rt) s = .next (t.setFpr32 rt (v.extractLsb' 0 32)).advance) ∧
    (s.read va 8 = .ok v t →
      (s.mips3 = true → exec (.ld base rt off) s = .next (t.setGpr rt v).advance) ∧
      (s.cu1 = true → s.evenOrFr rt = true → exec (.ldc1 base rt off) s = .next (t.setFpr rt v).advance)) ∧
    (s.read vx 8 = .ok v t → s.cu1 = true → s.mips4 = true → s.evenOrFr rt = true →
      exec (.ldxc1 base index rt) s = .next (t.setFpr rt v).advance) ∧
    (∀ p, s.readPhys va 4 = .ok (p, v) t → exec (.ll base rt off) s =
      .next { t.setGpr rt ((v.extractLsb' 0 32).signExtend 64) with link := ⟨true, s.blockBase p.pa, !algCached p.alg⟩ }.advance) ∧
    (∀ p, s.mips3 = true → s.readPhys va 8 = .ok (p, v) t → exec (.lld base rt off) s =
      .next { t.setGpr rt v with link := ⟨true, s.blockBase p.pa, !algCached p.alg⟩ }.advance) ∧
    (s.write va 1 (s.gpr rt) = .ok () t → exec (.sb base rt off) s = .next t.advance) ∧
    (s.write va 2 (s.gpr rt) = .ok () t → exec (.sh base rt off) s = .next t.advance) ∧
    (s.write va 4 (s.gpr rt) = .ok () t → exec (.sw base rt off) s = .next t.advance) ∧
    (s.mips3 = true → s.write va 8 (s.gpr rt) = .ok () t → exec (.sd base rt off) s = .next t.advance) ∧
    (s.cu1 = true →
      (s.write va 4 ((s.fpr32 rt).setWidth 64) = .ok () t → exec (.swc1 base rt off) s = .next t.advance) ∧
      (s.mips4 = true → s.write vx 4 ((s.fpr32 rt).setWidth 64) = .ok () t → exec (.swxc1 base index rt) s = .next t.advance) ∧
      (s.evenOrFr rt = true →
        (s.write va 8 (s.fpr rt) = .ok () t → exec (.sdc1 base rt off) s = .next t.advance) ∧
        (s.mips4 = true → s.write vx 8 (s.fpr rt) = .ok () t → exec (.sdxc1 base index rt) s = .next t.advance))) ∧
    (∀ ok, let u : State := t.setGpr rt (if ok then 1#64 else 0#64)
      (s.writeLinked va 4 (s.gpr rt) = .ok ok t →
        exec (.sc base rt off) s = .next { u with note := if ok then u.note else .scFailed }.advance) ∧
      (s.mips3 = true → s.writeLinked va 8 (s.gpr rt) = .ok ok t →
        exec (.scd base rt off) s = .next { u with note := if ok then u.note else .scFailed }.advance)) ∧
    (let byte (n : Nat) : Nat :=
       if s.bigEndianCpu then n - 1 - (s.dataAddress va).toNat % n else (s.dataAddress va).toNat % n
     let b := byte 4
     let c := byte 8
     let old := (s.gpr rt).toNat
     (s.readPart va 4 true = .ok v t → exec (.lwl base rt off) s = .next (t.setGpr rt
       (reg64 (wrap32 (v.toNat % 256 ^ (b + 1) * 256 ^ (3 - b) + old % 256 ^ (3 - b) : Nat)))).advance) ∧
     (s.readPart va 4 false = .ok v t → ∃ x, exec (.lwr base rt off) s = .next (t.setGpr rt x).advance ∧
       x.toNat % 2 ^ 32 = v.toNat % 2 ^ 32 / 256 ^ b + old % 2 ^ 32 / 256 ^ (4 - b) * 256 ^ (4 - b) ∧
       (b = 0 ∨ FitsWord (s.gpr rt) → FitsWord x)) ∧
     (s.mips3 = true → s.readPart va 8 true = .ok v t → exec (.ldl base rt off) s = .next (t.setGpr rt
       (reg64 (v.toNat % 256 ^ (c + 1) * 256 ^ (7 - c) + old % 256 ^ (7 - c) : Nat))).advance) ∧
     (s.mips3 = true → s.readPart va 8 false = .ok v t → exec (.ldr base rt off) s = .next (t.setGpr rt
       (reg64 (v.toNat / 256 ^ c + old / 256 ^ (8 - c) * 256 ^ (8 - c) : Nat))).advance) ∧
     (s.writePart va 4 true (BitVec.ofNat 64 (old % 2 ^ 32 / 256 ^ (3 - b))) = .ok () t →
       exec (.swl base rt off) s = .next t.advance) ∧
     (s.writePart va 4 false (BitVec.ofNat 64 (old * 256 ^ b % 2 ^ 32)) = .ok () t →
       exec (.swr base rt off) s = .next t.advance) ∧
     (s.mips3 = true → s.writePart va 8 true (BitVec.ofNat 64 (old / 256 ^ (7 - c))) = .ok () t →
       exec (.sdl base rt off) s = .next t.advance) ∧
     (s.mips3 = true → s.writePart va 8 false (BitVec.ofNat 64 (old * 256 ^ c)) = .ok () t →
       exec (.sdr base rt off) s = .next t.advance)) ∧
    (s.mode = .kernel →
     let loads := s.loadForms base index rt off
     let stores := s.storeForms base index rt off
     let later : State := { s with pending := { s.pending with watch := true } }
     (∀ p ∈ loads, InKseg1 p.va p.align → s.Watched p.va false →
       (s.exl = false → s.erl = false → exec p.instr s = .next (s.takeException 23#5)) ∧
       (s.exl = true ∨ s.erl = true → s.QuietBus → s.bus.errAddrs = [] →
         ∃ u, exec p.instr { s with cp0 := { s.cp0 with watchLo := 0#32 } } = .next u ∧
           exec p.instr s = .next { u with
             cp0 := { u.cp0 with watchLo := s.cp0.watchLo }, pending := { u.pending with watch := true } })) ∧
     (s.exl = true ∨ s.erl = true → s.QuietBus → s.bus.errAddrs = [] → InKseg1 va 4 → s.Watched va false →
       exec (.lw base rt off) s =
         .next ((later.breakLink.afterRead (kseg1Pa va) 4).setGpr rt (reg64 (wrap32 (bytesAt s.memEnd s.mem (kseg1Pa va) 4)))).advance) ∧
     (∀ p ∈ stores.map StoreForm.toMemForm ++ s.scForms base rt off, InKseg1 p.va p.align → s.Watched p.va true →
       s.exl = false → s.erl = false → exec p.instr s = .next (s.takeException 23#5)) ∧
     (∀ p ∈ s.scForms base rt off, InKseg1 p.va p.align → s.Watched p.va true → s.exl = true ∨ s.erl = true → s.QuietBus →
       ∃ u, exec p.instr { s with cp0 := { s.cp0 with watchLo := 0#32 } } = .next u ∧
         exec p.instr s = .next { u with
           cp0 := { u.cp0 with watchLo := s.cp0.watchLo }, pending := { u.pending with watch := true } }) ∧
     (∀ p ∈ stores, InKseg1 p.va p.align → s.Watched p.va true → s.exl = true ∨ s.erl = true → s.QuietBus →
       Memory.wf s.mem = true →
       ∃ t, exec p.instr s = .next t ∧ t = { later.breakLink with mem := t.mem, bus := t.bus }.advance ∧
         s.WroteOnce t p.start p.count ∧ ∀ a, Memory.read t.mem a =
           if p.start ≤ a ∧ a < p.start + p.count then BitVec.ofNat 8 (byteOf s.memEnd p.value p.count (a - p.start))
           else Memory.read s.mem a) ∧
     (s.QuietBus →
       (∀ p ∈ loads, InKseg1 p.va p.align → ¬ s.Watched p.va false → (∃ e ∈ s.bus.errAddrs, e / 8 = kseg1Pa p.va / 8) →
         exec p.instr s = .next ((s.breakLink.afterRead p.start p.count).takeException 7#5)) ∧
       (InKseg1 s.pc 4 → (∃ e ∈ s.bus.errAddrs, e / 8 = kseg1Pa s.pc / 8) → 
         s.fetch = .trap ((s.afterRead (kseg1Pa s.pc) 4).takeException 6#5))))

/-- A load after a store to the same address of the same size delivers the bytes that were stored, through whatever path both
took: uncached, buffered, gathered, or any state of the caches (R217, R276, R345). Canonical storage is the premise, and an external
agent that answers reads with what memory holds: no data response it has given for requests to come names a doubleword of its own.
What other addresses deliver stays as it was. Past the caches: after an uncached store, an uncached load of other bytes delivers what it
would have delivered before. Through the caches: where they are coherent and the agent answers at once, a cached load delivers after a
cached store of other bytes, after a cached load, after a prefetch and after an instruction fetch what it would have delivered before, whatever blocks these
filled, moved, upgraded, purged or wrote back, and the caches stay coherent ("A prefetch changes ... no memory location", R500; R240,
R276, R278, R290, R296). -/
def Obligations.LoadAfterStoreDeliversWhatWasStored : Prop :=
  (∀ (s t u : State) (va v x : DWord) (n : Nat), n = 1 ∨ n = 2 ∨ n = 4 ∨ n = 8 → s.canonical = true →
    (∀ a ∈ s.bus.replies, ∀ d, a.data = some d → d.word = none) → s.write va n v = .ok () t → t.read va n = .ok x u → x.toNat = v.toNat % 256 ^ n) ∧
  (∀ (s t u u' : State) (va va' v x y : DWord) (n m : Nat) (pa pa' : PAddr),
    (n = 1 ∨ n = 2 ∨ n = 4 ∨ n = 8) → (m = 1 ∨ m = 2 ∨ m = 4 ∨ m = 8) → s.canonical = true → s.reverseEndian = false →
    let apart := pa.toNat + n ≤ pa'.toNat ∨ pa'.toNat + m ≤ pa.toNat
    (s.GoesTo va .store false pa → s.GoesTo va' .load false pa' → apart → (∀ a ∈ s.bus.replies, ∀ d, a.data = some d → d.word = none) →
      s.write va n v = .ok () t → s.read va' m = .ok y u' → t.read va' m = .ok x u → x = y) ∧
    (s.Coherent → s.bus.replies = [] → s.bus.errAddrs = [] → s.GoesTo va' .load true pa' →
      (s.GoesTo va .store true pa ∧ apart ∧ s.write va n v = .ok () t) ∨
      (s.GoesTo va .load true pa ∧ s.read va n = .ok v t) ∨ (∃ hint, s.prefetch va hint = .ok () t) ∨ (∃ w, s.fetch = .ok w t) →
      t.Coherent ∧ (s.read va' m = .ok y u' → t.read va' m = .ok x u → x = y)))

/-! ## Floating point -/

/-- ADD, SUB, MUL, DIV, SQRT, ABS and NEG in both formats, CP1 usable, and RECIP and RSQRT where MIPS IV is enabled: they complete with
the result of the operation in the current rounding mode, or take the exception its status raises (R635, R637, R930 to R939); on a
denormalized or NaN operand the unit may instead not perform them (R640).
What the operations deliver, where the sums, products and roots of finite operands are another statement's. A signalling NaN makes every
operation Invalid, with the default quiet NaN; of quiet ones an operand is delivered (R650), which one of two, and that one alone is
delivered as it stands, being the model's choice (log entry 21); the conversions deliver a quiet NaN of their format, of which the model
chooses no more (log entry 22), or, to W, the largest integer with V (R650). That a NaN converted to L delivers 7FFFFFFFFFFFFFFF with V
and without E is the model's choice (log entry 23); which denormalized and NaN operands the unit does not perform is left free
(log entry 26). ABS clears and NEG inverts the sign bit, without status (R935, R937). RECIP and RSQRT of a
finite nonzero operand have the value and the status of rounding the exact result: what an overflow delivers where it overflows, else the
correctly rounded number, zero with the exact result's sign, E, V, Z and O clear, I exactly where it is inexact, and U exactly where it is
tiny and inexact (the model's choice, log entry 20); with the parameter RecipExact off a result whose status is I alone (the model's choice,
log entry 24) may lie within one and two units in the last place of that (R650, R938, R939). Of zero they divide by zero, and RSQRT of a
negative operand is Invalid.
What becomes of a denormalized result (R632): with FS, bit 24 of FSR, clear it raises Unimplemented Operation, bit 5 of the status, with
Underflow beside it if that is enabled; with FS set it becomes a zero of its sign without status; another result stays as it is.
Choices of the model it rests on: notes/assumptions 20, 21, 22, 23, 24, 26. -/
def Obligations.FloatingPointArithmeticCompletesOrRaisesItsStatus : Prop :=
  (∀ (s : State) (ft fs fd : BitVec 5) (f : Fmt), s.cu1 = true →
    let a := s.operand f fs
    let b := s.operand f ft
    let i (x y : Instr) : Instr := match f with | .s => x | .d => y
    let runs (x : Instr) (ops : List DWord) (r : FpRes) : Prop := s.Performs x f ops f fd r
    runs (i (.addS ft fs fd) (.addD ft fs fd)) [a, b] (f.add s.rm s.nanPick a b) ∧
    runs (i (.subS ft fs fd) (.subD ft fs fd)) [a, b] (f.sub s.rm s.nanPick a b) ∧
    runs (i (.mulS ft fs fd) (.mulD ft fs fd)) [a, b] (f.mul s.rm s.nanPick a b) ∧
    runs (i (.divS ft fs fd) (.divD ft fs fd)) [a, b] (f.div s.rm s.nanPick a b) ∧
    runs (i (.sqrtS fs fd) (.sqrtD fs fd)) [a] (f.sqrt s.rm a) ∧
    runs (i (.absS fs fd) (.absD fs fd)) [a] (f.abs a) ∧
    runs (i (.negS fs fd) (.negD fs fd)) [a] (f.neg a) ∧
    (s.mips4 = true →
      runs (i (.recipS fs fd) (.recipD fs fd)) [a] (f.recip s.params.recipExact s.rm a) ∧
      runs (i (.rsqrtS fs fd) (.rsqrtD fs fd)) [a] (f.rsqrt s.params.recipExact s.rm a))) ∧
  (∀ (f g : Fmt) (rm : BitVec 2) (exact pick : Bool) (c : Nat) (limit : Int) (a b : DWord),
    let two := [f.add rm pick a b, f.sub rm pick a b, f.mul rm pick a b, f.div rm pick a b]
    let one := [f.sqrt rm a, f.abs a, f.neg a, f.recip exact rm a, f.rsqrt exact rm a]
    (f.Signals a ∨ f.Signals b → ∀ r ∈ two, r = f.invalidResult) ∧
    (¬ f.Signals a → ¬ f.Signals b → f.NotANumber a ∨ f.NotANumber b →
      ∀ r ∈ two, (f.NotANumber a ∧ r = ⟨a, 0, false⟩) ∨ (f.NotANumber b ∧ r = ⟨b, 0, false⟩)) ∧
    (f.Signals a → (∀ r ∈ one, r = f.invalidResult) ∧ f.convert g rm c a = g.invalidResult) ∧
    (f.NotANumber a → ¬ f.Signals a → (∀ r ∈ one, r = ⟨a, 0, false⟩) ∧
      ∃ v, f.convert g rm c a = ⟨v, 0, false⟩ ∧ g.NotANumber v ∧ ¬ g.Signals v) ∧
    (f.NotANumber a → f.toW rm a = ⟨0x7FFFFFFF#64, 0b010000, false⟩ ∧
      f.toL limit rm a = ⟨0x7FFFFFFFFFFFFFFF#64, 0b010000, false⟩) ∧
    (¬ f.NotANumber a → (f.abs a).value = a &&& ~~~f.signBit ∧ (f.abs a).status = 0 ∧
      (f.neg a).value = a ^^^ f.signBit ∧ (f.neg a).status = 0 ∧
      ∀ x, f.value a = some x → f.value (f.abs a).value = some |x| ∧ f.value (f.neg a).value = some (-x)) ∧
    (∀ x m e, f.unpack a = .fin x m e →
      let va := finiteValue x m e
      let near (v : ℝ) (k : Int) (r : FpRes) : Prop :=
        ∃ r0, Rounded f rm v r0 ∧ r.status = r0.status ∧
          |(r.value.toNat : Int) - r0.value.toNat| ≤ (if exact ∨ r0.status ≠ 0b000001#6 then 0 else k)
      (m ≠ 0 → near (1 / va) 1 (f.recip exact rm a)) ∧
      (m ≠ 0 → x = false → near (1 / Real.sqrt va) 2 (f.rsqrt exact rm a)) ∧
      (m ≠ 0 → x = true → f.rsqrt exact rm a = f.invalidResult) ∧
      (m = 0 → ∀ r ∈ [f.recip exact rm a, f.rsqrt exact rm a], r = ⟨f.infinite x, 0b001000, false⟩)) ∧
    (∀ x, f.unpack a = .inf x → f.recip exact rm a = ⟨if x then f.signBit else 0#64, 0, false⟩ ∧
      f.rsqrt exact rm a = if x then f.invalidResult else ⟨0#64, 0, false⟩) ∧
    (∀ r ∈ two ++ one ++ [f.ofInt rm limit], r.denorm = true ↔ f.Denormalized r.value) ∧
    ((f.convert g rm c a).denorm = true ↔ g.Denormalized (f.convert g rm c a).value)) ∧
  (∀ (f : Fmt) (flush trapU : Bool) (r : FpRes) (s : State),
    s.flush = s.fp.fsr.getLsbD 24 ∧ s.trapU = s.fp.fsr.getLsbD 8 ∧ s.rm = s.fp.fsr.extractLsb' 0 2 ∧
    (r.denorm = false → f.settle flush trapU r = r) ∧
    (r.denorm = true → f.settle false trapU r =
      ⟨r.value, r.status ||| 0b100000#6 ||| (if trapU then 0b000010#6 else 0#6), false⟩) ∧
    (r.denorm = true → f.settle true trapU r = ⟨r.value &&& f.signBit, 0#6, false⟩))

/-- The conversions, CP1 usable and, for those to or from L, MIPS III enabled: to integers in the mode of the name (round 0, truncate 1,
ceiling 2, floor 3) or the current one, from integers and between formats in the current one (R940 to R953); on a denormalized or NaN
operand the unit may instead not perform them (R640), which is left free (log entry 26). What the conversions deliver other statements
say; log entries 20, 22 and 23 say where the model chose it.
Choices of the model it rests on: notes/assumptions 20, 22, 23, 26. -/
def Obligations.ConversionsCompleteInTheirRoundingMode : Prop :=
  ∀ (s : State) (fs fd : BitVec 5) (f : Fmt), s.cu1 = true →
    let a := s.operand f fs
    let i (x y : Instr) : Instr := match f with | .s => x | .d => y
    let w : Int := (s.operandS fs).toInt.bmod (2 ^ 32)
    let l : Int := (s.operandD fs).toInt
    let toW (x : Instr) (rm : BitVec 2) : Prop := s.Performs x f [a] .s fd (f.toW rm a)
    let toL (x : Instr) (rm : BitVec 2) : Prop := s.Performs x f [a] .d fd (f.toL s.params.cvtLLimit rm a)
    toW (i (.roundWS fs fd) (.roundWD fs fd)) 0#2 ∧ toW (i (.truncWS fs fd) (.truncWD fs fd)) 1#2 ∧
    toW (i (.ceilWS fs fd) (.ceilWD fs fd)) 2#2 ∧ toW (i (.floorWS fs fd) (.floorWD fs fd)) 3#2 ∧
    toW (i (.cvtWS fs fd) (.cvtWD fs fd)) s.rm ∧
    (s.mips3 = true →
      toL (i (.roundLS fs fd) (.roundLD fs fd)) 0#2 ∧ toL (i (.truncLS fs fd) (.truncLD fs fd)) 1#2 ∧
      toL (i (.ceilLS fs fd) (.ceilLD fs fd)) 2#2 ∧ toL (i (.floorLS fs fd) (.floorLD fs fd)) 3#2 ∧
      toL (i (.cvtLS fs fd) (.cvtLD fs fd)) s.rm) ∧
    s.Performs (.cvtSD fs fd) .d [s.operandD fs] .s fd (Fmt.convert .d .s s.rm s.ctr (s.operandD fs)) ∧
    s.Performs (.cvtDS fs fd) .s [s.operandS fs] .d fd (Fmt.convert .s .d s.rm s.ctr (s.operandS fs)) ∧
    exec (.cvtSW fs fd) s = fpOutcome s .s fd (Fmt.ofInt .s s.rm w) ∧
    exec (.cvtDW fs fd) s = fpOutcome s .d fd (Fmt.ofInt .d s.rm w) ∧
    (s.mips3 = true → exec (.cvtSL fs fd) s = fpOutcome s .s fd (Fmt.ofInt .s s.rm l) ∧
      exec (.cvtDL fs fd) s = fpOutcome s .d fd (Fmt.ofInt .d s.rm l))

/-- A compare with cond field n, CP1 usable and, for a condition other than 0, MIPS IV enabled, of operands that are ordered, that is no
NaN: bit 2 of n asks for less, bit 1 for equal; nothing is unordered, so the status is empty. The condition bit of cc is written,
FSR.Cause is cleared, and nothing else changes but the pc (R631, R635, R960). With a denormalized operand the unit may instead not perform
the compare, which raises Unimplemented Operation (R640); which ones it does not perform is left free (log entry 26).
What less and equal mean: the order of the values the operands represent, so that both zeros are equal; an infinity lies beyond every
number, and equals itself alone; a NaN is unordered to everything (R650, R960).
Choices of the model it rests on: notes/assumptions 26. -/
def Obligations.ComparesWriteOneConditionBit : Prop :=
  (∀ (s : State) (ft fs : BitVec 5) (cc : BitVec 3) (f : Fmt) (n : Fin 16), s.cu1 = true → (cc = 0#3 ∨ s.mips4 = true) →
    let a := s.operand f fs
    let b := s.operand f ft
    f.compare a b ≠ none → ∀ i, (compares f ft fs cc)[n.val]? = some i →
      let holds := (n.val / 4 % 2 = 1 ∧ f.compare a b = some .lt) ∨ (n.val / 2 % 2 = 1 ∧ f.compare a b = some .eq)
      let bit : Word := 1#32 <<< (if cc = 0#3 then 23 else 24 + cc.toNat)
      let base := s.fp.fsr &&& 0xFFFC0FFF#32 &&& ~~~bit
      let performed : Prop :=
        (holds → exec i s = .next { s with fp := { s.fp with fsr := base ||| bit } }.advance) ∧
        (¬ holds → exec i s = .next { s with fp := { s.fp with fsr := base } }.advance)
      (performed ∨ exec i s = fpRefused s) ∧ (f.special a = false → f.special b = false → performed)) ∧
  (∀ (f : Fmt) (a b : DWord),
    (f.NotANumber a ∨ f.NotANumber b ↔ f.compare a b = none) ∧
    (∀ x y, f.value a = some x → f.value b = some y →
      (f.compare a b = some .lt ↔ x < y) ∧ (f.compare a b = some .eq ↔ x = y) ∧ (f.compare a b = some .gt ↔ y < x)) ∧
    (∀ neg x, f.unpack a = .inf neg → f.value b = some x →
      f.compare a b = some (if neg then .lt else .gt) ∧ f.compare b a = some (if neg then .gt else .lt)) ∧
    (∀ n m, f.unpack a = .inf n → f.unpack b = .inf m →
      f.compare a b = some (if n = m then .eq else if n then .lt else .gt)))

/-- A compare, CP1 usable and, for a condition other than 0, MIPS IV enabled, of operands that are unordered. If an operand is a signalling NaN, or in the compares
with cond bit 3 for any NaN, it is an Invalid Operation: with V enabled the Floating-Point exception is taken and the condition bit
is not written, with V clear Cause and the V flag are set. Else nothing is raised. Where no exception is taken the condition bit
becomes cond bit 0 (R635, R637, R960). Instead, Unimplemented Operation may be raised, if the unit does not perform the operation on
NaN operands, which R640 leaves open.
Choices of the model it rests on: notes/assumptions 26. -/
def Obligations.UnorderedComparesRaiseInvalidOperation : Prop :=
  ∀ (s : State) (ft fs : BitVec 5) (cc : BitVec 3) (f : Fmt) (n : Fin 16), s.cu1 = true → (cc = 0#3 ∨ s.mips4 = true) →
    let a := s.operand f fs
    let b := s.operand f ft
    let invalid := f.isSignalling a = true ∨ f.isSignalling b = true ∨ n.val / 8 = 1
    let raise (cause : Word) : Out :=
      .next ({ s with fp := { s.fp with fsr := (s.fp.fsr &&& 0xFFFC0FFF#32) ||| cause } }.takeException 15#5)
    let bit : Word := 1#32 <<< (if cc = 0#3 then 23 else 24 + cc.toNat)
    let write (status : Word) : Out :=
      let base := ((s.fp.fsr &&& 0xFFFC0FFF#32) ||| status) &&& ~~~bit
      .next { s with fp := { s.fp with fsr := if n.val % 2 = 1 then base ||| bit else base } }.advance
    f.compare a b = none → ∀ i, (compares f ft fs cc)[n.val]? = some i →
      (invalid → s.fp.fsr.getLsbD 11 = true → ∃ cause ∈ [0x00010000#32, 0x00020000#32], exec i s = raise cause) ∧
      (invalid → s.fp.fsr.getLsbD 11 = false → exec i s = write 0x00010040#32 ∨ exec i s = raise 0x00020000#32) ∧
      (¬ invalid → exec i s = write 0#32 ∨ exec i s = raise 0x00020000#32)

/-- MADD, MSUB, NMADD and NMSUB in both formats, CP1 usable and MIPS IV enabled, on any operands, of which the unit may not perform
denormalized or NaN ones (R640). With the parameter MaddFused off, as by default, the product is rounded and settled, then fr is added or
subtracted and the result rounded and settled, and the status is the union of both (R650, R980, R981); the N forms invert the sign bit of
the result (R982, R983), a NaN's too. With MaddFused on and both factors finite, a finite fr gives the exact sum rounded once, and
settled: infinity or the largest finite number with O and I where it overflows, else the correctly rounded number, zero with the exact sum's
sign, with E, V, Z and O clear, I exactly where it is inexact and U exactly where it is tiny and inexact; and an exact zero has the sign
IEEE 754 gives a sum; an infinite fr is
delivered with the sign it is added with, a signalling NaN is Invalid and a quiet one delivered; with a factor that is not finite the
value and status are those of two operations.
The model's choices: that the product is settled like a result, that the N forms invert a NaN's sign, and what MaddFused does besides one
rounding (log entry 25), when a result is tiny and has U (log entry 20), and what a denormalized or NaN operand leads to (log entries 21, 26).
Choices of the model it rests on: notes/assumptions 20, 21, 25, 26. -/
def Obligations.MultiplyAddRoundsTwiceOrOnce : Prop :=
  ∀ (s : State) (fr ft fs fd : BitVec 5) (f : Fmt), s.cu1 = true → s.mips4 = true →
    let r := s.operand f fr
    let a := s.operand f fs
    let b := s.operand f ft
    let i (x y : Instr) : Instr := match f with | .s => x | .d => y
    ∀ p ∈ [(i (.maddS fr ft fs fd) (.maddD fr ft fs fd), false, false), (i (.msubS fr ft fs fd) (.msubD fr ft fs fd), true, false),
        (i (.nmaddS fr ft fs fd) (.nmaddD fr ft fs fd), false, true), (i (.nmsubS fr ft fs fd) (.nmsubD fr ft fs fd), true, true)],
      let minus : Bool := p.2.1
      let out (x : FpRes) : Prop :=
        s.Performs p.1 f [r, a, b] f fd ⟨if p.2.2 then x.value ^^^ f.signBit else x.value, x.status, false⟩
      let product := f.settle s.flush s.trapU (f.mul s.rm s.nanPick a b)
      let sum := f.settle s.flush s.trapU
        (if minus then f.sub s.rm s.nanPick product.value r else f.add s.rm s.nanPick product.value r)
      (s.params.maddFused = false ∨ f.value a = none ∨ f.value b = none → out ⟨sum.value, product.status ||| sum.status, false⟩) ∧
      (s.params.maddFused = true → ∀ x m e y n h, f.unpack a = .fin x m e → f.unpack b = .fin y n h →
        (f.Signals r → out f.invalidResult) ∧
        (f.NotANumber r → ¬ f.Signals r → out ⟨r, 0, false⟩) ∧
        (∀ z, f.unpack r = .inf z → out ⟨f.infinite (z != minus), 0, false⟩) ∧
        (∀ z l g, f.unpack r = .fin z l g →
          let v : ℚ := finiteValue x m e * finiteValue y n h + finiteValue (z != minus) l g
          (v = 0 → out ⟨f.zeroOf (if (x != y) = (z != minus) then x != y else s.rm == 3#2), 0, false⟩) ∧
          (v ≠ 0 → ∃ once : FpRes, Rounded f s.rm v once ∧
            (once.denorm = true ↔ f.Denormalized once.value) ∧ out (f.settle s.flush s.trapU once))))

/-- The moves (R622, R642, R923 to R928, R936, R955 to R958): MOV and the conditional moves copy bits and leave the FSR alone, the
conditional ones, in MIPS IV, writing fd back where the condition fails; MFC1, MTC1 and, in MIPS III, DMFC1 and DMTC1 move between the register files; CFC1 and
CTC1 reach FCR31, CFC1 of FCR0 reads the implementation number 09H above the revision (R46, R626), and CTC1 takes the Floating-Point exception, after writing, if the Cause bits it wrote are enabled or E.
Where values stand (R622, R623), whatever the model calls it: a word moved in with FR = 1 clears the upper half, with FR = 0 it goes
to its half of the even register and leaves the other; results, read from and written to the even register with FR = 0, fill it,
words with the upper half cleared. The moves are the examples; every other register keeps its value.
Choices of the model it rests on: notes/assumptions 2, 27, 52. -/
def Obligations.FloatingPointMovesCopyBits : Prop :=
  ∀ (s : State) (rt fs fd : BitVec 5) (cc : BitVec 3) (f : Fmt), s.cu1 = true →
    let i (x y : Instr) : Instr := match f with | .s => x | .d => y
    let move (c : Prop) [Decidable c] : Out :=
      .next (s.result f fd (if c then s.operand f fs else s.operand f fd)).advance
    let bit := s.fp.fsr.getLsbD (if cc = 0#3 then 23 else 24 + cc.toNat)
    let v := (s.gpr rt).extractLsb' 0 32 &&& 0xFF83FFFF#32
    exec (i (.movS fs fd) (.movD fs fd)) s = move True ∧
    (s.mips4 = true →
      exec (i (.movfS cc fs fd) (.movfD cc fs fd)) s = move (bit = false) ∧
      exec (i (.movtS cc fs fd) (.movtD cc fs fd)) s = move (bit = true) ∧
      exec (i (.movzS rt fs fd) (.movzD rt fs fd)) s = move (s.gpr rt = 0#64) ∧
      exec (i (.movnS rt fs fd) (.movnD rt fs fd)) s = move (s.gpr rt ≠ 0#64)) ∧
    exec (.mfc1 rt fs) s = .next (s.setGpr rt ((s.fpr32 fs).signExtend 64)).advance ∧
    exec (.mtc1 rt fs) s = .next (s.setFpr32 fs ((s.gpr rt).extractLsb' 0 32)).advance ∧
    (s.mips3 = true → s.fr = true ∨ fs.getLsbD 0 = false →
      exec (.dmfc1 rt fs) s = .next (s.setGpr rt (s.fpr fs)).advance ∧
      exec (.dmtc1 rt fs) s = .next (s.setFpr fs (s.gpr rt)).advance) ∧
    (s.mips3 = true → s.fr = false → fs.getLsbD 0 = true →
      exec (.dmfc1 rt fs) s = .fault .fpOddDoubleword ∧ exec (.dmtc1 rt fs) s = .fault .fpOddDoubleword) ∧
    exec (.cfc1 rt 31#5) s = .next (s.setGpr rt (s.fp.fsr.signExtend 64)).advance ∧
    exec (.cfc1 rt 0#5) s = .next (s.setGpr rt (0x00000000000009#56 ++ Config.fcr0Rev)).advance ∧
    (∃ w, exec (.cfc1 rt fs) s = .next (s.setGpr rt w).advance) ∧
    (v.getLsbD 17 = false → v.extractLsb' 12 5 &&& v.extractLsb' 7 5 = 0#5 →
      exec (.ctc1 rt 31#5) s = .next { s with fp := { s.fp with fsr := v } }.advance) ∧
    (v.getLsbD 17 = true ∨ v.extractLsb' 12 5 &&& v.extractLsb' 7 5 ≠ 0#5 →
      exec (.ctc1 rt 31#5) s = .next ({ s with fp := { s.fp with fsr := v } }.takeException 15#5)) ∧
    (fs ≠ 31#5 → exec (.ctc1 rt fs) s = .next s.advance) ∧
    (let get (t : State) (k : Nat) : DWord := t.fp.fpr.toArray.getD k 0#64
     let word := (s.gpr rt).extractLsb' 0 32
     let even (n : BitVec 5) : Nat := if s.fr then n.toNat else n.toNat / 2 * 2
     let only (t : State) (n : Nat) (v : DWord) : Prop :=
       ∀ k < 32, get t k = if k = n then v else get s k
     (∃ t, exec (.mtc1 rt fs) s = .next t ∧ only t (even fs)
       (if s.fr then word.setWidth 64 else if fs.toNat % 2 = 1 then word ++ (get s (even fs)).extractLsb' 0 32
         else (get s (even fs)).extractLsb' 32 32 ++ word)) ∧
     exec (.mfc1 rt fs) s = .next (s.setGpr rt (((get s (even fs)).extractLsb'
       (if s.fr = false ∧ fs.toNat % 2 = 1 then 32 else 0) 32).signExtend 64)).advance ∧
     (∃ t, exec (.movS fs fd) s = .next t ∧ only t (even fd) (((get s (even fs)).extractLsb' 0 32).setWidth 64)) ∧
     (∃ t, exec (.movD fs fd) s = .next t ∧ only t (even fd) (get s (even fs))))

/-- Floating-point instructions with CP1 not usable take Coprocessor Unusable, code 11 with CE = 1 (R474, R478); RECIP, RSQRT, the
conditional moves and compares of a condition other than 0 outside MIPS IV, and the conversions to and from L outside MIPS III,
raise Unimplemented Operation: Cause is 100000 and the Floating-Point exception is taken (R472, R478, R640); DMFC1 and DMTC1
outside MIPS III take Reserved Instruction (R472). -/
def Obligations.FloatingPointGatingFollowsTable174 : Prop :=
  ∀ (s : State) (rt ft fs fd base : BitVec 5) (cc : BitVec 3) (off : BitVec 16),
    let unimplemented : Out :=
      .next ({ s with fp := { s.fp with fsr := (s.fp.fsr &&& 0xFFFC0FFF#32) ||| 0x00020000#32 } }.takeException 15#5)
    (s.cu1 = false →
      ∀ i ∈ cp1Instructions rt ft fs fd base cc off ++ compares .s ft fs cc ++ compares .d ft fs cc ++
        (if s.mips4 then cop1xInstructions rt ft fs fd base else []),
      exec i s = .next (s.coprocessorUnusable 1) ∧ (s.coprocessorUnusable 1).cp0.causeCode = 11#5 ∧
        (s.coprocessorUnusable 1).cp0.causeCe = 1#2) ∧
    (s.cu1 = true → s.mips4 = false →
      ∀ i ∈ [Instr.recipS fs fd, .recipD fs fd, .rsqrtS fs fd, .rsqrtD fs fd, .movfS cc fs fd, .movfD cc fs fd,
        .movtS cc fs fd, .movtD cc fs fd, .movzS rt fs fd, .movzD rt fs fd, .movnS rt fs fd, .movnD rt fs fd],
        exec i s = unimplemented) ∧
    (s.cu1 = true → s.mips4 = false → cc ≠ 0#3 → ∀ f : Fmt, ∀ i ∈ compares f ft fs cc, exec i s = unimplemented) ∧
    (s.cu1 = true → s.mips3 = false →
      ∀ i ∈ [Instr.roundLS fs fd, .roundLD fs fd, .truncLS fs fd, .truncLD fs fd, .ceilLS fs fd, .ceilLD fs fd,
        .floorLS fs fd, .floorLD fs fd, .cvtLS fs fd, .cvtLD fs fd, .cvtSL fs fd, .cvtDL fs fd], exec i s = unimplemented) ∧
    (s.cu1 = true → s.mips3 = false →
      ∀ i ∈ [Instr.dmfc1 rt fs, .dmtc1 rt fs], exec i s = .next (s.takeException 10#5))

/-- The sum, difference, product, quotient and square root of finite operands whose exact result is not zero, the conversion of a
nonzero integer, and the conversion between the formats, are correctly rounded unless they overflow; then they are infinity or the
largest finite number by rounding mode and sign, with O and I (R650). A correctly rounded result leaves E, V, Z and O clear and reports I
exactly where it is inexact, and U exactly where it is tiny and inexact (the model's choice, log entry 20); one that rounds to zero keeps the
sign of the exact result. An exact zero has the sign IEEE 754 gives it: of a sum the sign of
both operands, or, where these differ, minus in rounding mode 3 alone; of a product or quotient the product of the signs. Infinities are
exact, but infinity minus infinity, zero times infinity, infinity or zero by itself and the root of a negative number are Invalid; a
nonzero number by zero is an infinity with Z. Conversions to integers round
to the nearest or next integer as the mode says, report Inexact exactly when the operand is no integer, and outside the range of W
deliver 7FFFFFFF with V, of L 7FFFFFFFFFFFFFFF (R636, R650, R930 to R934, R940 to R953).
Choices of the model it rests on: notes/assumptions 20, 23. -/
def Obligations.SumsProductsAndConversionsAreCorrectlyRounded : Prop :=
  (∀ (f g : Fmt) (rm : BitVec 2) (pick : Bool) (a b : DWord) (x y : Bool) (m n : Nat) (e h : Int) (k : Int) (c : Nat),
      let good (f : Fmt) (v : ℝ) (r : FpRes) : Prop := v ≠ 0 → Rounded f rm v r
      let exactly (v : DWord) : FpRes := ⟨v, 0, false⟩
      good f k (f.ofInt rm k) ∧ f.ofInt rm 0 = exactly 0#64 ∧
      (f.unpack a = .fin x m e →
        let va := finiteValue x m e
        good g va (f.convert g rm c a) ∧ (m = 0 → f.convert g rm c a = exactly (g.zeroOf x)) ∧
        (x = false → good f (Real.sqrt va) (f.sqrt rm a)) ∧ (m = 0 → f.sqrt rm a = exactly a) ∧
        (x = true → m ≠ 0 → f.sqrt rm a = f.invalidResult) ∧
        (f.unpack b = .fin y n h →
          let vb := finiteValue y n h
          let sumZero (y : Bool) : FpRes := exactly (f.zeroOf (if x = y then x else rm == 3#2))
          good f (va + vb) (f.add rm pick a b) ∧ (va + vb = 0 → f.add rm pick a b = sumZero y) ∧
          good f (va - vb) (f.sub rm pick a b) ∧ (va - vb = 0 → f.sub rm pick a b = sumZero !y) ∧
          good f (va * vb) (f.mul rm pick a b) ∧ (m * n = 0 → f.mul rm pick a b = exactly (f.zeroOf (x != y))) ∧
          (n ≠ 0 → good f (va / vb) (f.div rm pick a b) ∧ (m = 0 → f.div rm pick a b = exactly (f.zeroOf (x != y)))) ∧
          (n = 0 → f.div rm pick a b = if m = 0 then f.invalidResult else ⟨f.infinite (x != y), 0b001000, false⟩)) ∧
        (f.unpack b = .inf y →
          f.add rm pick a b = exactly (f.infinite y) ∧ f.sub rm pick a b = exactly (f.infinite !y) ∧
          f.mul rm pick a b = (if m = 0 then f.invalidResult else exactly (f.infinite (x != y))) ∧
          f.div rm pick a b = exactly (f.zeroOf (x != y)))) ∧
      (f.unpack a = .inf x →
        f.convert g rm c a = exactly (g.infinite x) ∧ f.sqrt rm a = (if x then f.invalidResult else exactly a) ∧
        (f.unpack b = .fin y n h →
          f.add rm pick a b = exactly (f.infinite x) ∧ f.sub rm pick a b = exactly (f.infinite x) ∧
          f.mul rm pick a b = (if n = 0 then f.invalidResult else exactly (f.infinite (x != y))) ∧
          f.div rm pick a b = exactly (f.infinite (x != y))) ∧
        (f.unpack b = .inf y →
          f.add rm pick a b = (if x = y then exactly (f.infinite x) else f.invalidResult) ∧
          f.sub rm pick a b = (if x = y then f.invalidResult else exactly (f.infinite x)) ∧
          f.mul rm pick a b = exactly (f.infinite (x != y)) ∧ f.div rm pick a b = f.invalidResult))) ∧
  (∀ (f : Fmt) (rm : BitVec 2) (a : DWord) (x : Bool) (m : Nat) (e limit : Int), f.unpack a = .fin x m e → limit ≤ 2 ^ 63 →
      let va := finiteValue x m e
      ∃ k, RoundsToInt rm va k ∧
        let inexact : FpStatus := if (k : ℚ) = va then 0 else 1
        (-2 ^ 31 ≤ k ∧ k < 2 ^ 31 → f.toW rm a = ⟨(BitVec.ofInt 32 k).setWidth 64, inexact, false⟩) ∧
        (¬ (-2 ^ 31 ≤ k ∧ k < 2 ^ 31) → f.toW rm a = ⟨0x7FFFFFFF#64, 0b010000, false⟩) ∧
        (-limit ≤ k ∧ k < limit → f.toL limit rm a = ⟨BitVec.ofInt 64 k, inexact, false⟩) ∧
        (¬ (-limit ≤ k ∧ k < limit) →
          (f.toL limit rm a).value = 0x7FFFFFFFFFFFFFFF#64 ∧ (f.toL limit rm a).status.getLsbD 5 = true))

/-! ## The CACHE instruction -/

/-- What the Index Store operations put into a tag or data array, the Index Load operation of the same address brings back into
TagLo, TagHi and ECC, in every bit the array has (R560 to R575): the store changes no register and no memory, the load changes
those three registers alone (and, with Index Load Data (I), the model's record of what predecoded bits mean, R573). Whether Index Load Data (D) writes TagHi is left open.
With the model's parameter storeTagNormal the StateMod code 000 comes back as 001 from an entry that Index Store Tag (D) makes Invalid
(R1165, log entry 64); without it, as R564 has it, as it was.
Choices of the model it rests on: notes/assumptions 30, 64. -/
def Obligations.WhatIsStoredIntoTheCacheArraysIsLoadedBack : Prop :=
  ∀ (s : State) (base : BitVec 5) (off : BitVec 16) (pa : PAddr),
    s.canonical = true → s.ReachesCaches (s.ea base off) pa →
    let lo := s.cp0.tagLo
    let hi := s.cp0.tagHi
    let ecc := s.cp0.ecc
    let hiD := if s.params.storeTagNormal = true ∧ lo.extractLsb' 6 2 = 0#2 ∧ hi.extractLsb' 29 3 = 0#3 then hi ||| 0x20000000#32 else hi
    let back (store load : Instr) (lo' hi' ecc' : Word) : Prop :=
      ∃ t, exec store s = .next t ∧ t = { s.breakLink.advance with caches := t.caches } ∧
        exec load t = .next { t.advance with cp0 := { t.cp0 with tagLo := lo', tagHi := hi', ecc := ecc' } }
    back (.cacheIndexStoreTagI base off) (.cacheIndexLoadTagI base off) (lo &&& 0xFFFFFF4D#32) (hi &&& 0xF#32) ecc ∧
    back (.cacheIndexStoreTagD base off) (.cacheIndexLoadTagD base off) (lo &&& 0xFFFFFFCF#32) (hiD &&& 0xE000000F#32) ecc ∧
    back (.cacheIndexStoreTagS base off) (.cacheIndexLoadTagS base off) (lo &&& 0xFFFFCDFF#32) (hi &&& 0x8000000F#32) ecc ∧
    back (.cacheIndexStoreDataI base off) (.cacheIndexLoadDataI base off) lo (hi &&& 0xF#32) (ecc &&& 0x1#32) ∧
    (back (.cacheIndexStoreDataD base off) (.cacheIndexLoadDataD base off) lo hi (ecc &&& 0xF#32) ∨
      back (.cacheIndexStoreDataD base off) (.cacheIndexLoadDataD base off) lo 0#32 (ecc &&& 0xF#32)) ∧
    back (.cacheIndexStoreDataS base off) (.cacheIndexLoadDataS base off) lo hi (ecc &&& 0x3FF#32) ∧
    (∀ i ∈ [Instr.cacheIndexLoadTagI base off, .cacheIndexLoadTagD base off, .cacheIndexLoadTagS base off,
        .cacheIndexLoadDataI base off, .cacheIndexLoadDataD base off, .cacheIndexLoadDataS base off],
      ∃ t, exec i s = .next t ∧ t = { s.breakLink.advance with
        caches := { s.caches with predecoded := t.caches.predecoded }
        cp0 := { s.cp0 with tagLo := t.cp0.tagLo, tagHi := t.cp0.tagHi, ecc := t.cp0.ecc } })

/-- The Index operations that invalidate (R545 to R547): the block of the address's index and way becomes Invalid, no other tag of
the array changes, and no register does; Index WriteBack Invalidate (D) first writes an Inconsistent block back, its eight words
to the two quadwords of the secondary block its tag and SCWay name. Index WriteBack Invalidate (S) makes the
primary blocks that lie in its block Invalid, of both primary caches and no others; the words of those that are DirtyExclusive and
Inconsistent reach the two quadwords that their tag and SCWay name first, and no other quadword changes (R536, R547); then it writes a
DirtyExclusive block to the memory its tag names, as the secondary cache then holds it, by way of the outgoing buffer (R344); no
other byte of memory changes. The other operations send nothing out.
CacheBarrier, whose address has its two low bits clear, changes nothing but the link (R551).
Choices of the model it rests on: notes/assumptions 34, 40. -/
def Obligations.IndexInvalidationsEmptyTheirBlockAndKeepTheOthers : Prop :=
  ∀ (s : State) (base : BitVec 5) (off : BitVec 16) (pa : PAddr),
    s.canonical = true → s.ReachesCaches (s.ea base off) pa →
    let a := s.dataAddress (s.ea base off)
    let w := a.getLsbD 0
    let ki := wayKey (iSet a) w
    let kd := wayKey (dSet a) w
    let ks := s.sKey pa w
    (∃ t, exec (.cacheIndexInvalidateI base off) s = .next t ∧ t = { s.breakLink.advance with caches := t.caches } ∧
      (t.iTagAt ki).valid = false ∧ ∀ k, k ≠ ki → t.iTagAt k = s.iTagAt k) ∧
    (∃ t, exec (.cacheIndexWritebackInvalidateD base off) s = .next t ∧ s.OnlyCachesAndErrors t ∧
      s.NothingOut t ∧ t.cp0 = s.cp0 ∧
      (t.dTagAt kd).state = .invalid ∧ (∀ k, k ≠ kd → t.dTagAt k = s.dTagAt k) ∧
      ((s.dTagAt kd).inconsistent = true →
        let dest := dBlockAddr (s.dTagAt kd).tag (dSet a)
        let key := s.sKey dest (s.dTagAt kd).scWay
        t.sQuadAt key (s.sQuadIndex dest) = ⟨s.dDouble kd 0 ++ s.dDouble kd 1, .good⟩ ∧
        t.sQuadAt key (s.sQuadIndex dest + 1) = ⟨s.dDouble kd 2 ++ s.dDouble kd 3, .good⟩)) ∧
    (∃ t, exec (.cacheIndexWritebackInvalidateS base off) s = .next t ∧ s.OnlyCachesAndErrors t ∧ t.cp0 = s.cp0 ∧
      (t.sTagRead ks).state = .invalid ∧ (∀ k, k ≠ ks → t.sTagAt k = s.sTagAt k) ∧
      (if (s.sTagRead ks).state = .invalid then t.caches.dTag = s.caches.dTag ∧ t.caches.iTag = s.caches.iTag
          ∧ t.caches.sData = s.caches.sData
        else s.PrimariesEmptied t (s.sTagRead ks).pidx (s.sBlockAddr (s.sTagRead ks).tag pa) ∧
          s.PrimaryDataMerged t true (s.sTagRead ks).pidx (s.sBlockAddr (s.sTagRead ks).tag pa)) ∧
      s.WrittenBack t ks (s.sBlockAddr (s.sTagRead ks).tag pa)) ∧
    (a.getLsbD 0 = false → exec (.cacheBarrier base off) s = .next s.breakLink.advance)

/-- The Hit operations, where the tags of the set have no error (R535, R548 to R550, R552, R553): a hit in both ways is undefined, and
the model stops; else neither way holds the block afterwards, every other tag of the array is as before, and where it misses all caches
are. Hit WriteBack Invalidate (D) first writes an Inconsistent block back, its eight words to the two quadwords of the secondary block
its tag and SCWay name. The secondary operations tell in Status.CH whether the block was there (R537), and make the blocks of both
primary caches that lie in it Invalid, and no others (R550, R553). An operation without write back sends nothing out and leaves memory
as it was, Hit Invalidate (S) the data of the secondary cache too; Hit WriteBack Invalidate (S) first writes the words of the Inconsistent
primary blocks in it to the two quadwords that their tag and SCWay name, and changes no other quadword (R536, R553), and then writes a
DirtyExclusive block to memory by way of the outgoing buffer (R344), as the secondary cache then holds it, and no other byte of memory
changes. No other register changes.
Choices of the model it rests on: notes/assumptions 34, 40, 52. -/
def Obligations.HitOperationsLeaveTheBlockInNeitherWay : Prop :=
  ∀ (s : State) (base : BitVec 5) (off : BitVec 16) (pa : PAddr),
    s.canonical = true → s.ReachesCaches (s.ea base off) pa → (s.dataAddress (s.ea base off)).getLsbD 0 = false →
    let a := s.dataAddress (s.ea base off)
    let ki := wayKey (iSet a)
    let kd := wayKey (dSet a)
    let ks := s.sKey pa
    let hitI (w : Bool) : Bool := (s.iTagAt (ki w)).holds pa
    let hitD (w : Bool) : Bool := (s.dTagAt (kd w)).hitBy pa
    let hit (w : Bool) : Bool := (s.sTagRead (ks w)).holds pa
    let ch (t : State) : Prop := t.cp0 = { s.cp0 with status := (s.cp0.status &&& 0xFFFBFFFF#32) |||
      (if hit false || hit true then 0x00040000#32 else 0#32) }
    ((∀ w, (s.iTagAt (ki w)).bad = false) →
      ((hitI false && hitI true) = true → exec (.cacheHitInvalidateI base off) s = .fault .cacheOpBothWays) ∧
      ((hitI false && hitI true) = false →
        ∃ t, exec (.cacheHitInvalidateI base off) s = .next t ∧ t = { s.breakLink.advance with caches := t.caches } ∧
          (∀ w, (t.iTagAt (ki w)).holds pa = false) ∧ (∀ k, (∀ w, hitI w = true → k ≠ ki w) → t.iTagAt k = s.iTagAt k) ∧
          ((hitI false || hitI true) = false → t.caches = s.caches))) ∧
    ((∀ w, (s.dTagAt (kd w)).bad = false) →
      let done (t : State) : Prop := (∀ w, (t.dTagAt (kd w)).hitBy pa = false) ∧
        (∀ k, (∀ w, hitD w = true → k ≠ kd w) → t.dTagAt k = s.dTagAt k) ∧ t.caches.sTag = s.caches.sTag ∧
        ((hitD false || hitD true) = false → t.caches = s.caches)
      ((hitD false && hitD true) = true → exec (.cacheHitInvalidateD base off) s = .fault .cacheOpBothWays ∧
        exec (.cacheHitWritebackInvalidateD base off) s = .fault .cacheOpBothWays) ∧
      ((hitD false && hitD true) = false →
        (∃ t, exec (.cacheHitInvalidateD base off) s = .next t ∧ t = { s.breakLink.advance with caches := t.caches } ∧
          t.caches.sData = s.caches.sData ∧ done t) ∧
        (∃ t, exec (.cacheHitWritebackInvalidateD base off) s = .next t ∧ s.OnlyCachesAndErrors t ∧
          s.NothingOut t ∧ t.cp0 = s.cp0 ∧ done t ∧
          ∀ w, hitD w = true → (s.dTagAt (kd w)).inconsistent = true →
            let dest := dBlockAddr (s.dTagAt (kd w)).tag (dSet a)
            let key := s.sKey dest (s.dTagAt (kd w)).scWay
            t.sQuadAt key (s.sQuadIndex dest) = ⟨s.dDouble (kd w) 0 ++ s.dDouble (kd w) 1, .good⟩ ∧
            t.sQuadAt key (s.sQuadIndex dest + 1) = ⟨s.dDouble (kd w) 2 ++ s.dDouble (kd w) 3, .good⟩))) ∧
    ((∀ w, (s.sTagAt (ks w)).checked.bad = false) →
      let done (t : State) : Prop := (∀ w, (t.sTagRead (ks w)).holds pa = false) ∧
        (∀ k, (∀ w, hit w = true → k ≠ ks w) → t.sTagAt k = s.sTagAt k) ∧
        (∀ w, hit w = true → s.PrimariesEmptied t (s.sTagRead (ks w)).pidx (s.blockBase pa)) ∧
        ((hit false || hit true) = false → t.caches = s.caches)
      ((hit false && hit true) = true → exec (.cacheHitInvalidateS base off) s = .fault .cacheOpBothWays ∧
        exec (.cacheHitWritebackInvalidateS base off) s = .fault .cacheOpBothWays) ∧
      ((hit false && hit true) = false →
        (∃ t, exec (.cacheHitInvalidateS base off) s = .next t ∧ s.OnlyCachesAndErrors t ∧ ch t ∧ s.NothingOut t ∧
          t.caches.sData = s.caches.sData ∧ done t) ∧
        (∃ t, exec (.cacheHitWritebackInvalidateS base off) s = .next t ∧ s.OnlyCachesAndErrors t ∧ ch t ∧ done t ∧
          (∀ w, hit w = true → s.PrimaryDataMerged t false (s.sTagRead (ks w)).pidx (s.blockBase pa) ∧
            s.WrittenBack t (ks w) (s.blockBase pa)) ∧
          ((hit false || hit true) = false → s.NothingOut t))))

/-- Where CP0 is usable, a CACHE operation on an address that cannot be translated takes the exception a load takes there, and
Address Error, code AdEL, if bit 1 of the address is set, or bit 0 of one that is no Index operation (R533); on an address that is
not cached, and where the algorithm is reserved, it is undefined, and the model stops (R218, R534). On a cached address it waits while
the outgoing buffer holds a block ("All load/store accesses, including writebacks to the external agent, must be complete", R541).
Choices of the model it rests on: notes/assumptions 40, 52. -/
def Obligations.CacheOperationsTrapOrStopWhereTheAddressIsUnusable : Prop :=
  ∀ (s : State) (base : BitVec 5) (off : BitVec 16), s.cp0Usable = true →
    let a := s.dataAddress (s.ea base off)
    let notIndex : List Instr := [.cacheHitInvalidateI base off, .cacheBarrier base off, .cacheHitInvalidateD base off,
      .cacheHitWritebackInvalidateD base off, .cacheHitInvalidateS base off, .cacheHitWritebackInvalidateS base off]
    (a.getLsbD 1 = true → ∀ i ∈ cacheInstructions base off, exec i s = .next (s.addressError false a)) ∧
    (a.getLsbD 0 = true → ∀ i ∈ notIndex, exec i s = .next (s.addressError false a)) ∧
    (a.getLsbD 1 = false → ∀ i ∈ cacheInstructions base off, (a.getLsbD 0 = true → i ∉ notIndex) →
      (s.translate a .cacheOp = .addressError → exec i s = .next (s.addressError false a)) ∧
      (s.translate a .cacheOp = .refill → exec i s = .next (s.tlbRefill false a)) ∧
      (s.translate a .cacheOp = .invalid → exec i s = .next (s.tlbInvalid false a)) ∧
      (∀ p, s.translate a .cacheOp = .ok p →
        (p.alg = 2#3 ∨ p.alg = 7#3 → exec i s = .fault .cacheOpUncached) ∧
        (algCached p.alg = true → s.bus.outgoing ≠ [] → exec i s = .next { s with note := .waiting }) ∧
        (p.alg = 0#3 ∨ p.alg = 1#3 ∨ p.alg = 6#3 → exec i s = .fault .reservedCacheAlgorithm)))

/-! ## Resets -/

/-- What Cold Reset gives a value (R70, R1150): the state after reset has the pc at the reset vector, ERL and BEV set, SR and TS
clear, Random 63, Wired 0, FrameMask 0, CacheErr.EW clear, the prediction table and BPMode zero, both Event fields zero, the
Interrupt register zero, nothing pending (no Watch, Cache Error, NMI or reset), and Config from the mode bits with IC = DC = 3.
Choices of the model it rests on: notes/assumptions 3, 6. -/
def Obligations.ResetLeavesWhatColdResetStates : Prop :=
  let s := State.reset
  s.pc = 0xFFFFFFFFBFC00000#64 ∧ s.delay = .none ∧ s.erl = true ∧ s.bev = true ∧
  s.cp0.status.getLsbD 20 = false ∧ s.cp0.status.getLsbD 21 = false ∧
  s.cp0.random = 63#6 ∧ s.cp0.wired = 0#6 ∧ s.cp0.frameMask = 0#32 ∧ s.cp0.cacheErr.getLsbD 29 = false ∧
  s.bpt = [] ∧ s.cp0.diagBpMode = 0#2 ∧ s.perf.ctl0.extractLsb' 5 4 = 0#4 ∧ s.perf.ctl1.extractLsb' 5 4 = 0#4 ∧
  s.pending.interrupt = 0#5 ∧ s.pending.watch = false ∧ s.pending.cacheErr = false ∧
  s.pending.nmi = false ∧ s.pending.softReset = false ∧ s.pending.coldReset = none ∧
  s.config.extractLsb' 0 25 = s.bus.modeBits.extractLsb' 0 25 ∧ s.config.extractLsb' 26 6 = 0b011011#6 ∧
  s.mode = .kernel ∧ s.mem = []

/-- The events that precede every instruction, in their order (R1006): a Cold Reset, a Soft Reset, an NMI, a Cache Error that ERL
and DE do not hold back. The resets and NMI go to the reset vector with ERL and BEV set and TS clear, SR clear after a Cold Reset
and set after the others, which tell themselves apart by Status.NMI (R1150, R1153, R1154); NMI preserves everything else but the
link and the posted Cache Errors. Cache Error goes to its own vector with ERL set and ErrorEPC where execution resumes, and the error
that it shows is no longer posted, while those of the other units still are (R1025). A
processor that hangs takes none but the resets (that it takes no NMI and no Cache Error is the model's choice, log entry 70), and after a
Soft Reset CacheErr shows the System interface's error (R313).
Choices of the model it rests on: notes/assumptions 9, 29, 70. -/
def Obligations.ResetsNmiAndCacheErrorsComeFirst : Prop :=
  ∀ (s : State), s.ctm.active = false →
    let q := s.tick
    let after (t : State) : Prop := step s = q.counted none (.next t)
    let p := s.pending
    let ew : Word := 1#32 <<< s.params.cacheErr.ew
    (∀ m, p.coldReset = some m → ∃ t, after t ∧ t.pc = resetVector ∧ t.delay = .none ∧ t.erl = true ∧ t.bev = true ∧
      t.cp0.status.getLsbD 20 = false ∧ t.cp0.status.getLsbD 21 = false ∧ t.bus.modeBits = m ∧
      t.config.extractLsb' 0 22 = m.extractLsb' 0 22 ∧ t.cp0.random = 63#6 ∧ t.cp0.wired = 0#6 ∧ t.cp0.frameMask = 0#32 ∧
      t.cp0.cacheErr = s.cp0.cacheErr &&& ~~~ew ∧ t.bpt = [] ∧ t.cp0.diagBpMode = 0#2 ∧
      t.perf.ctl0.extractLsb' 5 4 = 0#4 ∧ t.perf.ctl1.extractLsb' 5 4 = 0#4 ∧ t.pending.cacheErr = false ∧
      t.pending.watch = false ∧ t.pending.interrupt = 0#5 ∧ t.bus.hung = false) ∧
    (p.coldReset = none → p.softReset = true → ∃ t, after t ∧ t.pc = resetVector ∧ t.delay = .none ∧ t.link.bit = false ∧
      t.cp0.status = (s.cp0.status &&& 0xFFD7FFFF#32) ||| 0x00500004#32 ∧ t.pending.cacheErr = false ∧
      t.pending.watch = false ∧ t.pending.interrupt = 0#5 ∧ t.bus.hung = false ∧ t.int = s.int ∧ t.fp = s.fp ∧
      t.tlb = s.tlb ∧ t.caches = s.caches ∧ t.mem = s.mem ∧ t.bus.modeBits = s.bus.modeBits ∧
      t.cp0 = { q.cp0 with
        errorEpc := t.cp0.errorEpc, status := t.cp0.status
        cacheErr := if s.bus.hung then p.siErr.info ||| (s.cp0.cacheErr &&& ew) else s.cp0.cacheErr }) ∧
    (p.coldReset = none → p.softReset = false → s.bus.hung = true → after { q with note := .waiting }) ∧
    (p.coldReset = none → p.softReset = false → s.bus.hung = false → p.nmi = true → ∃ t, after t ∧
      t = { q with
        pc := resetVector, delay := .none, link := { s.link with bit := false }, note := t.note
        pending := { q.pending.clearCacheErr with nmi := false }
        cp0 := { q.cp0 with
          errorEpc := if s.delay = .none then s.pc else s.pc - 4#64
          status := (s.cp0.status &&& 0xFFDFFFFF#32) ||| 0x00580004#32 } }) ∧
    (p.coldReset = none → p.softReset = false → s.bus.hung = false → p.nmi = false → p.cacheErr = true → s.erl = false →
      s.de = false → ∃ t, after t ∧ t = { q with
        pc := if s.bev then 0xFFFFFFFFBFC00300#64 else 0xFFFFFFFFA0000100#64
        delay := .none, link := { s.link with bit := false }, note := t.note
        pending := { q.pending with
          iErr := { p.iErr with posted := false }
          dErr := { p.dErr with posted := p.iErr.posted && p.dErr.posted }
          sErr := { p.sErr with posted := (p.iErr.posted || p.dErr.posted) && p.sErr.posted }
          siErr := { p.siErr with posted := (p.iErr.posted || p.dErr.posted || p.sErr.posted) && p.siErr.posted } }
        cp0 := { q.cp0 with
          cacheErr := (if p.iErr.posted then p.iErr.info else if p.dErr.posted then p.dErr.info
            else if p.sErr.posted then p.sErr.info else p.siErr.info) ||| (s.cp0.cacheErr &&& ew)
          errorEpc := if s.delay = .none then s.pc else s.pc - 4#64
          status := s.cp0.status ||| 4#32 } })

/-! ## The step -/

/-- Where no event is pending and the fetch delivers a word that decodes to an instruction, the step is that instruction in the
state the fetch leaves, with the performance counters updated after it; a fetch that traps or stops is the step's outcome. An
instruction that waits is held, and the step after runs it again with no fetch, so that an uncached instruction is read "exactly once"
(R440); that a cached one is held too is the model's choice (log entry 67). Before
it, time has passed: only Count, Random, the timer, the age of a due interrupt, the error pulses, the record of the last step's
writes, and the model's own counter, note and held word differ. A word that is no instruction: an undefined major opcode, SPECIAL function or REGIMM code takes Reserved Instruction
(R471); an undefined COP1 code Reserved Instruction, an undefined COP1 format Unimplemented Operation (R475), an undefined COP1X
function Reserved Instruction, and COP0 with bits 25:21 = 01000 Reserved Instruction (R600), each after the usability checks of R478;
the other undefined COP0 codes, among them the undefined CO = 1 functions and the COP0 words with a must-be-zero field that is not zero
(R458, R602), and CACHE operations (R531), where CP0 is usable, are undefined, and the model stops. On the other words with such a field
it stops too (R470), but where their class takes an exception first: CP1 unusable, or MIPS III or MIPS IV not enabled (R109, R477,
R478).
Choices of the model it rests on: notes/assumptions 7, 10, 11, 19, 29, 52, 67. -/
def Obligations.StepRunsTheDecodedInstruction : Prop :=
  ∀ (s : State), s.ctm.active = false → s.tick.pendingEvent = none →
    let next := s.tick.nextWord s.held
    (s.held = none → next = s.tick.fetch) ∧ (∀ w, s.held = some w → next = .ok w s.tick) ∧
    (∀ w t i, next = .ok w t → decode w = .instr i →
      (∀ u, exec i t = .next u → step s = .next { u with held := if u.note = .waiting then some w else none, perf := { u.perf with
        cnt0 := (t.countEvents (some (countKind i)) u).perf.cnt0, cnt1 := (t.countEvents (some (countKind i)) u).perf.cnt1 } }) ∧
      (∀ f, exec i t = .fault f → step s = .fault f) ∧ (∀ r, exec i t = .refused r → step s = .refused r)) ∧
    (∀ t, next = .trap t → ∃ u, step s = .next u ∧ u = { t with perf := u.perf }) ∧
    (∀ f, next = .stop f → step s = .fault f) ∧
    s.tick = { s with
      ctr := s.ctr + 1, note := .none, held := .none, bus := { s.bus with corErr := false, uncErr := false, sent := [] }
      pending := { s.pending with timer := s.tick.pending.timer, waited := s.tick.pending.waited }
      cp0 := { s.cp0 with count := s.tick.cp0.count, random := s.tick.cp0.random } } ∧
    (∀ w t, next = .ok w t →
      let op := (w.extractLsb' 26 6).toNat
      let rs := (w.extractLsb' 21 5).toNat
      let rt := (w.extractLsb' 16 5).toNat
      let fn := (w.extractLsb' 0 6).toNat
      let takes (u : State) : Prop := step s = t.counted none (.next u)
      let ri := t.takeException 10#5
      let uo := { t with fp := { t.fp with fsr := (t.fp.fsr &&& 0xFFFC0FFF#32) ||| 0x00020000#32 } }.takeException 15#5
      (op ∈ [28, 29, 30, 31, 59] ∨ (op = 0 ∧ fn ∈ [5, 14, 21, 40, 41, 53, 55, 57, 61]) ∨
        (op = 1 ∧ rt ∈ [4, 5, 6, 7, 13, 15, 20, 21, 22, 23, 24, 25, 26, 27, 28, 29, 30, 31]) → takes ri) ∧
      (op = 17 → rs ∈ [3, 7, 9, 10, 11, 12, 13, 14, 15] → takes (if t.cu1 then ri else t.coprocessorUnusable 1)) ∧
      (op = 17 → rs ∈ [18, 19, 22, 23, 24, 25, 26, 27, 28, 29, 30, 31] ∨ (rs = 20 ∨ rs = 21) ∧ fn ∉ [32, 33] ∨
          (rs = 16 ∨ rs = 17) ∧ (fn = rs + 16 ∨ fn ∈ [16, 20, 23, 24, 25, 26, 27, 28, 29, 30, 31, 34, 35, 38, 39, 40, 41, 42, 43,
            44, 45, 46, 47]) → takes (if t.cu1 then uo else t.coprocessorUnusable 1)) ∧
      (op = 19 → fn ∉ [0, 1, 8, 9, 15, 32, 33, 40, 41, 48, 49, 56, 57] →
        takes (if t.mips4 then (if t.cu1 then ri else t.coprocessorUnusable 1) else ri)) ∧
      (op = 16 → rs = 8 → 4 ≤ rt → takes (if t.cp0Usable then ri else t.coprocessorUnusable 0)) ∧
      (op = 16 → rs ∈ [2, 3, 6, 7, 9, 10, 11, 12, 13, 14, 15] ∨
          (16 ≤ rs ∧ (fn ∉ [1, 2, 6, 8, 16, 24] ∨ w &&& 0x01FFFFC0#32 ≠ 0#32)) ∨ (rs ∈ [1, 5] ∧ w &&& 0x7FF#32 ≠ 0#32) ∨
          (rs ∈ [0, 4] ∧ (w &&& 0x7C0#32 ≠ 0#32 ∨ (w &&& 0xF800#32 ≠ 0xC800#32 ∧ fn ≠ 0))) → if t.cp0Usable then step s = .fault .undefinedCop0
        else takes (t.coprocessorUnusable 0)) ∧
      (op = 47 → rt ∈ [2, 6, 10, 12, 13, 14, 15, 18, 22, 26, 30] → if t.cp0Usable then step s = .fault .undefinedCacheOp
        else takes (t.coprocessorUnusable 0)) ∧
      (∀ z ∈ zeroFieldsInteger ++ zeroFieldsFloat, w &&& z.mask = z.value → w &&& z.field ≠ 0#32 →
        match z.checks.find? fun c => !c.passes t with
        | some c => takes (c.trap t)
        | none => step s = .fault .mustBeZeroField))

/-- A fetch in kseg1 reads the four bytes at the physical address in the memory's byte order, whatever RE says, by one read request, and
changes nothing else (R187, R230, R245, R440); so does one through the TLB or another segment to an uncached address, but that RE inverts
bit 2 of the address with the parameter ReFetchSwap. A cached fetch delivers the word that the instruction cache holds of its block (R262),
and changes its LRU bit alone; where it holds none, the word of the secondary cache, which is filled from memory if it misses (R263, R276).
No fetch changes more than storage. A pc that is not a multiple of four takes Address Error (R1031).
Choices of the model it rests on: notes/assumptions 15, 59. -/
def Obligations.FetchReadsTheWordAtThePc : Prop :=
  ∀ (s : State),
    (s.mode = .kernel → 0xFFFFFFFFA0000000 ≤ s.pc.toNat → s.pc.toNat < 0xFFFFFFFFC0000000 → s.pc.toNat % 4 = 0 →
      s.bus.errAddrs = [] → s.bus.replies = [] →
      s.fetch = .ok (BitVec.ofNat 32 (bytesAt s.memEnd s.mem (kseg1Pa s.pc) 4)) (s.afterRead (kseg1Pa s.pc) 4)) ∧
    (s.pc.toNat % 4 ≠ 0 → s.fetch = .trap (s.addressError false s.pc)) ∧
    (∀ p, s.pc.toNat % 4 = 0 → s.translate s.pc .fetch = .ok p → s.bus.errAddrs = [] → s.bus.replies = [] →
      let swap := s.params.reFetchSwap && s.reverseEndian
      let a := if swap then s.pc ^^^ 4#64 else s.pc
      let pa := if swap then p.pa ^^^ 4#40 else p.pa
      let key := wayKey (iSet a)
      let word := BitVec.ofNat 32 (bytesAt s.memEnd s.mem pa.toNat 4)
      (p.alg = 2#3 ∨ p.alg = 7#3 →
        s.fetch = .ok word { s with bus := { s.bus with sent := s.bus.sent ++ [.read pa 4 p.attr] } }) ∧
      (algCached p.alg = true →
        (∀ w x, (∀ v, (s.iTagAt (key v)).bad = false) → (s.iTagAt (key w)).holds p.pa = true →
          (s.iTagAt (key !w)).holds p.pa = false → s.iWordAt (key w) (iIndex a) = ⟨.plain x, none⟩ →
          s.fetch = .ok x { s with caches := { s.caches with iLru := Sparse.set false s.caches.iLru (iSet a) (!w) } }) ∧
        (∀ x t, s.Coherent → s.canonical = true → (∀ v, (s.iTagAt (key v)).holds p.pa = false) → s.fetch = .ok x t →
          (∃ w, (t.sTagAt (t.sKey p.pa w)).holds p.pa = true ∧
            x = fetchWord s.memEnd a (quadPart (t.sQuadAt (t.sKey p.pa w) (t.sQuadIndex p.pa)).data p.pa)) ∧
          ((∀ v, (s.sTagAt (s.sKey p.pa v)).holds p.pa = false) → x = word)))) ∧
    (∀ x t, s.fetch = .ok x t → s.SameCore t ∧ t.link = s.link)

/-! ## Encoding -/

/-- Words written out from the encoding tables decode to the instructions they stand for (R452 to R464). -/
def Obligations.SampleWordsDecodeToTheirInstructions : Prop :=
  decode 0x014B4821#32 = .instr (.addu 10 11 9) ∧ decode 0x2129FFFF#32 = .instr (.addi 9 9 0xFFFF) ∧
  decode 0x8FA80004#32 = .instr (.lw 29 8 4) ∧ decode 0x1000FFFF#32 = .instr (.beq 0 0 0xFFFF) ∧
  decode 0x0C000040#32 = .instr (.jal 0x40) ∧ decode 0x40886000#32 = .instr (.mtc0 8 12) ∧
  decode 0x42000018#32 = .instr .eret ∧ decode 0x46241980#32 = .instr (.addD 4 3 6) ∧
  decode 0xBC850010#32 = .instr (.cacheIndexLoadTagD 4 0x10) ∧ decode 0x0000000C#32 = .instr (.syscall 0)

/-- Decoding the encoding of a well-formed instruction gives it back, whatever its operands; and a word that decodes to a
well-formed instruction is its encoding, so no bit of a word is ignored.
Choices of the model it rests on: notes/assumptions 19. -/
def Obligations.DecodingInvertsEncoding : Prop :=
  (∀ i : Instr, i.wellFormed = true → decode (encode i) = .instr i) ∧
  (∀ (w : Word) (i : Instr), decode w = .instr i → i.wellFormed = true → encode i = w)

/-! ## Invariants and isolation -/

/-- The state after reset satisfies the invariant.
Choices of the model it rests on: notes/assumptions 1, 4, 5, 6. -/
def Obligations.InvHoldsAtReset : Prop := State.reset.Inv

/-- Every step keeps the invariant: memory, the cache arrays and the prediction table stay in canonical form, the reserved bits of
the CP0 registers, the FSR and the performance control registers stay zero, and Random stays within its bounds (R84).
Choices of the model it rests on: notes/assumptions 10. -/
def Obligations.StepKeepsInv : Prop :=
  ∀ (s t : State), s.Inv → step s = .next t → t.Inv

/-- Every event from outside the processor keeps the invariant: resets, interrupts and coherency requests, errors of the arrays and
units, writes of memory by other agents, answers to come, pins, speculative refills, JTAG and cache test mode.
Choices of the model it rests on: notes/assumptions 44, 50. -/
def Obligations.ExternalEventsKeepInv : Prop :=
  ∀ (s t : State) (e : ExternalEvent), s.Inv → s.deliver e = some t → t.Inv

/-- In User mode without CU0, an instruction that completes leaves every system register as it was: the CP0 registers (but for the
prediction state that a branch reports or a JR delivers), the TLB, the mode bits, the performance registers and the mode; it leaves User mode only into
Kernel mode, by an exception that has set EXL or ERL (R80, R110, R580). -/
def Obligations.UserModeLeavesTheSystemStateAlone : Prop :=
  ∀ (s t : State) (i : Instr), s.mode = .user → s.cu0 = false → exec i s = .next t →
    t.tlb = s.tlb ∧ t.perf = s.perf ∧ t.bus.modeBits = s.bus.modeBits ∧ t.jtag = s.jtag ∧ t.ctm = s.ctm ∧
    t.pending.interrupt = s.pending.interrupt ∧ t.pending.timer = s.pending.timer ∧ t.pending.nmi = s.pending.nmi ∧
    ((t.mode = .kernel ∧ (t.exl = true ∨ t.erl = true)) ∨ (t.mode = .user ∧
        t.cp0 = { s.cp0 with diagBpState := t.cp0.diagBpState, diagPending := t.cp0.diagPending }))
end

