-- ==== Sys2Proof/Laws/Sparse.lean ====
section
/-! SUPPORT. Laws of sparse maps: writes keep the canonical form, and reading after a write. -/

namespace Sys2Proof.Machine

variable {α : Type} [DecidableEq α]

theorem Sparse.wf_cons (d : α) (k : Nat) (v : α) (m : Sparse α) :
    Sparse.wf d ((k, v) :: m) = true ↔ v ≠ d ∧ Sparse.above k m = true ∧ Sparse.wf d m = true := by
  simp [Sparse.wf, and_assoc]

omit [DecidableEq α] in
theorem Sparse.above_cons (a k : Nat) (v : α) (m : Sparse α) : Sparse.above a ((k, v) :: m) = true ↔ a < k := by
  simp [Sparse.above]

omit [DecidableEq α] in
theorem Sparse.above_insert {m : Sparse α} {a k : Nat} {x : α} (h : Sparse.above a m = true) (hk : a < k) :
    Sparse.above a (Sparse.insert m k x) = true := by
  cases m with
  | nil => simp [Sparse.insert, Sparse.above, hk]
  | cons p m =>
    obtain ⟨k', v⟩ := p
    simp only [Sparse.insert]
    split
    · simpa [Sparse.above] using hk
    · split
      · simpa [Sparse.above] using hk
      · simpa [Sparse.above] using h

theorem Sparse.above_tail {d : α} {m : Sparse α} {a k : Nat} {v : α} (h : Sparse.above a ((k, v) :: m) = true)
    (hm : Sparse.wf d ((k, v) :: m) = true) : Sparse.above a m = true := by
  rw [Sparse.wf_cons] at hm
  cases m with
  | nil => rfl
  | cons p m =>
    obtain ⟨k', v'⟩ := p
    rw [Sparse.above_cons] at h ⊢
    have := (Sparse.above_cons k k' v' m).1 hm.2.1
    omega

theorem Sparse.above_erase {d : α} {m : Sparse α} {a k : Nat} (h : Sparse.above a m = true)
    (hm : Sparse.wf d m = true) : Sparse.above a (Sparse.erase m k) = true := by
  cases m with
  | nil => rfl
  | cons p m =>
    obtain ⟨k', v⟩ := p
    simp only [Sparse.erase]
    split
    · exact Sparse.above_tail h hm
    · split
      · exact h
      · simpa [Sparse.above] using h

theorem Sparse.wf_insert {d : α} {m : Sparse α} {k : Nat} {x : α} (hm : Sparse.wf d m = true) (hx : x ≠ d) :
    Sparse.wf d (Sparse.insert m k x) = true := by
  induction m with
  | nil => simp [Sparse.insert, Sparse.wf, Sparse.above, hx]
  | cons p m ih =>
    obtain ⟨k', v⟩ := p
    have h := (Sparse.wf_cons d k' v m).1 hm
    simp only [Sparse.insert]
    split
    · next e => subst e; exact (Sparse.wf_cons ..).2 ⟨hx, h.2.1, h.2.2⟩
    · split
      · next e => exact (Sparse.wf_cons ..).2 ⟨hx, (Sparse.above_cons ..).2 e, hm⟩
      · exact (Sparse.wf_cons ..).2 ⟨h.1, Sparse.above_insert h.2.1 (by omega), ih h.2.2⟩

theorem Sparse.wf_erase {d : α} {m : Sparse α} {k : Nat} (hm : Sparse.wf d m = true) :
    Sparse.wf d (Sparse.erase m k) = true := by
  induction m with
  | nil => rfl
  | cons p m ih =>
    obtain ⟨k', v⟩ := p
    have h := (Sparse.wf_cons d k' v m).1 hm
    simp only [Sparse.erase]
    split
    · exact h.2.2
    · split
      · exact hm
      · exact (Sparse.wf_cons ..).2 ⟨h.1, Sparse.above_erase h.2.1 h.2.2, ih h.2.2⟩

/-- A write keeps the canonical form. -/
theorem Sparse.wf_set {d : α} {m : Sparse α} (hm : Sparse.wf d m = true) (k : Nat) (x : α) :
    Sparse.wf d (Sparse.set d m k x) = true := by
  unfold Sparse.set
  split
  · exact Sparse.wf_erase hm
  · exact Sparse.wf_insert hm ‹_›

omit [DecidableEq α] in
theorem Sparse.get_above {d : α} {m : Sparse α} {a k : Nat} (h : Sparse.above a m = true) (hk : k ≤ a) :
    Sparse.get d m k = d := by
  cases m with
  | nil => rfl
  | cons p m =>
    obtain ⟨k', v⟩ := p
    rw [Sparse.above_cons] at h
    simp [Sparse.get, show k ≠ k' by omega, show k < k' by omega]

omit [DecidableEq α] in
theorem Sparse.get_insert (d : α) (m : Sparse α) (k a : Nat) (x : α) :
    Sparse.get d (Sparse.insert m k x) a = if a = k then x else Sparse.get d m a := by
  induction m with
  | nil =>
    simp only [Sparse.insert, Sparse.get]
    split
    · rfl
    · split <;> rfl
  | cons p m ih =>
    obtain ⟨k', v⟩ := p
    simp only [Sparse.insert]
    split
    · next e =>
      subst e
      simp only [Sparse.get]
      split <;> rfl
    · split
      · simp only [Sparse.get]
        by_cases h1 : a = k
        · simp [h1]
        · by_cases h2 : a < k
          · simp [h1, h2, show a ≠ k' by omega, show a < k' by omega]
          · simp [h1, h2]
      · simp only [Sparse.get, ih]
        by_cases h1 : a = k'
        · simp [h1, show k' ≠ k by omega]
        · by_cases h2 : a < k'
          · simp [h1, h2, show a ≠ k by omega]
          · simp [h1, h2]

theorem Sparse.get_erase {d : α} {m : Sparse α} (hm : Sparse.wf d m = true) (k a : Nat) :
    Sparse.get d (Sparse.erase m k) a = if a = k then d else Sparse.get d m a := by
  induction m with
  | nil => simp [Sparse.erase, Sparse.get]
  | cons p m ih =>
    obtain ⟨k', v⟩ := p
    have h := (Sparse.wf_cons d k' v m).1 hm
    simp only [Sparse.erase]
    split
    · next e =>
      subst e
      by_cases h1 : a = k
      · subst h1; simpa using Sparse.get_above h.2.1 (Nat.le_refl _)
      · by_cases h2 : a < k
        · simp [Sparse.get, h1, h2, Sparse.get_above h.2.1 (Nat.le_of_lt h2)]
        · simp [Sparse.get, h1, h2]
    · split
      · by_cases h1 : a = k
        · subst h1; simp [Sparse.get, *]
        · simp [h1]
      · simp only [Sparse.get, ih h.2.2]
        by_cases h1 : a = k'
        · simp [h1, show k' ≠ k by omega]
        · by_cases h2 : a < k'
          · simp [h1, h2, show a ≠ k by omega]
          · simp [h1, h2]

/-- Reading after a write. -/
theorem Sparse.get_set {d : α} {m : Sparse α} (hm : Sparse.wf d m = true) (k a : Nat) (x : α) :
    Sparse.get d (Sparse.set d m k x) a = if a = k then x else Sparse.get d m a := by
  unfold Sparse.set
  split
  · next e => subst e; exact Sparse.get_erase hm k a
  · exact Sparse.get_insert d m k a x

end Sys2Proof.Machine
end

