-- ==== Sys2Proof/Laws/Memory.lean ====
section
/-! SUPPORT. Laws of physical memory: every operation keeps the canonical form, which reset memory has; a byte read after a
write; and the bytes of a written doubleword. -/

namespace Sys2Proof.Machine

/-- Memory after reset is canonical. -/
theorem Memory.wf_reset : Memory.wf State.reset.mem = true := rfl

/-- A byte write keeps the canonical form. -/
theorem Memory.wf_write {m : List Host.Cell} (h : Memory.wf m = true) (a : Nat) (b : Byte) :
    Memory.wf (Memory.write m a b) = true := Sparse.wf_set h a b

/-- A byte read after a byte write. -/
theorem Memory.read_write {m : List Host.Cell} (h : Memory.wf m = true) (a x : Nat) (b : Byte) :
    Memory.read (Memory.write m a b) x = if x = a then b else Memory.read m x := Sparse.get_set h a x b

/-- A lane write keeps the canonical form. -/
theorem Memory.wf_writeLane {m : List Host.Cell} (h : Memory.wf m = true) (be : Bool) (l : BitVec 8) (d : DWord)
    (base k : Nat) : Memory.wf (Memory.writeLane be l d base k m) = true := by
  unfold Memory.writeLane
  split
  · exact Memory.wf_write h _ _
  · exact h

/-- A doubleword write keeps the canonical form. -/
theorem Memory.wf_writeDouble {m : List Host.Cell} (h : Memory.wf m = true) (be : Bool) (base : Nat) (l : BitVec 8)
    (d : DWord) : Memory.wf (Memory.writeDouble be m base l d) = true := by
  unfold Memory.writeDouble
  iterate 8 apply Memory.wf_writeLane
  exact h

/-- A byte after a lane write. -/
theorem Memory.read_writeLane {m : List Host.Cell} (h : Memory.wf m = true) (be : Bool) (l : BitVec 8) (d : DWord)
    (base k x : Nat) : Memory.read (Memory.writeLane be l d base k m) x =
      if l.getLsbD k = true ∧ x = base + laneAddress be k then laneOf d k else Memory.read m x := by
  unfold Memory.writeLane
  by_cases hl : l.getLsbD k
  · simp [hl, Memory.read_write h]
  · simp [hl]

/-- The lane that an address inside a doubleword names. -/
def laneFor (be : Bool) (i : Nat) : Nat := if be then 7 - i else i

/-- A byte after a doubleword write: selected lanes of the doubleword, every other byte as before. -/
theorem Memory.read_writeDouble {m : List Host.Cell} (h : Memory.wf m = true) (be : Bool) (base : Nat) (l : BitVec 8)
    (d : DWord) (x : Nat) : Memory.read (Memory.writeDouble be m base l d) x =
      if base ≤ x ∧ x < base + 8 ∧ l.getLsbD (laneFor be (x - base)) = true then laneOf d (laneFor be (x - base))
      else Memory.read m x := by
  unfold Memory.writeDouble
  have w0 := Memory.wf_writeLane h be l d base 0
  have w1 := Memory.wf_writeLane w0 be l d base 1
  have w2 := Memory.wf_writeLane w1 be l d base 2
  have w3 := Memory.wf_writeLane w2 be l d base 3
  have w4 := Memory.wf_writeLane w3 be l d base 4
  have w5 := Memory.wf_writeLane w4 be l d base 5
  have w6 := Memory.wf_writeLane w5 be l d base 6
  rw [Memory.read_writeLane w6, Memory.read_writeLane w5, Memory.read_writeLane w4, Memory.read_writeLane w3,
    Memory.read_writeLane w2, Memory.read_writeLane w1, Memory.read_writeLane w0, Memory.read_writeLane h]
  by_cases hx : base ≤ x ∧ x < base + 8
  · obtain ⟨i, rfl, hi⟩ : ∃ i, x = base + i ∧ i < 8 := ⟨x - base, by omega, by omega⟩
    have hi' : i = 0 ∨ i = 1 ∨ i = 2 ∨ i = 3 ∨ i = 4 ∨ i = 5 ∨ i = 6 ∨ i = 7 := by omega
    rcases hi' with rfl | rfl | rfl | rfl | rfl | rfl | rfl | rfl <;> cases be <;> simp [laneFor, laneAddress]
  · have : ∀ k, k < 8 → ¬ x = base + laneAddress be k := by
      intro k hk; unfold laneAddress; split <;> omega
    simp [this 0, this 1, this 2, this 3, this 4, this 5, this 6, this 7]
    intro h1 h2
    omega

end Sys2Proof.Machine
end

