-- ==== Sys2Proof/Laws/Access.lean ====
section
/-! SUPPORT. What the shared operations over memory and the caches can do: every one of them leaves the registers alone
(`State.SameCore`) and keeps the canonical forms. -/

namespace Sys2Proof.Machine

/-- From s to t only storage moved, and canonical forms are kept. -/
structure State.Keeps (s t : State) : Prop where
  core : s.SameCore t
  wf : s.canonical = true → t.canonical = true

theorem State.SameCore.refl (s : State) : s.SameCore s := by constructor <;> rfl

theorem State.SameCore.trans {s t u : State} (h : s.SameCore t) (k : t.SameCore u) : s.SameCore u := by
  constructor
  · rw [k.int, h.int]
  · rw [k.pc, h.pc]
  · rw [k.delay, h.delay]
  · rw [k.fp, h.fp]
  · rw [k.cp0, h.cp0]
  · rw [k.perf, h.perf]
  · rw [k.tlb, h.tlb]
  · rw [k.bpt, h.bpt]
  · rw [k.interrupt, h.interrupt]
  · rw [k.timer, h.timer]
  · rw [k.nmi, h.nmi]
  · rw [k.softReset, h.softReset]
  · rw [k.coldReset, h.coldReset]
  · rw [k.waited, h.waited]
  · rw [k.modeBits, h.modeBits]
  · rw [k.errAddrs, h.errAddrs]
  · rw [k.wrRdy, h.wrRdy]
  · rw [k.gblPerf, h.gblPerf]
  · rw [k.jtag, h.jtag]
  · rw [k.ctm, h.ctm]
  · rw [k.ctr, h.ctr]
  · rw [k.note, h.note]
  · rw [k.held, h.held]
  · rw [k.params, h.params]

theorem State.Keeps.refl (s : State) : s.Keeps s := ⟨State.SameCore.refl s, id⟩

theorem State.Keeps.trans {s t u : State} (h : s.Keeps t) (k : t.Keeps u) : s.Keeps u :=
  ⟨h.core.trans k.core, fun w => k.wf (h.wf w)⟩

theorem State.Keeps.ite {s t u : State} {c : Prop} [Decidable c] (h : s.Keeps t) (k : s.Keeps u) :
    s.Keeps (if c then t else u) := by split <;> assumption

/-- The parts of the canonical form. -/
theorem State.canonical_iff (s : State) : s.canonical = true ↔
    Memory.wf s.mem = true ∧ Sparse.wf 0#2 s.bpt = true ∧ Sparse.wf ITag.default s.caches.iTag = true ∧
    Sparse.wf IWord.default s.caches.iData = true ∧ Sparse.wf false s.caches.iLru = true ∧
    Sparse.wf DTag.default s.caches.dTag = true ∧ Sparse.wf DLine.default s.caches.dData = true ∧
    Sparse.wf false s.caches.dLru = true ∧ Sparse.wf STag.default s.caches.sTag = true ∧
    Sparse.wf SQuad.default s.caches.sData = true ∧ Sparse.wf false s.caches.sMru = true := by
  simp only [State.canonical, Caches.wf, Bool.and_eq_true]
  constructor
  · rintro ⟨⟨h, ⟨⟨⟨⟨⟨⟨⟨⟨a, b⟩, c⟩, d⟩, e⟩, f⟩, g⟩, i⟩, j⟩⟩, k⟩
    exact ⟨h, k, a, b, c, d, e, f, g, i, j⟩
  · rintro ⟨h, k, a, b, c, d, e, f, g, i, j⟩
    exact ⟨⟨h, ⟨⟨⟨⟨⟨⟨⟨⟨a, b⟩, c⟩, d⟩, e⟩, f⟩, g⟩, i⟩, j⟩⟩, k⟩

/-! ## The array writes -/

theorem State.setITag_keeps (s : State) (k : Nat) (t : ITag) : s.Keeps (s.setITag k t) := by
  refine ⟨by constructor <;> rfl, fun h => ?_⟩
  rw [State.canonical_iff] at h ⊢
  exact ⟨h.1, h.2.1, Sparse.wf_set h.2.2.1 _ _, h.2.2.2⟩

theorem State.setIWord_keeps (s : State) (k i : Nat) (t : IWord) : s.Keeps (s.setIWord k i t) := by
  refine ⟨by constructor <;> rfl, fun h => ?_⟩
  rw [State.canonical_iff] at h ⊢
  exact ⟨h.1, h.2.1, h.2.2.1, Sparse.wf_set h.2.2.2.1 _ _, h.2.2.2.2⟩

theorem State.setILru_keeps (s : State) (i : Nat) (b : Bool) : s.Keeps (s.setILru i b) := by
  refine ⟨by constructor <;> rfl, fun h => ?_⟩
  rw [State.canonical_iff] at h ⊢
  exact ⟨h.1, h.2.1, h.2.2.1, h.2.2.2.1, Sparse.wf_set h.2.2.2.2.1 _ _, h.2.2.2.2.2⟩

theorem State.setDTag_keeps (s : State) (k : Nat) (t : DTag) : s.Keeps (s.setDTag k t) := by
  refine ⟨by constructor <;> rfl, fun h => ?_⟩
  rw [State.canonical_iff] at h ⊢
  obtain ⟨a, b, c, d, e, f, r⟩ := h
  exact ⟨a, b, c, d, e, Sparse.wf_set f _ _, r⟩

theorem State.setDWord_keeps (s : State) (k i : Nat) (t : DLine) : s.Keeps (s.setDWord k i t) := by
  refine ⟨by constructor <;> rfl, fun h => ?_⟩
  rw [State.canonical_iff] at h ⊢
  obtain ⟨a, b, c, d, e, f, g, r⟩ := h
  exact ⟨a, b, c, d, e, f, Sparse.wf_set g _ _, r⟩

theorem State.setDLru_keeps (s : State) (i : Nat) (x : Bool) : s.Keeps (s.setDLru i x) := by
  refine ⟨by constructor <;> rfl, fun h => ?_⟩
  rw [State.canonical_iff] at h ⊢
  obtain ⟨a, b, c, d, e, f, g, k, r⟩ := h
  exact ⟨a, b, c, d, e, f, g, Sparse.wf_set k _ _, r⟩

theorem State.setSTag_keeps (s : State) (k : Nat) (t : STag) : s.Keeps (s.setSTag k t) := by
  refine ⟨by constructor <;> rfl, fun h => ?_⟩
  rw [State.canonical_iff] at h ⊢
  obtain ⟨a, b, c, d, e, f, g, k, l, r⟩ := h
  exact ⟨a, b, c, d, e, f, g, k, Sparse.wf_set l _ _, r⟩

theorem State.setSQuad_keeps (s : State) (k q : Nat) (t : SQuad) : s.Keeps (s.setSQuad k q t) := by
  refine ⟨by constructor <;> rfl, fun h => ?_⟩
  rw [State.canonical_iff] at h ⊢
  obtain ⟨a, b, c, d, e, f, g, k, l, m, r⟩ := h
  exact ⟨a, b, c, d, e, f, g, k, l, Sparse.wf_set m _ _, r⟩

theorem State.setMru_keeps (s : State) (i : Nat) (x : Bool) : s.Keeps (s.setMru i x) := by
  refine ⟨by constructor <;> rfl, fun h => ?_⟩
  rw [State.canonical_iff] at h ⊢
  obtain ⟨a, b, c, d, e, f, g, k, l, m, r⟩ := h
  exact ⟨a, b, c, d, e, f, g, k, l, m, Sparse.wf_set r _ _⟩

/-- Replacing memory by canonical memory. -/
theorem State.setMem_keeps (s : State) (m : List Host.Cell) (h : Memory.wf s.mem = true → Memory.wf m = true) :
    s.Keeps (s.setMem m) := by
  refine ⟨by constructor <;> rfl, fun w => ?_⟩
  rw [State.canonical_iff] at w ⊢
  exact ⟨h w.1, w.2⟩

/-! ## Links, errors, the gatherer -/

theorem State.breakLink_keeps (s : State) : s.Keeps s.breakLink := ⟨by constructor <;> rfl, id⟩

theorem State.setLink_keeps (s : State) (p : Phys) : s.Keeps (s.setLink p) := ⟨by constructor <;> rfl, id⟩

theorem State.setWatch_keeps (s : State) : s.Keeps s.setWatch := ⟨by constructor <;> rfl, id⟩

theorem State.setGather_keeps (s : State) (g : Gather) : s.Keeps (s.setGather g) := ⟨by constructor <;> rfl, id⟩

theorem State.postI_keeps (s : State) (w : Word) : s.Keeps (s.postI w) := by
  unfold State.postI
  exact .ite (.refl s) ⟨by constructor <;> rfl, id⟩

theorem State.postD_keeps (s : State) (w : Word) : s.Keeps (s.postD w) := by
  unfold State.postD
  exact .ite (.refl s) ⟨by constructor <;> rfl, id⟩

theorem State.postS_keeps (s : State) (w : Word) : s.Keeps (s.postS w) := by
  unfold State.postS
  exact .ite (.refl s) ⟨by constructor <;> rfl, id⟩

theorem State.postSi_keeps (s : State) (w : Word) : s.Keeps (s.postSi w) := by
  unfold State.postSi
  exact .ite (.refl s) ⟨by constructor <;> rfl, id⟩

theorem State.pulseUnc_keeps (s : State) (b : Bool) : s.Keeps (s.pulseUnc b) := ⟨by constructor <;> rfl, id⟩

theorem State.pulseCor_keeps (s : State) (b : Bool) : s.Keeps (s.pulseCor b) := ⟨by constructor <;> rfl, id⟩

theorem State.setFifo_keeps (s : State) (l : List UncachedStore) : s.Keeps (s.setFifo l) := ⟨by constructor <;> rfl, id⟩

theorem State.setReady_keeps (s : State) (l : List Buffered) : s.Keeps (s.setReady l) := ⟨by constructor <;> rfl, id⟩

theorem State.setReplies_keeps (s : State) (l : List Reply) : s.Keeps (s.setReplies l) := ⟨by constructor <;> rfl, id⟩

theorem State.reportSData_keeps {α : Type} (s : State) (pa : PAddr) (w : Bool) (r : Checked α) :
    s.Keeps (s.reportSData pa w r) :=
  (s.pulseCor_keeps r.fixed).trans (.ite (State.postS_keeps _ _) (.refl _))

theorem State.setHung_keeps (s : State) : s.Keeps s.setHung := ⟨by constructor <;> rfl, id⟩

theorem State.checkDTags_keeps (s : State) (i : Nat) (x : BitVec 11) : s.Keeps (s.checkDTags i x) := by
  unfold State.checkDTags
  dsimp only
  split
  · exact (s.pulseUnc_keeps true).trans (State.postD_keeps _ _)
  · exact .refl s

theorem State.checkITags_keeps (s : State) (i : Nat) : s.Keeps (s.checkITags i) := by
  unfold State.checkITags
  dsimp only
  split
  · exact (s.pulseUnc_keeps true).trans (State.postI_keeps _ _)
  · exact .refl s

theorem State.learn_keeps (s : State) (x : IBits) : s.Keeps (s.learn x) := by
  unfold State.learn
  split
  · dsimp only
    refine .ite (.refl s) ⟨by constructor <;> rfl, fun h => ?_⟩
    rw [State.canonical_iff] at h ⊢
    exact h
  · exact .refl s

/-! ## Write back and purge -/

theorem State.dInvalidate_keeps (s : State) (k : Nat) : s.Keeps (s.dInvalidate k) := s.setDTag_keeps _ _

theorem State.iInvalidate_keeps (s : State) (k : Nat) : s.Keeps (s.iInvalidate k) := s.setITag_keeps _ _

theorem State.putDWords_keeps (l : List Word) (s : State) (k i : Nat) : s.Keeps (s.putDWords k i l) := by
  induction l generalizing s i with
  | nil => exact .refl s
  | cons w l ih => exact (s.setDWord_keeps _ _ _).trans (ih _ _)

theorem State.putIWords_keeps (l : List Word) (s : State) (k i : Nat) : s.Keeps (s.putIWords k i l) := by
  induction l generalizing s i with
  | nil => exact .refl s
  | cons w l ih => exact (s.setIWord_keeps _ _ _).trans (ih _ _)

theorem State.dWriteBack_keeps (s : State) (i : Nat) (w : Bool) : s.Keeps (s.dWriteBack i w) := by
  unfold State.dWriteBack
  refine .ite ?_ (.refl s)
  exact ((State.Keeps.ite (.refl s) (s.postD_keeps _)).trans (State.setSQuad_keeps _ _ _ _)).trans
    (State.setSQuad_keeps _ _ _ _)

theorem State.dPurge_keeps (s : State) (m : Purge) (i : Nat) (pa : PAddr) (w : Bool) : s.Keeps (s.dPurge m i pa w) :=
  .ite ((State.Keeps.ite (s.dWriteBack_keeps i w) (.refl s)).trans (State.dInvalidate_keeps _ _)) (.refl s)

theorem State.iPurge_keeps (s : State) (i : Nat) (pa : PAddr) (w : Bool) : s.Keeps (s.iPurge i pa w) :=
  .ite (s.iInvalidate_keeps _) (.refl s)

theorem State.dPurgeSet_keeps (s : State) (m : Purge) (i : Nat) (pa : PAddr) : s.Keeps (s.dPurgeSet m i pa) :=
  ((s.checkDTags_keeps _ _).trans (State.dPurge_keeps _ _ _ _ _)).trans (State.dPurge_keeps _ _ _ _ _)

theorem State.iPurgeSet_keeps (s : State) (i : Nat) (pa : PAddr) : s.Keeps (s.iPurgeSet i pa) :=
  ((s.checkITags_keeps _).trans (State.iPurge_keeps _ _ _ _)).trans (State.iPurge_keeps _ _ _ _)

theorem State.purgeFrom_keeps (n : Nat) (s : State) (m : Purge) (p : BitVec 2) (pa : PAddr) :
    s.Keeps (s.purgeFrom m p pa n) := by
  induction n generalizing s pa with
  | zero => exact .refl s
  | succ n ih =>
    exact ((s.dPurgeSet_keeps _ _ _).trans (.ite (.refl _) (State.iPurgeSet_keeps _ _ _))).trans (ih _ _)

theorem State.purge_keeps (s : State) (m : Purge) (p : BitVec 2) (pa : PAddr) : s.Keeps (s.purge m p pa) :=
  State.purgeFrom_keeps _ _ _ _ _

theorem State.writeQuads_keeps (l : List QWord) (s : State) (a : Nat) : s.Keeps (s.writeQuads a l) := by
  induction l generalizing s a with
  | nil => exact .refl s
  | cons q l ih =>
    exact (s.setMem_keeps _ fun h => Memory.wf_writeDouble (Memory.wf_writeDouble h _ _ _ _) _ _ _ _).trans (ih _ _)

theorem State.dMatch_keeps (s : State) (i : Nat) (pa : PAddr) (st : BlockState) (w : Bool) : s.Keeps (s.dMatch i pa st w) :=
  .ite (s.setDTag_keeps _ _) (.refl s)

theorem State.dMatchFrom_keeps (n : Nat) (s : State) (p : BitVec 2) (pa : PAddr) (st : BlockState) :
    s.Keeps (s.dMatchFrom p pa st n) := by
  induction n generalizing s pa with
  | zero => exact .refl s
  | succ n ih => exact ((s.dMatch_keeps _ _ _ _).trans (State.dMatch_keeps _ _ _ _ _)).trans (ih _ _)

theorem State.record_keeps (s : State) (w : BusEvent) : s.Keeps (s.record w) := ⟨by constructor <;> rfl, id⟩

theorem State.setOutgoing_keeps (s : State) (l : List Outgoing) : s.Keeps (s.setOutgoing l) := ⟨by constructor <;> rfl, id⟩

theorem State.issueOutgoing_keeps (l : List Outgoing) (s : State) : s.Keeps (s.issueOutgoing l) := by
  induction l generalizing s with
  | nil => exact .refl s
  | cons o l ih => exact ((State.writeQuads_keeps _ s _).trans (State.record_keeps _ _)).trans (ih _)

theorem State.sendOutgoing_keeps (s : State) : s.Keeps s.sendOutgoing :=
  (State.issueOutgoing_keeps _ s).trans (State.setOutgoing_keeps _ _)

/-- What putting a block into the outgoing buffer can do. -/
theorem State.outgo_keeps (s : State) (o : Outgoing) : s.Keeps (s.outgo o) :=
  (s.setOutgoing_keeps _).trans (.ite (State.sendOutgoing_keeps _) (.refl _))

theorem State.castOut_keeps (s : State) (k : OutgoingKind) (f : List Bool) (pa : PAddr) (w : Bool) :
    s.Keeps (s.castOut k f pa w) :=
  (s.reportSData_keeps _ _ _).trans (State.outgo_keeps _ _)

theorem State.sEvict_keeps (s : State) (m : Purge) (pa : PAddr) (w : Bool) : s.Keeps (s.sEvict m pa w) := by
  unfold State.sEvict
  refine .ite (.refl s) ?_
  exact ((s.purge_keeps _ _ _).trans (State.Keeps.ite (State.castOut_keeps _ _ _ _ _) (.refl _))).trans
    (State.setSTag_keeps _ _ _)

theorem State.sLoadQuads_keeps (n : Nat) (s : State) (k q a : Nat) (b : BitVec 16) : s.Keeps (s.sLoadQuads k q a b n) := by
  induction n generalizing s q a with
  | zero => exact .refl s
  | succ n ih => exact (s.setSQuad_keeps _ _ _).trans (ih _ _ _)

theorem State.own_keeps (s : State) (va : DWord) (pa : PAddr) (w : Bool) : s.Keeps (s.own va pa w) :=
  (s.setSTag_keeps _ _).trans (State.dMatchFrom_keeps _ _ _ _ _)

/-! ## Answers of the external agent -/

theorem State.postResponse_keeps (s : State) : s.Keeps s.postResponse :=
  (s.pulseUnc_keeps true).trans (State.postSi_keeps _ _)

theorem State.pulseData_keeps (s : State) (r : Reply) : s.Keeps (s.pulseData r) := s.pulseCor_keeps _

theorem State.answerBlock_keeps (l : List Reply) (s : State) (r e : Bool) (d : Option DataResponse) :
    s.Keeps (s.answerBlock r e d l).2 := by
  induction l generalizing s d with
  | nil => exact s.setReplies_keeps _
  | cons a l ih =>
    have h := s.pulseData_keeps a
    have done := h.trans (State.setReplies_keeps _ l)
    unfold State.answerBlock
    dsimp only
    split
    · split
      · exact h.trans (ih _ _)
      · exact done
    · exact h.trans (ih _ _)
    · exact done
    · exact (h.trans (State.postResponse_keeps _)).trans (ih _ _)
    · exact h.trans (ih _ _)

theorem State.askBlock_keeps (s : State) (r : Bool) (pa : PAddr) : s.Keeps (s.askBlock r pa).2 := State.answerBlock_keeps _ s _ _ _

/-- A read request is acknowledged with data only: an ACK without them is overridden to a NACK (R315). -/
theorem State.answerBlock_read_has_data (l : List Reply) (s : State) (e : Bool) (d : Option DataResponse) :
    (s.answerBlock true e d l).1 ≠ .ack .none := by
  induction l generalizing s d with
  | nil => cases d <;> cases e <;> simp [State.answerBlock, defaultAnswer]
  | cons a l ih =>
    unfold State.answerBlock
    dsimp only
    split
    · split
      · exact ih _ _
      · next c => intro h; simp_all
    · exact ih _ _
    · exact Answer.noConfusion
    · exact ih _ _
    · exact ih _ _

theorem State.answerSingle_keeps (l : List Reply) (s : State) (e : Bool) (d : Option DataResponse) :
    s.Keeps (s.answerSingle e d l).2 := by
  induction l generalizing s d with
  | nil => exact s.setReplies_keeps _
  | cons a l ih =>
    have h := s.pulseData_keeps a
    have done := h.trans (State.setReplies_keeps _ l)
    unfold State.answerSingle
    dsimp only
    split
    · split
      · exact h.trans (ih _ _)
      · exact done
    · exact h.trans (ih _ _)
    · exact done
    · exact ((h.trans (State.postResponse_keeps _)).trans (State.setReplies_keeps _ l)).trans (State.setHung_keeps _)
    · exact h.trans (ih _ _)

/-! ## Results -/

/-- Whatever came of it, only storage moved. -/
inductive Res.Keeps {α : Type} (s : State) : Res α → Prop where
  | ok {a : α} {t : State} (h : s.Keeps t) : Res.Keeps s (.ok a t)
  | busError {t : State} (h : s.Keeps t) : Res.Keeps s (.busError t)
  | cacheError {t : State} (h : s.Keeps t) : Res.Keeps s (.cacheError t)
  | wait {t : State} (h : s.Keeps t) : Res.Keeps s (.wait t)
  | stop {r : Fault} : Res.Keeps s (.stop r)

theorem Res.Keeps.trans {α : Type} {s t : State} {x : Res α} (h : s.Keeps t) (k : Res.Keeps t x) : Res.Keeps s x := by
  cases k with
  | ok k => exact .ok (h.trans k)
  | busError k => exact .busError (h.trans k)
  | cacheError k => exact .cacheError (h.trans k)
  | wait k => exact .wait (h.trans k)
  | stop => exact .stop

theorem Res.Keeps.bind {α β : Type} {s : State} {x : Res α} {f : α → State → Res β} (h : Res.Keeps s x)
    (k : ∀ a t, Res.Keeps t (f a t)) : Res.Keeps s (x.bind f) := by
  cases h with
  | ok h => exact (k _ _).trans h
  | busError h => exact .busError h
  | cacheError h => exact .cacheError h
  | wait h => exact .wait h
  | stop => exact .stop

theorem State.goOn_keeps {α : Type} {s t : State} (h : s.Keeps t) (a : α) : Res.Keeps s (t.goOn a) := by
  unfold State.goOn
  split
  · exact .cacheError h
  · exact .ok h

theorem Res.Keeps.stateOr {α : Type} {s : State} {x : Res α} (h : Res.Keeps s x) : s.Keeps (x.stateOr s) := by
  cases h with
  | stop => exact .refl s
  | ok h => exact h
  | busError h => exact h
  | cacheError h => exact h
  | wait h => exact h

/-! ## The caches -/

theorem State.sTags_keeps (s : State) (pa : PAddr) : Res.Keeps s (s.sTags pa) := by
  unfold State.sTags
  dsimp only
  split
  · exact State.goOn_keeps (((s.pulseCor_keeps _).trans (State.pulseUnc_keeps _ _)).trans (State.postS_keeps _ _)) _
  · exact .ok (s.pulseCor_keeps _)

theorem State.readAnswer_keeps (s : State) (pa : PAddr) : Res.Keeps s (s.readAnswer pa) := by
  unfold State.readAnswer
  have h := State.answerSingle_keeps s.bus.replies s (s.errBlock 3 pa) .none
  split
  · next e => rw [e] at h; exact .wait h
  · next e => rw [e] at h; exact .busError h
  · next e =>
    rw [e] at h
    dsimp only
    split
    · exact .busError h
    · exact .ok h

theorem State.readSingle_keeps (s : State) (pa : PAddr) (l : BitVec 8) (a : BitVec 2) : Res.Keeps s (s.readSingle pa l a) :=
  (State.readAnswer_keeps _ _).trans (s.record_keeps _)

theorem State.install_keeps (s : State) (va : DWord) (pa : PAddr) (w : Bool) (st : BlockState) (b : BitVec 16) :
    Res.Keeps s (s.install va pa w st b) := by
  have h := ((State.sLoadQuads_keeps s.sQuads s (s.sKey pa w) 0 (s.blockBase pa).toNat b).trans
    (State.setSTag_keeps _ (s.sKey pa w) (sTagOf pa (pidxOf va) st))).trans (State.setMru_keeps _ (s.mruIndex pa) w)
  unfold State.install
  dsimp only
  split
  · exact .ok h
  · exact State.goOn_keeps (h.trans (State.postSi_keeps _ _)) _

theorem State.upgrade_keeps (s : State) (va : DWord) (pa : PAddr) (w : Bool) : Res.Keeps s (s.upgrade va pa w) := by
  have h := s.askBlock_keeps false pa
  unfold State.upgrade
  split
  · next e => rw [e] at h; exact .busError h
  · next e => rw [e] at h; exact .ok (h.trans (State.own_keeps _ _ _ _))
  · next e =>
    rw [e] at h
    exact ((State.install_keeps _ _ _ _ _ _).trans (h.trans (State.purge_keeps _ _ _ _))).bind fun r t => .ok (.refl t)

theorem State.sHit_keeps (s : State) (va : DWord) (pa : PAddr) (e w : Bool) (t : STag) :
    Res.Keeps s (s.sHit va pa e w t) := by
  have h : s.Keeps (if t.pidx == pidxOf va then s.setMru (s.mruIndex pa) w else
      ((s.setMru (s.mruIndex pa) w).purge .inconsistent t.pidx pa).setSTag (s.sKey pa w) (sTagOf pa (pidxOf va) t.state)) :=
    .ite (s.setMru_keeps _ _)
      (((s.setMru_keeps _ _).trans (State.purge_keeps _ _ _ _)).trans (State.setSTag_keeps _ _ _))
  unfold State.sHit
  dsimp only
  generalize (if t.pidx == pidxOf va then _ else _ : State) = u at h ⊢
  split
  · exact ((u.upgrade_keeps _ _ _).trans h).bind fun _ v => .ok (.refl v)
  · exact .ok h

theorem State.sMiss_keeps (s : State) (va : DWord) (pa : PAddr) (g : BitVec 3) (e : Bool) (p : STag × STag) :
    Res.Keeps s (s.sMiss va pa g e p) := by
  have h := (s.sEvict_keeps .inconsistent pa (s.sVictim pa p)).trans (State.askBlock_keeps _ true pa)
  unfold State.sMiss
  dsimp only
  split
  · exact .wait (.refl s)
  split
  · next e => rw [e] at h; exact .busError h
  · next e =>
    rw [e] at h
    refine ((State.install_keeps _ _ _ _ _ _).trans h).bind fun r t => ?_
    split
    · exact (t.upgrade_keeps _ _ _).bind fun _ v => .ok (.refl v)
    · exact .ok (.refl t)

theorem State.sEnsure_keeps (s : State) (va : DWord) (pa : PAddr) (g : BitVec 3) (e : Bool) :
    Res.Keeps s (s.sEnsure va pa g e) := by
  refine (s.sTags_keeps pa).bind fun p t => ?_
  split
  · exact t.sHit_keeps _ _ _ _ _
  · exact t.sMiss_keeps _ _ _ _ _

theorem State.dTags_keeps (s : State) (va : DWord) : Res.Keeps s (s.dTags va) := by
  unfold State.dTags
  dsimp only
  split
  · exact State.goOn_keeps (s.checkDTags_keeps _ _) _
  · exact .ok (.refl s)

theorem State.dFill_keeps (s : State) (va : DWord) (pa : PAddr) (w x : Bool) (st : BlockState) :
    Res.Keeps s (s.dFill va pa w x st) := by
  have h := ((s.dWriteBack_keeps (dSet va) w).trans (State.dInvalidate_keeps _ (wayKey (dSet va) w)))
  unfold State.dFill
  dsimp only
  refine (State.goOn_keeps (h.trans (State.reportSData_keeps _ _ _ _)) ()).bind fun _ t => .ok ?_
  exact ((State.putDWords_keeps _ t _ _).trans (State.setDTag_keeps _ _ _)).trans (State.setDLru_keeps _ _ _)

theorem State.dHit_keeps (s : State) (va : DWord) (pa : PAddr) (e w : Bool) (t : DTag) :
    Res.Keeps s (s.dHit va pa e w t) := by
  have h := s.setDLru_keeps (dSet va) (!w)
  unfold State.dHit
  dsimp only
  split
  · exact .stop
  · split
    · refine ((State.upgrade_keeps _ _ _ _).trans h).bind fun r u => ?_
      split
      · exact u.dFill_keeps _ _ _ _ _
      · exact .ok (.refl u)
    · exact .ok h

theorem State.dEnsure_keeps (s : State) (va : DWord) (pa : PAddr) (g : BitVec 3) (e : Bool) (p : Option Bool) :
    Res.Keeps s (s.dEnsure va pa g e p) := by
  refine (s.dTags_keeps va).bind fun q t => ?_
  split
  · exact t.dHit_keeps _ _ _ _ _
  · exact (t.sEnsure_keeps _ _ _ _).bind fun r u => u.dFill_keeps _ _ _ _ _

theorem State.dLoad_keeps (s : State) (va : DWord) (pa : PAddr) (g : BitVec 3) (l : BitVec 8) :
    Res.Keeps s (s.dLoad va pa g l) := by
  refine (s.dEnsure_keeps va pa g false .none).bind fun w t => ?_
  dsimp only
  split
  · exact .ok (.refl t)
  · exact State.goOn_keeps (t.postD_keeps _) _

theorem State.dStore_keeps (s : State) (va : DWord) (pa : PAddr) (g : BitVec 3) (l : BitVec 8) (d : DWord) :
    Res.Keeps s (s.dStore va pa g l d) := by
  refine (s.dEnsure_keeps va pa g true .none).bind fun w t => .ok ?_
  dsimp only
  have h (x y z) := ((t.setDWord_keeps (wayKey (dSet va) w) (2 * dIndex va) x).trans
    (State.setDWord_keeps _ (wayKey (dSet va) w) (2 * dIndex va + 1) y)).trans
    (State.setDTag_keeps _ (wayKey (dSet va) w) z)
  split
  · exact h _ _ _
  · exact (h _ _ _).trans (State.own_keeps _ _ _ _)

theorem State.iTags_keeps (s : State) (va : DWord) : Res.Keeps s (s.iTags va) := by
  unfold State.iTags
  dsimp only
  split
  · exact State.goOn_keeps (s.checkITags_keeps _) _
  · exact .ok (.refl s)

theorem State.iFill_keeps (s : State) (va : DWord) (pa : PAddr) (w x : Bool) : Res.Keeps s (s.iFill va pa w x) := by
  unfold State.iFill
  dsimp only
  refine (State.goOn_keeps (s.reportSData_keeps _ _ _) ()).bind fun _ t => .ok ?_
  exact (State.putIWords_keeps _ t _ _).trans (State.setITag_keeps _ _ _)

theorem State.iEnsure_keeps (s : State) (va : DWord) (pa : PAddr) (g : BitVec 3) : Res.Keeps s (s.iEnsure va pa g) := by
  refine Res.Keeps.bind ((s.iTags_keeps va).bind fun p t => ?_) fun w t => .ok (t.setILru_keeps _ _)
  split
  · exact .ok (.refl t)
  · exact (t.sEnsure_keeps _ _ _ _).bind fun r u => u.iFill_keeps _ _ _ _

theorem State.iLoad_keeps (s : State) (va : DWord) (pa : PAddr) (g : BitVec 3) : Res.Keeps s (s.iLoad va pa g) := by
  refine (s.iEnsure_keeps va pa g).bind fun w t => ?_
  dsimp only
  refine Res.Keeps.bind ?_ fun _ u => ?_
  · split
    · exact .ok (.refl t)
    · exact State.goOn_keeps (t.postI_keeps _) ()
  split
  · exact .ok (.refl u)
  · exact .stop

/-! ## The gatherer and the access at a physical address -/

theorem State.writeGathered_keeps (l : List Gathered) (s : State) : s.Keeps (s.writeGathered l) := by
  induction l generalizing s with
  | nil => exact .refl s
  | cons g l ih => exact (s.setMem_keeps _ fun h => Memory.wf_writeDouble h _ _ _ _).trans (ih _)

theorem State.recordAll_keeps (l : List BusEvent) (s : State) : s.Keeps (s.recordAll l) := by
  induction l generalizing s with
  | nil => exact .refl s
  | cons w l ih => exact (s.record_keeps w).trans (ih _)

theorem State.writeBuffered_keeps (l : List Buffered) (s : State) : s.Keeps (s.writeBuffered l) := by
  induction l generalizing s with
  | nil => exact .refl s
  | cons b l ih => exact ((State.writeGathered_keeps _ s).trans (State.recordAll_keeps _ _)).trans (ih _)

theorem State.sendReady_keeps (s : State) : s.Keeps s.sendReady :=
  (State.writeBuffered_keeps _ s).trans (State.setReady_keeps _ _)

theorem State.issue_keeps (s : State) (b : Buffered) : s.Keeps (s.issue b) :=
  (s.setReady_keeps _).trans (.ite (State.sendReady_keeps _) (.refl _))

theorem State.terminate_keeps (s : State) : s.Keeps s.terminate := by
  unfold State.terminate
  split
  · exact .refl s
  · exact (s.issue_keeps _).trans (State.setGather_keeps _ _)

theorem State.gatherStore_keeps (s : State) (pa : PAddr) (a : BitVec 2) (n : Nat) (x : Gathered) :
    s.Keeps (s.gatherStore pa a n x) := by
  unfold State.gatherStore
  split
  · refine s.terminate_keeps.trans ?_
    unfold State.beginGather
    exact .ite (State.setGather_keeps _ _) (State.issue_keeps _ _)
  · exact .ite ((s.setGather_keeps _).trans (State.terminate_keeps _)) (s.setGather_keeps _)

theorem State.admitOne_keeps (s : State) (x : UncachedStore) : s.Keeps (s.admitOne x) := by
  unfold State.admitOne
  split
  · exact s.gatherStore_keeps _ _ _ _
  · exact s.terminate_keeps.trans (State.issue_keeps _ _)

theorem State.admitAll_keeps (l : List UncachedStore) (s : State) : s.Keeps (s.admitAll l) := by
  induction l generalizing s with
  | nil => exact .refl s
  | cons x l ih => exact (s.admitOne_keeps x).trans (ih _)

theorem State.flushBuffer_keeps (s : State) : s.Keeps s.flushBuffer :=
  (s.sendReady_keeps.trans (State.setFifo_keeps _ _)).trans (State.admitAll_keeps _ _)

/-- What putting a store into the uncached buffer can do. -/
theorem State.accept_keeps {s t : State} {x : UncachedStore} (h : s.accept x = some t) : s.Keeps t := by
  unfold State.accept at h
  split at h
  · cases h; exact s.flushBuffer_keeps.trans (State.admitOne_keeps _ _)
  · split at h
    · cases h; exact s.admitOne_keeps x
    · split at h
      · cases h; exact s.setFifo_keeps _
      · cases h

theorem State.loadPhys_keeps (s : State) (va : DWord) (p : Phys) (l : BitVec 8) : Res.Keeps s (s.loadPhys va p l) := by
  unfold State.loadPhys
  split
  · exact s.dLoad_keeps _ _ _ _
  · split
    · exact (State.readSingle_keeps _ _ _ _).trans (s.flushBuffer_keeps.trans (State.terminate_keeps _))
    · exact .wait (.refl s)

theorem State.storePhys_keeps (s : State) (va : DWord) (p : Phys) (l : BitVec 8) (f : Option Nat) (d : DWord) :
    Res.Keeps s (s.storePhys va p l f d) := by
  unfold State.storePhys
  split
  · exact s.dStore_keeps _ _ _ _ _
  · split
    · next h => exact .ok (State.accept_keeps h)
    · exact .wait (.refl s)

theorem State.fetchPhys_keeps (s : State) (va : DWord) (p : Phys) : Res.Keeps s (s.fetchPhys va p) := by
  unfold State.fetchPhys
  split
  · exact s.iLoad_keeps _ _ _
  · exact (s.readSingle_keeps _ _ _).bind fun _ t => .ok (.refl t)

/-! ## References -/

/-- The exceptions a reference takes, or a wait, from a state u to which only storage moved. -/
inductive State.Trapped (s : State) : State → Prop where
  | exception {u : State} (h : s.Keeps u) (code : BitVec 5) : s.Trapped (u.takeException code)
  | cacheError {u : State} (h : s.Keeps u) : s.Trapped u.takeCacheError
  | wait {u : State} (h : s.Keeps u) : s.Trapped u.waitHere
  | addressError {u : State} (h : s.Keeps u) (store : Bool) (va : DWord) : s.Trapped (u.addressError store va)
  | refill {u : State} (h : s.Keeps u) (store : Bool) (va : DWord) : s.Trapped (u.tlbRefill store va)
  | invalid {u : State} (h : s.Keeps u) (store : Bool) (va : DWord) : s.Trapped (u.tlbInvalid store va)
  | modified {u : State} (h : s.Keeps u) (va : DWord) : s.Trapped (u.tlbModified va)

theorem State.Trapped.trans {s t u : State} (h : s.Keeps t) (k : t.Trapped u) : s.Trapped u := by
  cases k with
  | exception k c => exact .exception (h.trans k) c
  | cacheError k => exact .cacheError (h.trans k)
  | wait k => exact .wait (h.trans k)
  | addressError k st va => exact .addressError (h.trans k) st va
  | refill k st va => exact .refill (h.trans k) st va
  | invalid k st va => exact .invalid (h.trans k) st va
  | modified k va => exact .modified (h.trans k) va

/-- The exception of a failed translation. -/
theorem State.xlateException_trapped (s : State) (store : Bool) (va : DWord) {x : Xlate} (h : ∀ p, x ≠ .ok p) :
    s.Trapped (s.xlateException store va x) := by
  cases x with
  | ok p => exact absurd rfl (h p)
  | addressError => exact .addressError (.refl s) store va
  | refill => exact .refill (.refl s) store va
  | invalid => exact .invalid (.refl s) store va
  | modified => exact .modified (.refl s) va

/-- A reference that succeeds moves only storage; one that does not has taken an exception, or the model stops. -/
inductive Acc.Keeps {α : Type} (s : State) : Acc α → Prop where
  | ok {a : α} {t : State} (h : s.Keeps t) : Acc.Keeps s (.ok a t)
  | trap {t : State} (h : s.Trapped t) : Acc.Keeps s (.trap t)
  | stop {r : Fault} : Acc.Keeps s (.stop r)

/-- What success says. -/
theorem Acc.Keeps.of_ok {α : Type} {s t : State} {a : α} (h : Acc.Keeps s (.ok a t)) : s.Keeps t := by
  cases h with
  | ok h => exact h

theorem Acc.Keeps.bind {α β : Type} {s : State} {x : Acc α} {f : α → State → Acc β} (h : Acc.Keeps s x)
    (k : ∀ a t, s.Keeps t → Acc.Keeps s (f a t)) : Acc.Keeps s (x.bind f) := by
  cases h with
  | ok h => exact k _ _ h
  | trap h => exact .trap h
  | stop => exact .stop

theorem Acc.Keeps.trans {α : Type} {s t : State} {x : Acc α} (h : s.Keeps t) (k : Acc.Keeps t x) : Acc.Keeps s x := by
  cases k with
  | ok k => exact .ok (h.trans k)
  | trap k => exact .trap (k.trans h)
  | stop => exact .stop

theorem Res.Keeps.acc {α : Type} {s : State} {x : Res α} (h : Res.Keeps s x) (c : BitVec 5) : Acc.Keeps s (x.acc c) := by
  cases h with
  | ok h => exact .ok h
  | busError h => exact .trap (.exception h c)
  | cacheError h => exact .trap (.cacheError h)
  | wait h => exact .trap (.wait h)
  | stop => exact .stop

/-- What a Watch exception does: the refill before it moves only storage, and may wait. -/
theorem State.watchTaken_trapped (s : State) (va : DWord) (p : Phys) : s.Trapped (s.watchTaken va p) := by
  unfold State.watchTaken
  split
  · have h := s.dEnsure_keeps va p.pa p.alg false .none
    generalize s.dEnsure va p.pa p.alg false .none = x at h ⊢
    split
    · cases h with
      | wait h => exact .wait h
    · exact .exception h.stateOr _
  · exact .exception (.refl s) _

theorem State.reference_keeps (s : State) (va : DWord) (st : Bool) (made : Bool := true) :
    Acc.Keeps s (s.reference va st made) := by
  unfold State.reference
  split
  · dsimp only
    split
    · exact .trap (s.watchTaken_trapped va _)
    · split
      · exact .stop
      · exact .ok (.ite s.setWatch_keeps (.refl s))
  · next h => exact .trap (s.xlateException_trapped _ _ h)

theorem State.loadAt_keeps (s : State) (va : DWord) (l : BitVec 8) : Acc.Keeps s (s.loadAt va l) :=
  (s.reference_keeps va false).bind fun p t h =>
    (((State.loadPhys_keeps _ va p l).trans (h.trans t.breakLink_keeps)).acc _).bind fun _ _ k => .ok k

theorem State.storeAt_keeps (s : State) (va : DWord) (l : BitVec 8) (f : Option Nat) (d : DWord) :
    Acc.Keeps s (s.storeAt va l f d) :=
  (s.reference_keeps va true).bind fun p t h =>
    ((State.storePhys_keeps _ va p l f d).trans (h.trans t.breakLink_keeps)).acc _

theorem State.aligned_keeps {α : Type} (s : State) (va : DWord) (n : Nat) (st : Bool) (k : DWord → Acc α)
    (h : ∀ a, Acc.Keeps s (k a)) : Acc.Keeps s (s.aligned va n st k) := by
  unfold State.aligned
  dsimp only
  split
  · exact h _
  · exact .trap (.addressError (.refl s) _ _)

theorem State.readPhys_keeps (s : State) (va : DWord) (n : Nat) : Acc.Keeps s (s.readPhys va n) :=
  s.aligned_keeps va n false _ fun _ => (s.loadAt_keeps _ _).bind fun _ _ h => .ok h

/-- What a load can do: if it succeeds, only storage moves. -/
theorem State.read_keeps (s : State) (va : DWord) (n : Nat) : Acc.Keeps s (s.read va n) :=
  (s.readPhys_keeps va n).bind fun _ _ h => .ok h

/-- What a store can do: if it succeeds, only storage moves. -/
theorem State.write_keeps (s : State) (va : DWord) (n : Nat) (v : DWord) : Acc.Keeps s (s.write va n v) :=
  s.aligned_keeps va n true _ fun _ => s.storeAt_keeps _ _ _ _

/-- What a Store Conditional's store can do. -/
theorem State.writeLinked_keeps (s : State) (va : DWord) (n : Nat) (v : DWord) :
    Acc.Keeps s (s.writeLinked va n v) := by
  refine s.aligned_keeps va n true _ fun a => (s.reference_keeps a true _).bind fun p t h => ?_
  split
  · exact (((State.storePhys_keeps _ a p _ _ _).trans h).acc _).bind fun _ u k => .ok (k.trans u.breakLink_keeps)
  · exact .ok (h.trans t.breakLink_keeps)

/-- What a prefetch can do. -/
theorem State.prefetch_keeps (s : State) (va : DWord) (h : BitVec 5) : Acc.Keeps s (s.prefetch va h) := by
  unfold State.prefetch
  dsimp only
  generalize s.translate _ _ = x
  cases x with
  | ok p =>
    dsimp only
    split
    · generalize hr : s.breakLink.dEnsure _ _ _ _ _ = r
      have k : Res.Keeps s.breakLink r := hr ▸ State.dEnsure_keeps ..
      cases k with
      | stop => exact .stop
      | ok k => exact .ok (s.breakLink_keeps.trans k)
      | busError k => exact .ok (s.breakLink_keeps.trans k)
      | cacheError k => exact .ok (s.breakLink_keeps.trans k)
      | wait k => exact .trap (.wait (s.breakLink_keeps.trans k))
    · exact .ok s.breakLink_keeps
  | _ => exact .ok s.breakLink_keeps

/-- What a fetch can do. -/
theorem State.fetch_keeps (s : State) : Acc.Keeps s s.fetch := by
  unfold State.fetch
  split
  · split
    · split
      · exact .stop
      · exact (s.fetchPhys_keeps _ _).acc _
    · next h => exact .trap (s.xlateException_trapped _ _ h)
  · exact .trap (.addressError (.refl s) _ _)

/-- What the next instruction's word can do: a word that is held moves nothing. -/
theorem State.nextWord_keeps (s : State) (h : Option Word) : Acc.Keeps s (s.nextWord h) := by
  cases h with
  | none => exact s.fetch_keeps
  | some w => exact .ok (.refl s)

/-- What a partial load can do. -/
theorem State.readPart_keeps (s : State) (va : DWord) (n : Nat) (l : Bool) : Acc.Keeps s (s.readPart va n l) :=
  (s.loadAt_keeps _ _).bind fun _ _ h => .ok h

/-- What a partial store can do. -/
theorem State.writePart_keeps (s : State) (va : DWord) (n : Nat) (l : Bool) (u : DWord) :
    Acc.Keeps s (s.writePart va n l u) := s.storeAt_keeps _ _ _ _

end Sys2Proof.Machine
end

