-- ==== Sys2Proof/Laws/Bits.lean ====
section
/-! SUPPORT. What the bit-field helpers do, bit by bit and field by field. -/

namespace Sys2Proof.Machine

theorem getLsbD_mergeMask {n : Nat} (m o x : BitVec n) (i : Nat) :
    (mergeMask m o x).getLsbD i = if m.getLsbD i then x.getLsbD i else o.getLsbD i := by
  unfold mergeMask
  simp only [BitVec.getLsbD_or, BitVec.getLsbD_and, BitVec.getLsbD_not]
  by_cases h : i < n
  · cases m.getLsbD i <;> simp [h]
  · simp [BitVec.getLsbD_of_ge _ i (Nat.le_of_not_lt h)]

theorem getLsbD_putField {n m : Nat} (v : BitVec n) (lo : Nat) (f : BitVec m) (i : Nat) :
    (putField v lo f).getLsbD i = if lo ≤ i ∧ i < lo + m ∧ i < n then f.getLsbD (i - lo) else v.getLsbD i := by
  unfold putField
  rw [getLsbD_mergeMask]
  simp only [BitVec.getLsbD_shiftLeft, BitVec.getLsbD_setWidth, BitVec.getLsbD_allOnes]
  by_cases h : lo ≤ i ∧ i < lo + m ∧ i < n
  · have h1 : ¬ i < lo := by omega
    have h2 : i - lo < m := by omega
    have h3 : i - lo < n := by omega
    simp [h, h1, h2, h3]
  · rw [if_neg h, if_neg]
    simp only [Bool.and_eq_true, decide_eq_true_eq, Bool.not_eq_true', decide_eq_false_iff_not]
    omega

theorem getLsbD_putBit {n : Nat} (v : BitVec n) (k : Nat) (b : Bool) (i : Nat) :
    (putBit v k b).getLsbD i = if i = k ∧ i < n then b else v.getLsbD i := by
  unfold putBit
  rw [getLsbD_putField]
  by_cases h : i = k ∧ i < n
  · rw [if_pos h, if_pos (by omega)]; simp [h]
  · rw [if_neg h, if_neg (by omega)]

/-- Setting a bit. -/
theorem putBit_true {n : Nat} (v : BitVec n) (k : Nat) : putBit v k true = v ||| (1#n <<< k) := by
  apply BitVec.eq_of_getLsbD_eq
  intro i hi
  rw [getLsbD_putBit]
  simp only [BitVec.getLsbD_or, BitVec.getLsbD_shiftLeft, BitVec.getLsbD_one]
  by_cases h : i = k
  · subst h; simp [hi]; omega
  · have : ¬ (i - k = 0 ∧ ¬ i < k) := by omega
    simp only [h, false_and, if_false]
    cases hb : v.getLsbD i <;> simp [hi]
    omega

/-- Clearing a bit. -/
theorem putBit_false {n : Nat} (v : BitVec n) (k : Nat) : putBit v k false = v &&& ~~~(1#n <<< k) := by
  apply BitVec.eq_of_getLsbD_eq
  intro i hi
  rw [getLsbD_putBit]
  simp only [BitVec.getLsbD_and, BitVec.getLsbD_not, BitVec.getLsbD_shiftLeft, BitVec.getLsbD_one]
  by_cases h : i = k
  · subst h; simp [hi]; omega
  · simp only [h, false_and, if_false]
    cases hb : v.getLsbD i <;> simp [hi]
    omega

/-- A field reads back as it was put. -/
theorem extract_putField {n m : Nat} (v : BitVec n) (lo : Nat) (f : BitVec m) (h : lo + m ≤ n) :
    (putField v lo f).extractLsb' lo m = f := by
  apply BitVec.eq_of_getLsbD_eq
  intro i hi
  rw [BitVec.getLsbD_extractLsb', getLsbD_putField, if_pos (by omega)]
  simp [hi]

/-- Other bits keep their values. -/
theorem extract_putField_ne {n m : Nat} (v : BitVec n) (lo : Nat) (f : BitVec m) (a k : Nat) (h : a + k ≤ lo ∨ lo + m ≤ a) :
    (putField v lo f).extractLsb' a k = v.extractLsb' a k := by
  apply BitVec.eq_of_getLsbD_eq
  intro i hi
  rw [BitVec.getLsbD_extractLsb', BitVec.getLsbD_extractLsb', getLsbD_putField, if_neg (by omega)]

/-- A field that a mask does not touch. -/
theorem putField_and {n m : Nat} (v : BitVec n) (lo : Nat) (f : BitVec m) (k : BitVec n)
    (h : ∀ i, lo ≤ i → i < lo + m → k.getLsbD i = false) : putField v lo f &&& k = v &&& k := by
  apply BitVec.eq_of_getLsbD_eq
  intro i hi
  rw [BitVec.getLsbD_and, BitVec.getLsbD_and, getLsbD_putField]
  split
  · rw [h i (by omega) (by omega)]; simp
  · rfl

/-- A bit that a mask does not touch. -/
theorem putBit_and {n : Nat} (v : BitVec n) (i : Nat) (b : Bool) (k : BitVec n) (h : k.getLsbD i = false) :
    putBit v i b &&& k = v &&& k :=
  putField_and v i _ k fun j h1 h2 => by rw [show j = i by omega]; exact h

/-- Merging under a mask disjoint from k. -/
theorem mergeMask_and {n : Nat} (m o x k : BitVec n) (h : m &&& k = 0#n) : mergeMask m o x &&& k = o &&& k := by
  apply BitVec.eq_of_getLsbD_eq
  intro i hi
  have h' := congrArg (fun w => w.getLsbD i) h
  simp only [BitVec.getLsbD_and, BitVec.getLsbD_zero] at h'
  rw [BitVec.getLsbD_and, BitVec.getLsbD_and, getLsbD_mergeMask]
  cases hm : m.getLsbD i <;> simp_all

/-- What a mask lets through is zero elsewhere. -/
theorem and_and_zero {n : Nat} (x m k : BitVec n) (h : m &&& k = 0#n) : x &&& m &&& k = 0#n := by
  rw [BitVec.and_assoc, h, BitVec.and_zero]

end Sys2Proof.Machine
end

