-- ==== Sys2Proof/Laws/Ecc.lean ====
section
/-! SUPPORT. The codes of the secondary cache correct every single wrong bit of a value and detect every two (R316), whatever the
free values choose as their matrices. -/

namespace Sys2Proof.Machine

/-! ## Weights -/

theorem onesUpTo_xor {n : Nat} (a b : BitVec n) (k : Nat) :
    onesUpTo (a ^^^ b) k + 2 * onesUpTo (a &&& b) k = onesUpTo a k + onesUpTo b k := by
  induction k with
  | zero => rfl
  | succ k ih =>
    simp only [onesUpTo, BitVec.getLsbD_xor, BitVec.getLsbD_and]
    cases a.getLsbD k <;> cases b.getLsbD k <;> simp <;> omega

/-- The weight of a sum of two columns of odd weight is even. -/
theorem popCount_xor_even {n : Nat} {a b : BitVec n} (ha : popCount a % 2 = 1) (hb : popCount b % 2 = 1) :
    popCount (a ^^^ b) % 2 = 0 := by
  have := onesUpTo_xor a b n
  unfold popCount at *; omega

/-! ## Choosing columns -/

theorem mem_of_mem_chooseFrom {α : Type} {draw : Nat → Nat} {c : α} :
    ∀ {k : Nat} {l : List α}, c ∈ chooseFrom draw k l → c ∈ l
  | 0, l, h => by simp [chooseFrom] at h
  | k + 1, l, h => by
    rw [chooseFrom] at h
    split at h
    · rename_i d hd
      rcases List.mem_cons.mp h with rfl | h
      · exact List.mem_of_getElem? hd
      · exact List.mem_of_mem_eraseIdx (mem_of_mem_chooseFrom h)
    · cases h

theorem nodup_chooseFrom {α : Type} {draw : Nat → Nat} : ∀ {k : Nat} {l : List α}, l.Nodup → (chooseFrom draw k l).Nodup
  | 0, l, _ => by simp [chooseFrom]
  | k + 1, l, h => by
    rw [chooseFrom]
    split
    · rename_i d hd
      obtain ⟨hi, rfl⟩ := List.getElem?_eq_some_iff.mp hd
      have p := List.nodup_cons.mp ((List.getElem_cons_eraseIdx_perm hi).symm.nodup h)
      exact List.nodup_cons.mpr ⟨fun m => p.1 (mem_of_mem_chooseFrom m), nodup_chooseFrom p.2⟩
    · exact List.nodup_nil

theorem length_chooseFrom {α : Type} {draw : Nat → Nat} :
    ∀ {k : Nat} {l : List α}, k ≤ l.length → (chooseFrom draw k l).length = k
  | 0, l, _ => rfl
  | k + 1, l, h => by
    have hi : draw k % l.length < l.length := Nat.mod_lt _ (by omega)
    rw [chooseFrom, List.getElem?_eq_getElem hi]
    simp only [List.length_cons]
    rw [length_chooseFrom]
    rw [List.length_eraseIdx_of_lt hi]; omega

/-! ## The matrices -/

theorem nodup_columnsOf (n : Nat) (ws : List Nat) : (columnsOf n ws).Nodup := by
  refine (List.Nodup.map_on (fun a ha b hb h => ?_) List.nodup_range).filter _
  have := congrArg BitVec.toNat h
  simpa [Nat.mod_eq_of_lt (List.mem_range.mp ha), Nat.mod_eq_of_lt (List.mem_range.mp hb)] using this

theorem weight_of_mem_columnsOf {n : Nat} {ws : List Nat} {c : BitVec n} (h : c ∈ columnsOf n ws) : popCount c ∈ ws := by
  simpa [columnsOf] using (List.mem_filter.mp h).2

/-- What the proofs below need of a check matrix for m bits: distinct columns of an odd weight that is not 1. -/
def GoodMatrix {n : Nat} (m : Nat) (l : List (BitVec n)) : Prop :=
  l.Nodup ∧ l.length = m ∧ ∀ c ∈ l, popCount c % 2 = 1 ∧ popCount c ≠ 1

theorem tagMatrix_good : GoodMatrix 26 tagMatrix := by
  refine ⟨nodup_chooseFrom (nodup_columnsOf _ _), length_chooseFrom (by decide +kernel), fun c h => ?_⟩
  have := weight_of_mem_columnsOf (mem_of_mem_chooseFrom h)
  simp only [List.mem_singleton] at this
  omega

theorem dataMatrix_good : GoodMatrix 128 dataMatrix := by
  refine ⟨nodup_chooseFrom (nodup_columnsOf _ _), length_chooseFrom (by decide +kernel), fun c h => ?_⟩
  have := weight_of_mem_columnsOf (mem_of_mem_chooseFrom h)
  simp only [List.mem_cons, List.not_mem_nil, or_false] at this
  omega

/-! ## Check bits -/

theorem checkBits_xor {n m : Nat} (v w : BitVec m) :
    ∀ (l : List (BitVec n)) (i : Nat), checkBits (v ^^^ w) l i = checkBits v l i ^^^ checkBits w l i
  | [], _ => by simp [checkBits]
  | c :: l, i => by
    simp only [checkBits, checkBits_xor v w l, BitVec.getLsbD_xor]
    generalize checkBits v l (i + 1) = x
    generalize checkBits w l (i + 1) = y
    apply BitVec.eq_of_getLsbD_eq
    intro j _
    cases v.getLsbD i <;> cases w.getLsbD i <;> simp <;>
      cases c.getLsbD j <;> cases x.getLsbD j <;> cases y.getLsbD j <;> rfl

theorem checkBits_single {n m : Nat} {k : Nat} (hk : k < m) :
    ∀ (l : List (BitVec n)) (i : Nat), checkBits (1#m <<< k) l i = if i ≤ k then l.getD (k - i) 0 else 0
  | [], i => by simp [checkBits]
  | c :: l, i => by
    have bit : (1#m <<< k).getLsbD i = decide (i = k) := by
      simp only [BitVec.getLsbD_shiftLeft, BitVec.getLsbD_one]
      by_cases h : i = k
      · subst h; simp [hk]; omega
      · by_cases h1 : i < k <;> simp [h, h1]; omega
    rw [checkBits, checkBits_single hk l, bit]
    rcases Nat.lt_trichotomy i k with h | rfl | h
    · rw [if_neg (by simp; omega), if_pos (by omega), if_pos (by omega)]
      have : k - i = (k - (i + 1)) + 1 := by omega
      rw [this]; simp
    · simp
    · rw [if_neg (by simp; omega), if_neg (by omega), if_neg (by omega)]; simp

/-! ## Correction -/

/-- A value with its own check bits has no error. -/
theorem correct_good {n m : Nat} (l : List (BitVec n)) (v : BitVec m) : correct l v (checkBits v l 0) = ⟨v, false, false⟩ := by
  simp [correct]

/-- A wrong bit adds its column to the check bits. -/
theorem syndrome_single {n m : Nat} {l : List (BitVec n)} (hl : GoodMatrix m l) (v : BitVec m) {k : Nat} (hk : k < l.length) :
    checkBits (v ^^^ (1#m <<< k)) l 0 = l[k] ^^^ checkBits v l 0 := by
  rw [checkBits_xor, checkBits_single (by have := hl.2.1; omega), if_pos (Nat.zero_le _), BitVec.xor_comm]
  simp [hk]

theorem onesUpTo_zero {n : Nat} (k : Nat) : onesUpTo (0#n) k = 0 := by
  induction k with
  | zero => rfl
  | succ k ih => simp [onesUpTo, ih]

theorem GoodMatrix.ne_zero {n m : Nat} {l : List (BitVec n)} (hl : GoodMatrix m l) {c : BitVec n} (h : c ∈ l) : c ≠ 0 := by
  rintro rfl
  have := (hl.2.2 _ h).1
  rw [show (0 : BitVec n) = 0#n from rfl, popCount, onesUpTo_zero] at this
  omega

/-- A single wrong bit of the value is put right, and reported as corrected. -/
theorem correct_single {n m : Nat} {l : List (BitVec n)} (hl : GoodMatrix m l) (v : BitVec m) {k : Nat} (hk : k < m) :
    correct l (v ^^^ (1#m <<< k)) (checkBits v l 0) = ⟨v, false, true⟩ := by
  have hk' : k < l.length := by have := hl.2.1; omega
  have mem : l[k] ∈ l := List.getElem_mem hk'
  unfold correct
  rw [syndrome_single hl v hk', BitVec.xor_assoc, BitVec.xor_self, BitVec.xor_zero]
  simp only
  rw [if_neg (hl.ne_zero mem), if_pos (by simp), hl.1.idxOf_getElem]
  simp

/-- Two wrong bits of the value are found: the error is uncorrectable. -/
theorem correct_double {n m : Nat} {l : List (BitVec n)} (hl : GoodMatrix m l) (v : BitVec m) {j k : Nat} (hj : j < m) (hk : k < m)
    (ne : j ≠ k) : (correct l (v ^^^ (1#m <<< j) ^^^ (1#m <<< k)) (checkBits v l 0)).bad = true := by
  have hj' : j < l.length := by have := hl.2.1; omega
  have hk' : k < l.length := by have := hl.2.1; omega
  have even := popCount_xor_even (hl.2.2 _ (List.getElem_mem hk')).1 (hl.2.2 _ (List.getElem_mem hj')).1
  have nz : l[k] ^^^ l[j] ≠ 0 := fun h => ne ((List.Nodup.getElem_inj_iff hl.1).mp (BitVec.xor_eq_zero_iff.mp h).symm)
  have nm : l[k] ^^^ l[j] ∉ l := fun h => by have := (hl.2.2 _ h).1; omega
  unfold correct
  rw [syndrome_single hl _ hk', syndrome_single hl _ hj', BitVec.xor_assoc, BitVec.xor_assoc, BitVec.xor_self, BitVec.xor_zero]
  simp only
  rw [if_neg nz, if_neg (by simpa using nm), if_neg (by omega)]

/-- So does a quadword that arrived with its error flag set (R307): its stored check bits have two wrong bits. -/
theorem dataCorrect_spoilt (d : QWord) : (dataCorrect d (dataEcc d ^^^ 3#9)).bad = true := by
  have nm : (3#9 : BitVec 9) ∉ dataMatrix := fun h => absurd (dataMatrix_good.2.2 _ h).1 (by decide)
  have hs : checkBits d dataMatrix 0 ^^^ (checkBits d dataMatrix 0 ^^^ 3#9) = 3#9 := by
    rw [← BitVec.xor_assoc, BitVec.xor_self, BitVec.zero_xor]
  unfold dataCorrect correct dataEcc
  simp only [hs]
  rw [if_neg (by decide), if_neg (by simpa using nm), if_neg (by decide)]

end Sys2Proof.Machine
end

