-- ==== Sys2Proof/Laws/State.lean ====
section
/-! SUPPORT. One lemma per field of State per update, true by rfl, so that no later proof unfolds a record update; and what the
updates that test something (GPR[0], the delay slot) do to each field. -/

namespace Sys2Proof.Machine

/-! ### setHi -/

@[simp] theorem State.setHi_int (s : State) (v : DWord) : (s.setHi v).int = { s.int with hi := v } := rfl
@[simp] theorem State.setHi_pc (s : State) (v : DWord) : (s.setHi v).pc = s.pc := rfl
@[simp] theorem State.setHi_delay (s : State) (v : DWord) : (s.setHi v).delay = s.delay := rfl
@[simp] theorem State.setHi_fp (s : State) (v : DWord) : (s.setHi v).fp = s.fp := rfl
@[simp] theorem State.setHi_link (s : State) (v : DWord) : (s.setHi v).link = s.link := rfl
@[simp] theorem State.setHi_cp0 (s : State) (v : DWord) : (s.setHi v).cp0 = s.cp0 := rfl
@[simp] theorem State.setHi_perf (s : State) (v : DWord) : (s.setHi v).perf = s.perf := rfl
@[simp] theorem State.setHi_tlb (s : State) (v : DWord) : (s.setHi v).tlb = s.tlb := rfl
@[simp] theorem State.setHi_bpt (s : State) (v : DWord) : (s.setHi v).bpt = s.bpt := rfl
@[simp] theorem State.setHi_caches (s : State) (v : DWord) : (s.setHi v).caches = s.caches := rfl
@[simp] theorem State.setHi_pending (s : State) (v : DWord) : (s.setHi v).pending = s.pending := rfl
@[simp] theorem State.setHi_bus (s : State) (v : DWord) : (s.setHi v).bus = s.bus := rfl
@[simp] theorem State.setHi_jtag (s : State) (v : DWord) : (s.setHi v).jtag = s.jtag := rfl
@[simp] theorem State.setHi_ctm (s : State) (v : DWord) : (s.setHi v).ctm = s.ctm := rfl
@[simp] theorem State.setHi_mem (s : State) (v : DWord) : (s.setHi v).mem = s.mem := rfl
@[simp] theorem State.setHi_ctr (s : State) (v : DWord) : (s.setHi v).ctr = s.ctr := rfl
@[simp] theorem State.setHi_note (s : State) (v : DWord) : (s.setHi v).note = s.note := rfl
@[simp] theorem State.setHi_held (s : State) (v : DWord) : (s.setHi v).held = s.held := rfl
@[simp] theorem State.setHi_params (s : State) (v : DWord) : (s.setHi v).params = s.params := rfl

/-! ### setLo -/

@[simp] theorem State.setLo_int (s : State) (v : DWord) : (s.setLo v).int = { s.int with lo := v } := rfl
@[simp] theorem State.setLo_pc (s : State) (v : DWord) : (s.setLo v).pc = s.pc := rfl
@[simp] theorem State.setLo_delay (s : State) (v : DWord) : (s.setLo v).delay = s.delay := rfl
@[simp] theorem State.setLo_fp (s : State) (v : DWord) : (s.setLo v).fp = s.fp := rfl
@[simp] theorem State.setLo_link (s : State) (v : DWord) : (s.setLo v).link = s.link := rfl
@[simp] theorem State.setLo_cp0 (s : State) (v : DWord) : (s.setLo v).cp0 = s.cp0 := rfl
@[simp] theorem State.setLo_perf (s : State) (v : DWord) : (s.setLo v).perf = s.perf := rfl
@[simp] theorem State.setLo_tlb (s : State) (v : DWord) : (s.setLo v).tlb = s.tlb := rfl
@[simp] theorem State.setLo_bpt (s : State) (v : DWord) : (s.setLo v).bpt = s.bpt := rfl
@[simp] theorem State.setLo_caches (s : State) (v : DWord) : (s.setLo v).caches = s.caches := rfl
@[simp] theorem State.setLo_pending (s : State) (v : DWord) : (s.setLo v).pending = s.pending := rfl
@[simp] theorem State.setLo_bus (s : State) (v : DWord) : (s.setLo v).bus = s.bus := rfl
@[simp] theorem State.setLo_jtag (s : State) (v : DWord) : (s.setLo v).jtag = s.jtag := rfl
@[simp] theorem State.setLo_ctm (s : State) (v : DWord) : (s.setLo v).ctm = s.ctm := rfl
@[simp] theorem State.setLo_mem (s : State) (v : DWord) : (s.setLo v).mem = s.mem := rfl
@[simp] theorem State.setLo_ctr (s : State) (v : DWord) : (s.setLo v).ctr = s.ctr := rfl
@[simp] theorem State.setLo_note (s : State) (v : DWord) : (s.setLo v).note = s.note := rfl
@[simp] theorem State.setLo_held (s : State) (v : DWord) : (s.setLo v).held = s.held := rfl
@[simp] theorem State.setLo_params (s : State) (v : DWord) : (s.setLo v).params = s.params := rfl

/-! ### setStatus -/

@[simp] theorem State.setStatus_int (s : State) (w : Word) : (s.setStatus w).int = s.int := rfl
@[simp] theorem State.setStatus_pc (s : State) (w : Word) : (s.setStatus w).pc = s.pc := rfl
@[simp] theorem State.setStatus_delay (s : State) (w : Word) : (s.setStatus w).delay = s.delay := rfl
@[simp] theorem State.setStatus_fp (s : State) (w : Word) : (s.setStatus w).fp = s.fp := rfl
@[simp] theorem State.setStatus_link (s : State) (w : Word) : (s.setStatus w).link = s.link := rfl
@[simp] theorem State.setStatus_cp0 (s : State) (w : Word) : (s.setStatus w).cp0 = { s.cp0 with status := w } := rfl
@[simp] theorem State.setStatus_perf (s : State) (w : Word) : (s.setStatus w).perf = s.perf := rfl
@[simp] theorem State.setStatus_tlb (s : State) (w : Word) : (s.setStatus w).tlb = s.tlb := rfl
@[simp] theorem State.setStatus_bpt (s : State) (w : Word) : (s.setStatus w).bpt = s.bpt := rfl
@[simp] theorem State.setStatus_caches (s : State) (w : Word) : (s.setStatus w).caches = s.caches := rfl
@[simp] theorem State.setStatus_pending (s : State) (w : Word) : (s.setStatus w).pending = s.pending := rfl
@[simp] theorem State.setStatus_bus (s : State) (w : Word) : (s.setStatus w).bus = s.bus := rfl
@[simp] theorem State.setStatus_jtag (s : State) (w : Word) : (s.setStatus w).jtag = s.jtag := rfl
@[simp] theorem State.setStatus_ctm (s : State) (w : Word) : (s.setStatus w).ctm = s.ctm := rfl
@[simp] theorem State.setStatus_mem (s : State) (w : Word) : (s.setStatus w).mem = s.mem := rfl
@[simp] theorem State.setStatus_ctr (s : State) (w : Word) : (s.setStatus w).ctr = s.ctr := rfl
@[simp] theorem State.setStatus_note (s : State) (w : Word) : (s.setStatus w).note = s.note := rfl
@[simp] theorem State.setStatus_held (s : State) (w : Word) : (s.setStatus w).held = s.held := rfl
@[simp] theorem State.setStatus_params (s : State) (w : Word) : (s.setStatus w).params = s.params := rfl

/-! ### breakLink -/

@[simp] theorem State.breakLink_int (s : State) : s.breakLink.int = s.int := rfl
@[simp] theorem State.breakLink_pc (s : State) : s.breakLink.pc = s.pc := rfl
@[simp] theorem State.breakLink_delay (s : State) : s.breakLink.delay = s.delay := rfl
@[simp] theorem State.breakLink_fp (s : State) : s.breakLink.fp = s.fp := rfl
@[simp] theorem State.breakLink_link (s : State) : s.breakLink.link = { s.link with bit := false } := rfl
@[simp] theorem State.breakLink_cp0 (s : State) : s.breakLink.cp0 = s.cp0 := rfl
@[simp] theorem State.breakLink_perf (s : State) : s.breakLink.perf = s.perf := rfl
@[simp] theorem State.breakLink_tlb (s : State) : s.breakLink.tlb = s.tlb := rfl
@[simp] theorem State.breakLink_bpt (s : State) : s.breakLink.bpt = s.bpt := rfl
@[simp] theorem State.breakLink_caches (s : State) : s.breakLink.caches = s.caches := rfl
@[simp] theorem State.breakLink_pending (s : State) : s.breakLink.pending = s.pending := rfl
@[simp] theorem State.breakLink_bus (s : State) : s.breakLink.bus = s.bus := rfl
@[simp] theorem State.breakLink_jtag (s : State) : s.breakLink.jtag = s.jtag := rfl
@[simp] theorem State.breakLink_ctm (s : State) : s.breakLink.ctm = s.ctm := rfl
@[simp] theorem State.breakLink_mem (s : State) : s.breakLink.mem = s.mem := rfl
@[simp] theorem State.breakLink_ctr (s : State) : s.breakLink.ctr = s.ctr := rfl
@[simp] theorem State.breakLink_note (s : State) : s.breakLink.note = s.note := rfl
@[simp] theorem State.breakLink_held (s : State) : s.breakLink.held = s.held := rfl
@[simp] theorem State.breakLink_params (s : State) : s.breakLink.params = s.params := rfl

/-! ### setLink -/

@[simp] theorem State.setLink_int (s : State) (p : Phys) : (s.setLink p).int = s.int := rfl
@[simp] theorem State.setLink_pc (s : State) (p : Phys) : (s.setLink p).pc = s.pc := rfl
@[simp] theorem State.setLink_delay (s : State) (p : Phys) : (s.setLink p).delay = s.delay := rfl
@[simp] theorem State.setLink_fp (s : State) (p : Phys) : (s.setLink p).fp = s.fp := rfl
@[simp] theorem State.setLink_link (s : State) (p : Phys) : (s.setLink p).link = ⟨true, s.blockBase p.pa, !algCached p.alg⟩ :=
  rfl
@[simp] theorem State.setLink_cp0 (s : State) (p : Phys) : (s.setLink p).cp0 = s.cp0 := rfl
@[simp] theorem State.setLink_perf (s : State) (p : Phys) : (s.setLink p).perf = s.perf := rfl
@[simp] theorem State.setLink_tlb (s : State) (p : Phys) : (s.setLink p).tlb = s.tlb := rfl
@[simp] theorem State.setLink_bpt (s : State) (p : Phys) : (s.setLink p).bpt = s.bpt := rfl
@[simp] theorem State.setLink_caches (s : State) (p : Phys) : (s.setLink p).caches = s.caches := rfl
@[simp] theorem State.setLink_pending (s : State) (p : Phys) : (s.setLink p).pending = s.pending := rfl
@[simp] theorem State.setLink_bus (s : State) (p : Phys) : (s.setLink p).bus = s.bus := rfl
@[simp] theorem State.setLink_jtag (s : State) (p : Phys) : (s.setLink p).jtag = s.jtag := rfl
@[simp] theorem State.setLink_ctm (s : State) (p : Phys) : (s.setLink p).ctm = s.ctm := rfl
@[simp] theorem State.setLink_mem (s : State) (p : Phys) : (s.setLink p).mem = s.mem := rfl
@[simp] theorem State.setLink_ctr (s : State) (p : Phys) : (s.setLink p).ctr = s.ctr := rfl
@[simp] theorem State.setLink_note (s : State) (p : Phys) : (s.setLink p).note = s.note := rfl
@[simp] theorem State.setLink_held (s : State) (p : Phys) : (s.setLink p).held = s.held := rfl
@[simp] theorem State.setLink_params (s : State) (p : Phys) : (s.setLink p).params = s.params := rfl

/-! ### setFsr -/

@[simp] theorem State.setFsr_int (s : State) (w : Word) : (s.setFsr w).int = s.int := rfl
@[simp] theorem State.setFsr_pc (s : State) (w : Word) : (s.setFsr w).pc = s.pc := rfl
@[simp] theorem State.setFsr_delay (s : State) (w : Word) : (s.setFsr w).delay = s.delay := rfl
@[simp] theorem State.setFsr_fp (s : State) (w : Word) : (s.setFsr w).fp = { s.fp with fsr := w } := rfl
@[simp] theorem State.setFsr_link (s : State) (w : Word) : (s.setFsr w).link = s.link := rfl
@[simp] theorem State.setFsr_cp0 (s : State) (w : Word) : (s.setFsr w).cp0 = s.cp0 := rfl
@[simp] theorem State.setFsr_perf (s : State) (w : Word) : (s.setFsr w).perf = s.perf := rfl
@[simp] theorem State.setFsr_tlb (s : State) (w : Word) : (s.setFsr w).tlb = s.tlb := rfl
@[simp] theorem State.setFsr_bpt (s : State) (w : Word) : (s.setFsr w).bpt = s.bpt := rfl
@[simp] theorem State.setFsr_caches (s : State) (w : Word) : (s.setFsr w).caches = s.caches := rfl
@[simp] theorem State.setFsr_pending (s : State) (w : Word) : (s.setFsr w).pending = s.pending := rfl
@[simp] theorem State.setFsr_bus (s : State) (w : Word) : (s.setFsr w).bus = s.bus := rfl
@[simp] theorem State.setFsr_jtag (s : State) (w : Word) : (s.setFsr w).jtag = s.jtag := rfl
@[simp] theorem State.setFsr_ctm (s : State) (w : Word) : (s.setFsr w).ctm = s.ctm := rfl
@[simp] theorem State.setFsr_mem (s : State) (w : Word) : (s.setFsr w).mem = s.mem := rfl
@[simp] theorem State.setFsr_ctr (s : State) (w : Word) : (s.setFsr w).ctr = s.ctr := rfl
@[simp] theorem State.setFsr_note (s : State) (w : Word) : (s.setFsr w).note = s.note := rfl
@[simp] theorem State.setFsr_held (s : State) (w : Word) : (s.setFsr w).held = s.held := rfl
@[simp] theorem State.setFsr_params (s : State) (w : Word) : (s.setFsr w).params = s.params := rfl

/-! ### setFpr -/

@[simp] theorem State.setFpr_int (s : State) (n : BitVec 5) (v : DWord) : (s.setFpr n v).int = s.int := rfl
@[simp] theorem State.setFpr_pc (s : State) (n : BitVec 5) (v : DWord) : (s.setFpr n v).pc = s.pc := rfl
@[simp] theorem State.setFpr_delay (s : State) (n : BitVec 5) (v : DWord) : (s.setFpr n v).delay = s.delay := rfl
@[simp] theorem State.setFpr_fp (s : State) (n : BitVec 5) (v : DWord) : (s.setFpr n v).fp = { s.fp with fpr := s.fp.fpr.set n.toNat v n.isLt } :=
  rfl
@[simp] theorem State.setFpr_link (s : State) (n : BitVec 5) (v : DWord) : (s.setFpr n v).link = s.link := rfl
@[simp] theorem State.setFpr_cp0 (s : State) (n : BitVec 5) (v : DWord) : (s.setFpr n v).cp0 = s.cp0 := rfl
@[simp] theorem State.setFpr_perf (s : State) (n : BitVec 5) (v : DWord) : (s.setFpr n v).perf = s.perf := rfl
@[simp] theorem State.setFpr_tlb (s : State) (n : BitVec 5) (v : DWord) : (s.setFpr n v).tlb = s.tlb := rfl
@[simp] theorem State.setFpr_bpt (s : State) (n : BitVec 5) (v : DWord) : (s.setFpr n v).bpt = s.bpt := rfl
@[simp] theorem State.setFpr_caches (s : State) (n : BitVec 5) (v : DWord) : (s.setFpr n v).caches = s.caches := rfl
@[simp] theorem State.setFpr_pending (s : State) (n : BitVec 5) (v : DWord) : (s.setFpr n v).pending = s.pending := rfl
@[simp] theorem State.setFpr_bus (s : State) (n : BitVec 5) (v : DWord) : (s.setFpr n v).bus = s.bus := rfl
@[simp] theorem State.setFpr_jtag (s : State) (n : BitVec 5) (v : DWord) : (s.setFpr n v).jtag = s.jtag := rfl
@[simp] theorem State.setFpr_ctm (s : State) (n : BitVec 5) (v : DWord) : (s.setFpr n v).ctm = s.ctm := rfl
@[simp] theorem State.setFpr_mem (s : State) (n : BitVec 5) (v : DWord) : (s.setFpr n v).mem = s.mem := rfl
@[simp] theorem State.setFpr_ctr (s : State) (n : BitVec 5) (v : DWord) : (s.setFpr n v).ctr = s.ctr := rfl
@[simp] theorem State.setFpr_note (s : State) (n : BitVec 5) (v : DWord) : (s.setFpr n v).note = s.note := rfl
@[simp] theorem State.setFpr_held (s : State) (n : BitVec 5) (v : DWord) : (s.setFpr n v).held = s.held := rfl
@[simp] theorem State.setFpr_params (s : State) (n : BitVec 5) (v : DWord) : (s.setFpr n v).params = s.params := rfl

/-! ### setMem -/

@[simp] theorem State.setMem_int (s : State) (m : List Host.Cell) : (s.setMem m).int = s.int := rfl
@[simp] theorem State.setMem_pc (s : State) (m : List Host.Cell) : (s.setMem m).pc = s.pc := rfl
@[simp] theorem State.setMem_delay (s : State) (m : List Host.Cell) : (s.setMem m).delay = s.delay := rfl
@[simp] theorem State.setMem_fp (s : State) (m : List Host.Cell) : (s.setMem m).fp = s.fp := rfl
@[simp] theorem State.setMem_link (s : State) (m : List Host.Cell) : (s.setMem m).link = s.link := rfl
@[simp] theorem State.setMem_cp0 (s : State) (m : List Host.Cell) : (s.setMem m).cp0 = s.cp0 := rfl
@[simp] theorem State.setMem_perf (s : State) (m : List Host.Cell) : (s.setMem m).perf = s.perf := rfl
@[simp] theorem State.setMem_tlb (s : State) (m : List Host.Cell) : (s.setMem m).tlb = s.tlb := rfl
@[simp] theorem State.setMem_bpt (s : State) (m : List Host.Cell) : (s.setMem m).bpt = s.bpt := rfl
@[simp] theorem State.setMem_caches (s : State) (m : List Host.Cell) : (s.setMem m).caches = s.caches := rfl
@[simp] theorem State.setMem_pending (s : State) (m : List Host.Cell) : (s.setMem m).pending = s.pending := rfl
@[simp] theorem State.setMem_bus (s : State) (m : List Host.Cell) : (s.setMem m).bus = s.bus := rfl
@[simp] theorem State.setMem_jtag (s : State) (m : List Host.Cell) : (s.setMem m).jtag = s.jtag := rfl
@[simp] theorem State.setMem_ctm (s : State) (m : List Host.Cell) : (s.setMem m).ctm = s.ctm := rfl
@[simp] theorem State.setMem_mem (s : State) (m : List Host.Cell) : (s.setMem m).mem = m := rfl
@[simp] theorem State.setMem_ctr (s : State) (m : List Host.Cell) : (s.setMem m).ctr = s.ctr := rfl
@[simp] theorem State.setMem_note (s : State) (m : List Host.Cell) : (s.setMem m).note = s.note := rfl
@[simp] theorem State.setMem_held (s : State) (m : List Host.Cell) : (s.setMem m).held = s.held := rfl
@[simp] theorem State.setMem_params (s : State) (m : List Host.Cell) : (s.setMem m).params = s.params := rfl

/-! ### setGather -/

@[simp] theorem State.setGather_int (s : State) (g : Gather) : (s.setGather g).int = s.int := rfl
@[simp] theorem State.setGather_pc (s : State) (g : Gather) : (s.setGather g).pc = s.pc := rfl
@[simp] theorem State.setGather_delay (s : State) (g : Gather) : (s.setGather g).delay = s.delay := rfl
@[simp] theorem State.setGather_fp (s : State) (g : Gather) : (s.setGather g).fp = s.fp := rfl
@[simp] theorem State.setGather_link (s : State) (g : Gather) : (s.setGather g).link = s.link := rfl
@[simp] theorem State.setGather_cp0 (s : State) (g : Gather) : (s.setGather g).cp0 = s.cp0 := rfl
@[simp] theorem State.setGather_perf (s : State) (g : Gather) : (s.setGather g).perf = s.perf := rfl
@[simp] theorem State.setGather_tlb (s : State) (g : Gather) : (s.setGather g).tlb = s.tlb := rfl
@[simp] theorem State.setGather_bpt (s : State) (g : Gather) : (s.setGather g).bpt = s.bpt := rfl
@[simp] theorem State.setGather_caches (s : State) (g : Gather) : (s.setGather g).caches = s.caches := rfl
@[simp] theorem State.setGather_pending (s : State) (g : Gather) : (s.setGather g).pending = s.pending := rfl
@[simp] theorem State.setGather_bus (s : State) (g : Gather) : (s.setGather g).bus = { s.bus with gather := g } := rfl
@[simp] theorem State.setGather_jtag (s : State) (g : Gather) : (s.setGather g).jtag = s.jtag := rfl
@[simp] theorem State.setGather_ctm (s : State) (g : Gather) : (s.setGather g).ctm = s.ctm := rfl
@[simp] theorem State.setGather_mem (s : State) (g : Gather) : (s.setGather g).mem = s.mem := rfl
@[simp] theorem State.setGather_ctr (s : State) (g : Gather) : (s.setGather g).ctr = s.ctr := rfl
@[simp] theorem State.setGather_note (s : State) (g : Gather) : (s.setGather g).note = s.note := rfl
@[simp] theorem State.setGather_held (s : State) (g : Gather) : (s.setGather g).held = s.held := rfl
@[simp] theorem State.setGather_params (s : State) (g : Gather) : (s.setGather g).params = s.params := rfl

/-! ### setWatch -/

@[simp] theorem State.setWatch_int (s : State) : s.setWatch.int = s.int := rfl
@[simp] theorem State.setWatch_pc (s : State) : s.setWatch.pc = s.pc := rfl
@[simp] theorem State.setWatch_delay (s : State) : s.setWatch.delay = s.delay := rfl
@[simp] theorem State.setWatch_fp (s : State) : s.setWatch.fp = s.fp := rfl
@[simp] theorem State.setWatch_link (s : State) : s.setWatch.link = s.link := rfl
@[simp] theorem State.setWatch_cp0 (s : State) : s.setWatch.cp0 = s.cp0 := rfl
@[simp] theorem State.setWatch_perf (s : State) : s.setWatch.perf = s.perf := rfl
@[simp] theorem State.setWatch_tlb (s : State) : s.setWatch.tlb = s.tlb := rfl
@[simp] theorem State.setWatch_bpt (s : State) : s.setWatch.bpt = s.bpt := rfl
@[simp] theorem State.setWatch_caches (s : State) : s.setWatch.caches = s.caches := rfl
@[simp] theorem State.setWatch_pending (s : State) : s.setWatch.pending = { s.pending with watch := true } := rfl
@[simp] theorem State.setWatch_bus (s : State) : s.setWatch.bus = s.bus := rfl
@[simp] theorem State.setWatch_jtag (s : State) : s.setWatch.jtag = s.jtag := rfl
@[simp] theorem State.setWatch_ctm (s : State) : s.setWatch.ctm = s.ctm := rfl
@[simp] theorem State.setWatch_mem (s : State) : s.setWatch.mem = s.mem := rfl
@[simp] theorem State.setWatch_ctr (s : State) : s.setWatch.ctr = s.ctr := rfl
@[simp] theorem State.setWatch_note (s : State) : s.setWatch.note = s.note := rfl
@[simp] theorem State.setWatch_held (s : State) : s.setWatch.held = s.held := rfl
@[simp] theorem State.setWatch_params (s : State) : s.setWatch.params = s.params := rfl

/-! ### clearWatch -/

@[simp] theorem State.clearWatch_int (s : State) : s.clearWatch.int = s.int := rfl
@[simp] theorem State.clearWatch_pc (s : State) : s.clearWatch.pc = s.pc := rfl
@[simp] theorem State.clearWatch_delay (s : State) : s.clearWatch.delay = s.delay := rfl
@[simp] theorem State.clearWatch_fp (s : State) : s.clearWatch.fp = s.fp := rfl
@[simp] theorem State.clearWatch_link (s : State) : s.clearWatch.link = s.link := rfl
@[simp] theorem State.clearWatch_cp0 (s : State) : s.clearWatch.cp0 = s.cp0 := rfl
@[simp] theorem State.clearWatch_perf (s : State) : s.clearWatch.perf = s.perf := rfl
@[simp] theorem State.clearWatch_tlb (s : State) : s.clearWatch.tlb = s.tlb := rfl
@[simp] theorem State.clearWatch_bpt (s : State) : s.clearWatch.bpt = s.bpt := rfl
@[simp] theorem State.clearWatch_caches (s : State) : s.clearWatch.caches = s.caches := rfl
@[simp] theorem State.clearWatch_pending (s : State) : s.clearWatch.pending = { s.pending with watch := false } := rfl
@[simp] theorem State.clearWatch_bus (s : State) : s.clearWatch.bus = s.bus := rfl
@[simp] theorem State.clearWatch_jtag (s : State) : s.clearWatch.jtag = s.jtag := rfl
@[simp] theorem State.clearWatch_ctm (s : State) : s.clearWatch.ctm = s.ctm := rfl
@[simp] theorem State.clearWatch_mem (s : State) : s.clearWatch.mem = s.mem := rfl
@[simp] theorem State.clearWatch_ctr (s : State) : s.clearWatch.ctr = s.ctr := rfl
@[simp] theorem State.clearWatch_note (s : State) : s.clearWatch.note = s.note := rfl
@[simp] theorem State.clearWatch_held (s : State) : s.clearWatch.held = s.held := rfl
@[simp] theorem State.clearWatch_params (s : State) : s.clearWatch.params = s.params := rfl

/-! ### setTimer -/

@[simp] theorem State.setTimer_int (s : State) (b : Bool) : (s.setTimer b).int = s.int := rfl
@[simp] theorem State.setTimer_pc (s : State) (b : Bool) : (s.setTimer b).pc = s.pc := rfl
@[simp] theorem State.setTimer_delay (s : State) (b : Bool) : (s.setTimer b).delay = s.delay := rfl
@[simp] theorem State.setTimer_fp (s : State) (b : Bool) : (s.setTimer b).fp = s.fp := rfl
@[simp] theorem State.setTimer_link (s : State) (b : Bool) : (s.setTimer b).link = s.link := rfl
@[simp] theorem State.setTimer_cp0 (s : State) (b : Bool) : (s.setTimer b).cp0 = s.cp0 := rfl
@[simp] theorem State.setTimer_perf (s : State) (b : Bool) : (s.setTimer b).perf = s.perf := rfl
@[simp] theorem State.setTimer_tlb (s : State) (b : Bool) : (s.setTimer b).tlb = s.tlb := rfl
@[simp] theorem State.setTimer_bpt (s : State) (b : Bool) : (s.setTimer b).bpt = s.bpt := rfl
@[simp] theorem State.setTimer_caches (s : State) (b : Bool) : (s.setTimer b).caches = s.caches := rfl
@[simp] theorem State.setTimer_pending (s : State) (b : Bool) : (s.setTimer b).pending = { s.pending with timer := b } := rfl
@[simp] theorem State.setTimer_bus (s : State) (b : Bool) : (s.setTimer b).bus = s.bus := rfl
@[simp] theorem State.setTimer_jtag (s : State) (b : Bool) : (s.setTimer b).jtag = s.jtag := rfl
@[simp] theorem State.setTimer_ctm (s : State) (b : Bool) : (s.setTimer b).ctm = s.ctm := rfl
@[simp] theorem State.setTimer_mem (s : State) (b : Bool) : (s.setTimer b).mem = s.mem := rfl
@[simp] theorem State.setTimer_ctr (s : State) (b : Bool) : (s.setTimer b).ctr = s.ctr := rfl
@[simp] theorem State.setTimer_note (s : State) (b : Bool) : (s.setTimer b).note = s.note := rfl
@[simp] theorem State.setTimer_held (s : State) (b : Bool) : (s.setTimer b).held = s.held := rfl
@[simp] theorem State.setTimer_params (s : State) (b : Bool) : (s.setTimer b).params = s.params := rfl

/-! ### setBpt -/

@[simp] theorem State.setBpt_int (s : State) (i : Nat) (b : BitVec 2) : (s.setBpt i b).int = s.int := rfl
@[simp] theorem State.setBpt_pc (s : State) (i : Nat) (b : BitVec 2) : (s.setBpt i b).pc = s.pc := rfl
@[simp] theorem State.setBpt_delay (s : State) (i : Nat) (b : BitVec 2) : (s.setBpt i b).delay = s.delay := rfl
@[simp] theorem State.setBpt_fp (s : State) (i : Nat) (b : BitVec 2) : (s.setBpt i b).fp = s.fp := rfl
@[simp] theorem State.setBpt_link (s : State) (i : Nat) (b : BitVec 2) : (s.setBpt i b).link = s.link := rfl
@[simp] theorem State.setBpt_cp0 (s : State) (i : Nat) (b : BitVec 2) : (s.setBpt i b).cp0 = s.cp0 := rfl
@[simp] theorem State.setBpt_perf (s : State) (i : Nat) (b : BitVec 2) : (s.setBpt i b).perf = s.perf := rfl
@[simp] theorem State.setBpt_tlb (s : State) (i : Nat) (b : BitVec 2) : (s.setBpt i b).tlb = s.tlb := rfl
@[simp] theorem State.setBpt_bpt (s : State) (i : Nat) (b : BitVec 2) : (s.setBpt i b).bpt = Sparse.set 0 s.bpt i b := rfl
@[simp] theorem State.setBpt_caches (s : State) (i : Nat) (b : BitVec 2) : (s.setBpt i b).caches = s.caches := rfl
@[simp] theorem State.setBpt_pending (s : State) (i : Nat) (b : BitVec 2) : (s.setBpt i b).pending = s.pending := rfl
@[simp] theorem State.setBpt_bus (s : State) (i : Nat) (b : BitVec 2) : (s.setBpt i b).bus = s.bus := rfl
@[simp] theorem State.setBpt_jtag (s : State) (i : Nat) (b : BitVec 2) : (s.setBpt i b).jtag = s.jtag := rfl
@[simp] theorem State.setBpt_ctm (s : State) (i : Nat) (b : BitVec 2) : (s.setBpt i b).ctm = s.ctm := rfl
@[simp] theorem State.setBpt_mem (s : State) (i : Nat) (b : BitVec 2) : (s.setBpt i b).mem = s.mem := rfl
@[simp] theorem State.setBpt_ctr (s : State) (i : Nat) (b : BitVec 2) : (s.setBpt i b).ctr = s.ctr := rfl
@[simp] theorem State.setBpt_note (s : State) (i : Nat) (b : BitVec 2) : (s.setBpt i b).note = s.note := rfl
@[simp] theorem State.setBpt_held (s : State) (i : Nat) (b : BitVec 2) : (s.setBpt i b).held = s.held := rfl
@[simp] theorem State.setBpt_params (s : State) (i : Nat) (b : BitVec 2) : (s.setBpt i b).params = s.params := rfl

/-! ### setTags -/

@[simp] theorem State.setTags_int (s : State) (hi lo : Word) : (s.setTags hi lo).int = s.int := rfl
@[simp] theorem State.setTags_pc (s : State) (hi lo : Word) : (s.setTags hi lo).pc = s.pc := rfl
@[simp] theorem State.setTags_delay (s : State) (hi lo : Word) : (s.setTags hi lo).delay = s.delay := rfl
@[simp] theorem State.setTags_fp (s : State) (hi lo : Word) : (s.setTags hi lo).fp = s.fp := rfl
@[simp] theorem State.setTags_link (s : State) (hi lo : Word) : (s.setTags hi lo).link = s.link := rfl
@[simp] theorem State.setTags_cp0 (s : State) (hi lo : Word) : (s.setTags hi lo).cp0 = { s.cp0 with tagLo := lo, tagHi := hi } :=
  rfl
@[simp] theorem State.setTags_perf (s : State) (hi lo : Word) : (s.setTags hi lo).perf = s.perf := rfl
@[simp] theorem State.setTags_tlb (s : State) (hi lo : Word) : (s.setTags hi lo).tlb = s.tlb := rfl
@[simp] theorem State.setTags_bpt (s : State) (hi lo : Word) : (s.setTags hi lo).bpt = s.bpt := rfl
@[simp] theorem State.setTags_caches (s : State) (hi lo : Word) : (s.setTags hi lo).caches = s.caches := rfl
@[simp] theorem State.setTags_pending (s : State) (hi lo : Word) : (s.setTags hi lo).pending = s.pending := rfl
@[simp] theorem State.setTags_bus (s : State) (hi lo : Word) : (s.setTags hi lo).bus = s.bus := rfl
@[simp] theorem State.setTags_jtag (s : State) (hi lo : Word) : (s.setTags hi lo).jtag = s.jtag := rfl
@[simp] theorem State.setTags_ctm (s : State) (hi lo : Word) : (s.setTags hi lo).ctm = s.ctm := rfl
@[simp] theorem State.setTags_mem (s : State) (hi lo : Word) : (s.setTags hi lo).mem = s.mem := rfl
@[simp] theorem State.setTags_ctr (s : State) (hi lo : Word) : (s.setTags hi lo).ctr = s.ctr := rfl
@[simp] theorem State.setTags_note (s : State) (hi lo : Word) : (s.setTags hi lo).note = s.note := rfl
@[simp] theorem State.setTags_held (s : State) (hi lo : Word) : (s.setTags hi lo).held = s.held := rfl
@[simp] theorem State.setTags_params (s : State) (hi lo : Word) : (s.setTags hi lo).params = s.params := rfl

/-! ### setEcc -/

@[simp] theorem State.setEcc_int (s : State) (b : BitVec 10) : (s.setEcc b).int = s.int := rfl
@[simp] theorem State.setEcc_pc (s : State) (b : BitVec 10) : (s.setEcc b).pc = s.pc := rfl
@[simp] theorem State.setEcc_delay (s : State) (b : BitVec 10) : (s.setEcc b).delay = s.delay := rfl
@[simp] theorem State.setEcc_fp (s : State) (b : BitVec 10) : (s.setEcc b).fp = s.fp := rfl
@[simp] theorem State.setEcc_link (s : State) (b : BitVec 10) : (s.setEcc b).link = s.link := rfl
@[simp] theorem State.setEcc_cp0 (s : State) (b : BitVec 10) : (s.setEcc b).cp0 = { s.cp0 with ecc := b.setWidth 32 } := rfl
@[simp] theorem State.setEcc_perf (s : State) (b : BitVec 10) : (s.setEcc b).perf = s.perf := rfl
@[simp] theorem State.setEcc_tlb (s : State) (b : BitVec 10) : (s.setEcc b).tlb = s.tlb := rfl
@[simp] theorem State.setEcc_bpt (s : State) (b : BitVec 10) : (s.setEcc b).bpt = s.bpt := rfl
@[simp] theorem State.setEcc_caches (s : State) (b : BitVec 10) : (s.setEcc b).caches = s.caches := rfl
@[simp] theorem State.setEcc_pending (s : State) (b : BitVec 10) : (s.setEcc b).pending = s.pending := rfl
@[simp] theorem State.setEcc_bus (s : State) (b : BitVec 10) : (s.setEcc b).bus = s.bus := rfl
@[simp] theorem State.setEcc_jtag (s : State) (b : BitVec 10) : (s.setEcc b).jtag = s.jtag := rfl
@[simp] theorem State.setEcc_ctm (s : State) (b : BitVec 10) : (s.setEcc b).ctm = s.ctm := rfl
@[simp] theorem State.setEcc_mem (s : State) (b : BitVec 10) : (s.setEcc b).mem = s.mem := rfl
@[simp] theorem State.setEcc_ctr (s : State) (b : BitVec 10) : (s.setEcc b).ctr = s.ctr := rfl
@[simp] theorem State.setEcc_note (s : State) (b : BitVec 10) : (s.setEcc b).note = s.note := rfl
@[simp] theorem State.setEcc_held (s : State) (b : BitVec 10) : (s.setEcc b).held = s.held := rfl
@[simp] theorem State.setEcc_params (s : State) (b : BitVec 10) : (s.setEcc b).params = s.params := rfl

/-! ### jumpTo -/

@[simp] theorem State.jumpTo_int (s : State) (t : DWord) : (s.jumpTo t).int = s.int := rfl
@[simp] theorem State.jumpTo_pc (s : State) (t : DWord) : (s.jumpTo t).pc = s.pc + 4#64 := rfl
@[simp] theorem State.jumpTo_delay (s : State) (t : DWord) : (s.jumpTo t).delay = .slot (some t) := rfl
@[simp] theorem State.jumpTo_fp (s : State) (t : DWord) : (s.jumpTo t).fp = s.fp := rfl
@[simp] theorem State.jumpTo_link (s : State) (t : DWord) : (s.jumpTo t).link = s.link := rfl
@[simp] theorem State.jumpTo_cp0 (s : State) (t : DWord) : (s.jumpTo t).cp0 = s.cp0 := rfl
@[simp] theorem State.jumpTo_perf (s : State) (t : DWord) : (s.jumpTo t).perf = s.perf := rfl
@[simp] theorem State.jumpTo_tlb (s : State) (t : DWord) : (s.jumpTo t).tlb = s.tlb := rfl
@[simp] theorem State.jumpTo_bpt (s : State) (t : DWord) : (s.jumpTo t).bpt = s.bpt := rfl
@[simp] theorem State.jumpTo_caches (s : State) (t : DWord) : (s.jumpTo t).caches = s.caches := rfl
@[simp] theorem State.jumpTo_pending (s : State) (t : DWord) : (s.jumpTo t).pending = s.pending := rfl
@[simp] theorem State.jumpTo_bus (s : State) (t : DWord) : (s.jumpTo t).bus = s.bus := rfl
@[simp] theorem State.jumpTo_jtag (s : State) (t : DWord) : (s.jumpTo t).jtag = s.jtag := rfl
@[simp] theorem State.jumpTo_ctm (s : State) (t : DWord) : (s.jumpTo t).ctm = s.ctm := rfl
@[simp] theorem State.jumpTo_mem (s : State) (t : DWord) : (s.jumpTo t).mem = s.mem := rfl
@[simp] theorem State.jumpTo_ctr (s : State) (t : DWord) : (s.jumpTo t).ctr = s.ctr := rfl
@[simp] theorem State.jumpTo_note (s : State) (t : DWord) : (s.jumpTo t).note = s.note := rfl
@[simp] theorem State.jumpTo_held (s : State) (t : DWord) : (s.jumpTo t).held = s.held := rfl
@[simp] theorem State.jumpTo_params (s : State) (t : DWord) : (s.jumpTo t).params = s.params := rfl

/-! ### notTaken -/

@[simp] theorem State.notTaken_int (s : State) : s.notTaken.int = s.int := rfl
@[simp] theorem State.notTaken_pc (s : State) : s.notTaken.pc = s.pc + 4#64 := rfl
@[simp] theorem State.notTaken_delay (s : State) : s.notTaken.delay = .slot none := rfl
@[simp] theorem State.notTaken_fp (s : State) : s.notTaken.fp = s.fp := rfl
@[simp] theorem State.notTaken_link (s : State) : s.notTaken.link = s.link := rfl
@[simp] theorem State.notTaken_cp0 (s : State) : s.notTaken.cp0 = s.cp0 := rfl
@[simp] theorem State.notTaken_perf (s : State) : s.notTaken.perf = s.perf := rfl
@[simp] theorem State.notTaken_tlb (s : State) : s.notTaken.tlb = s.tlb := rfl
@[simp] theorem State.notTaken_bpt (s : State) : s.notTaken.bpt = s.bpt := rfl
@[simp] theorem State.notTaken_caches (s : State) : s.notTaken.caches = s.caches := rfl
@[simp] theorem State.notTaken_pending (s : State) : s.notTaken.pending = s.pending := rfl
@[simp] theorem State.notTaken_bus (s : State) : s.notTaken.bus = s.bus := rfl
@[simp] theorem State.notTaken_jtag (s : State) : s.notTaken.jtag = s.jtag := rfl
@[simp] theorem State.notTaken_ctm (s : State) : s.notTaken.ctm = s.ctm := rfl
@[simp] theorem State.notTaken_mem (s : State) : s.notTaken.mem = s.mem := rfl
@[simp] theorem State.notTaken_ctr (s : State) : s.notTaken.ctr = s.ctr := rfl
@[simp] theorem State.notTaken_note (s : State) : s.notTaken.note = s.note := rfl
@[simp] theorem State.notTaken_held (s : State) : s.notTaken.held = s.held := rfl
@[simp] theorem State.notTaken_params (s : State) : s.notTaken.params = s.params := rfl

/-! ### skipSlot -/

@[simp] theorem State.skipSlot_int (s : State) : s.skipSlot.int = s.int := rfl
@[simp] theorem State.skipSlot_pc (s : State) : s.skipSlot.pc = s.pc + 8#64 := rfl
@[simp] theorem State.skipSlot_delay (s : State) : s.skipSlot.delay = .none := rfl
@[simp] theorem State.skipSlot_fp (s : State) : s.skipSlot.fp = s.fp := rfl
@[simp] theorem State.skipSlot_link (s : State) : s.skipSlot.link = s.link := rfl
@[simp] theorem State.skipSlot_cp0 (s : State) : s.skipSlot.cp0 = s.cp0 := rfl
@[simp] theorem State.skipSlot_perf (s : State) : s.skipSlot.perf = s.perf := rfl
@[simp] theorem State.skipSlot_tlb (s : State) : s.skipSlot.tlb = s.tlb := rfl
@[simp] theorem State.skipSlot_bpt (s : State) : s.skipSlot.bpt = s.bpt := rfl
@[simp] theorem State.skipSlot_caches (s : State) : s.skipSlot.caches = s.caches := rfl
@[simp] theorem State.skipSlot_pending (s : State) : s.skipSlot.pending = s.pending := rfl
@[simp] theorem State.skipSlot_bus (s : State) : s.skipSlot.bus = s.bus := rfl
@[simp] theorem State.skipSlot_jtag (s : State) : s.skipSlot.jtag = s.jtag := rfl
@[simp] theorem State.skipSlot_ctm (s : State) : s.skipSlot.ctm = s.ctm := rfl
@[simp] theorem State.skipSlot_mem (s : State) : s.skipSlot.mem = s.mem := rfl
@[simp] theorem State.skipSlot_ctr (s : State) : s.skipSlot.ctr = s.ctr := rfl
@[simp] theorem State.skipSlot_note (s : State) : s.skipSlot.note = s.note := rfl
@[simp] theorem State.skipSlot_held (s : State) : s.skipSlot.held = s.held := rfl
@[simp] theorem State.skipSlot_params (s : State) : s.skipSlot.params = s.params := rfl

/-! ### enter -/

@[simp] theorem State.enter_int (s : State) (c : BitVec 5) (ce : BitVec 2) (o : DWord) (r : Bool) : (s.enter c ce o r).int = s.int :=
  rfl
@[simp] theorem State.enter_pc (s : State) (c : BitVec 5) (ce : BitVec 2) (o : DWord) (r : Bool) : (s.enter c ce o r).pc = vectorBase s.bev + (if s.exl then generalOffset else o) :=
  rfl
@[simp] theorem State.enter_delay (s : State) (c : BitVec 5) (ce : BitVec 2) (o : DWord) (r : Bool) : (s.enter c ce o r).delay = .none :=
  rfl
@[simp] theorem State.enter_fp (s : State) (c : BitVec 5) (ce : BitVec 2) (o : DWord) (r : Bool) : (s.enter c ce o r).fp = s.fp :=
  rfl
@[simp] theorem State.enter_link (s : State) (c : BitVec 5) (ce : BitVec 2) (o : DWord) (r : Bool) : (s.enter c ce o r).link = { s.link with bit := false } :=
  rfl
@[simp] theorem State.enter_perf (s : State) (c : BitVec 5) (ce : BitVec 2) (o : DWord) (r : Bool) : (s.enter c ce o r).perf = s.perf :=
  rfl
@[simp] theorem State.enter_tlb (s : State) (c : BitVec 5) (ce : BitVec 2) (o : DWord) (r : Bool) : (s.enter c ce o r).tlb = s.tlb :=
  rfl
@[simp] theorem State.enter_bpt (s : State) (c : BitVec 5) (ce : BitVec 2) (o : DWord) (r : Bool) : (s.enter c ce o r).bpt = s.bpt :=
  rfl
@[simp] theorem State.enter_caches (s : State) (c : BitVec 5) (ce : BitVec 2) (o : DWord) (r : Bool) : (s.enter c ce o r).caches = s.caches :=
  rfl
@[simp] theorem State.enter_pending (s : State) (c : BitVec 5) (ce : BitVec 2) (o : DWord) (r : Bool) : (s.enter c ce o r).pending = s.pending :=
  rfl
@[simp] theorem State.enter_bus (s : State) (c : BitVec 5) (ce : BitVec 2) (o : DWord) (r : Bool) : (s.enter c ce o r).bus = s.bus :=
  rfl
@[simp] theorem State.enter_jtag (s : State) (c : BitVec 5) (ce : BitVec 2) (o : DWord) (r : Bool) : (s.enter c ce o r).jtag = s.jtag :=
  rfl
@[simp] theorem State.enter_ctm (s : State) (c : BitVec 5) (ce : BitVec 2) (o : DWord) (r : Bool) : (s.enter c ce o r).ctm = s.ctm :=
  rfl
@[simp] theorem State.enter_mem (s : State) (c : BitVec 5) (ce : BitVec 2) (o : DWord) (r : Bool) : (s.enter c ce o r).mem = s.mem :=
  rfl
@[simp] theorem State.enter_ctr (s : State) (c : BitVec 5) (ce : BitVec 2) (o : DWord) (r : Bool) : (s.enter c ce o r).ctr = s.ctr :=
  rfl
@[simp] theorem State.enter_note (s : State) (c : BitVec 5) (ce : BitVec 2) (o : DWord) (r : Bool) : (s.enter c ce o r).note = .excepted r :=
  rfl
@[simp] theorem State.enter_held (s : State) (c : BitVec 5) (ce : BitVec 2) (o : DWord) (r : Bool) : (s.enter c ce o r).held = s.held :=
  rfl
@[simp] theorem State.enter_params (s : State) (c : BitVec 5) (ce : BitVec 2) (o : DWord) (r : Bool) : (s.enter c ce o r).params = s.params :=
  rfl

/-! ### takeException -/

@[simp] theorem State.takeException_int (s : State) (c : BitVec 5) : (s.takeException c).int = s.int := rfl
@[simp] theorem State.takeException_pc (s : State) (c : BitVec 5) : (s.takeException c).pc = vectorBase s.bev + (if s.exl then generalOffset else generalOffset) :=
  rfl
@[simp] theorem State.takeException_delay (s : State) (c : BitVec 5) : (s.takeException c).delay = .none := rfl
@[simp] theorem State.takeException_fp (s : State) (c : BitVec 5) : (s.takeException c).fp = s.fp := rfl
@[simp] theorem State.takeException_link (s : State) (c : BitVec 5) : (s.takeException c).link = { s.link with bit := false } :=
  rfl
@[simp] theorem State.takeException_perf (s : State) (c : BitVec 5) : (s.takeException c).perf = s.perf := rfl
@[simp] theorem State.takeException_tlb (s : State) (c : BitVec 5) : (s.takeException c).tlb = s.tlb := rfl
@[simp] theorem State.takeException_bpt (s : State) (c : BitVec 5) : (s.takeException c).bpt = s.bpt := rfl
@[simp] theorem State.takeException_caches (s : State) (c : BitVec 5) : (s.takeException c).caches = s.caches := rfl
@[simp] theorem State.takeException_pending (s : State) (c : BitVec 5) : (s.takeException c).pending = s.pending := rfl
@[simp] theorem State.takeException_bus (s : State) (c : BitVec 5) : (s.takeException c).bus = s.bus := rfl
@[simp] theorem State.takeException_jtag (s : State) (c : BitVec 5) : (s.takeException c).jtag = s.jtag := rfl
@[simp] theorem State.takeException_ctm (s : State) (c : BitVec 5) : (s.takeException c).ctm = s.ctm := rfl
@[simp] theorem State.takeException_mem (s : State) (c : BitVec 5) : (s.takeException c).mem = s.mem := rfl
@[simp] theorem State.takeException_ctr (s : State) (c : BitVec 5) : (s.takeException c).ctr = s.ctr := rfl
@[simp] theorem State.takeException_note (s : State) (c : BitVec 5) : (s.takeException c).note = .excepted false := rfl
@[simp] theorem State.takeException_held (s : State) (c : BitVec 5) : (s.takeException c).held = s.held := rfl
@[simp] theorem State.takeException_params (s : State) (c : BitVec 5) : (s.takeException c).params = s.params := rfl

/-! ### coprocessorUnusable -/

@[simp] theorem State.coprocessorUnusable_int (s : State) (n : BitVec 2) : (s.coprocessorUnusable n).int = s.int := rfl
@[simp] theorem State.coprocessorUnusable_delay (s : State) (n : BitVec 2) : (s.coprocessorUnusable n).delay = .none := rfl
@[simp] theorem State.coprocessorUnusable_fp (s : State) (n : BitVec 2) : (s.coprocessorUnusable n).fp = s.fp := rfl
@[simp] theorem State.coprocessorUnusable_link (s : State) (n : BitVec 2) : (s.coprocessorUnusable n).link = { s.link with bit := false } :=
  rfl
@[simp] theorem State.coprocessorUnusable_perf (s : State) (n : BitVec 2) : (s.coprocessorUnusable n).perf = s.perf := rfl
@[simp] theorem State.coprocessorUnusable_tlb (s : State) (n : BitVec 2) : (s.coprocessorUnusable n).tlb = s.tlb := rfl
@[simp] theorem State.coprocessorUnusable_bpt (s : State) (n : BitVec 2) : (s.coprocessorUnusable n).bpt = s.bpt := rfl
@[simp] theorem State.coprocessorUnusable_caches (s : State) (n : BitVec 2) : (s.coprocessorUnusable n).caches = s.caches :=
  rfl
@[simp] theorem State.coprocessorUnusable_pending (s : State) (n : BitVec 2) : (s.coprocessorUnusable n).pending = s.pending :=
  rfl
@[simp] theorem State.coprocessorUnusable_bus (s : State) (n : BitVec 2) : (s.coprocessorUnusable n).bus = s.bus := rfl
@[simp] theorem State.coprocessorUnusable_jtag (s : State) (n : BitVec 2) : (s.coprocessorUnusable n).jtag = s.jtag := rfl
@[simp] theorem State.coprocessorUnusable_ctm (s : State) (n : BitVec 2) : (s.coprocessorUnusable n).ctm = s.ctm := rfl
@[simp] theorem State.coprocessorUnusable_mem (s : State) (n : BitVec 2) : (s.coprocessorUnusable n).mem = s.mem := rfl
@[simp] theorem State.coprocessorUnusable_ctr (s : State) (n : BitVec 2) : (s.coprocessorUnusable n).ctr = s.ctr := rfl
@[simp] theorem State.coprocessorUnusable_note (s : State) (n : BitVec 2) : (s.coprocessorUnusable n).note = .excepted false :=
  rfl
@[simp] theorem State.coprocessorUnusable_held (s : State) (n : BitVec 2) : (s.coprocessorUnusable n).held = s.held :=
  rfl
@[simp] theorem State.coprocessorUnusable_params (s : State) (n : BitVec 2) : (s.coprocessorUnusable n).params = s.params :=
  rfl

/-! ### setTlbFault -/

@[simp] theorem State.setTlbFault_int (s : State) (va : DWord) : (s.setTlbFault va).int = s.int := rfl
@[simp] theorem State.setTlbFault_pc (s : State) (va : DWord) : (s.setTlbFault va).pc = s.pc := rfl
@[simp] theorem State.setTlbFault_delay (s : State) (va : DWord) : (s.setTlbFault va).delay = s.delay := rfl
@[simp] theorem State.setTlbFault_fp (s : State) (va : DWord) : (s.setTlbFault va).fp = s.fp := rfl
@[simp] theorem State.setTlbFault_link (s : State) (va : DWord) : (s.setTlbFault va).link = s.link := rfl
@[simp] theorem State.setTlbFault_perf (s : State) (va : DWord) : (s.setTlbFault va).perf = s.perf := rfl
@[simp] theorem State.setTlbFault_tlb (s : State) (va : DWord) : (s.setTlbFault va).tlb = s.tlb := rfl
@[simp] theorem State.setTlbFault_bpt (s : State) (va : DWord) : (s.setTlbFault va).bpt = s.bpt := rfl
@[simp] theorem State.setTlbFault_caches (s : State) (va : DWord) : (s.setTlbFault va).caches = s.caches := rfl
@[simp] theorem State.setTlbFault_pending (s : State) (va : DWord) : (s.setTlbFault va).pending = s.pending := rfl
@[simp] theorem State.setTlbFault_bus (s : State) (va : DWord) : (s.setTlbFault va).bus = s.bus := rfl
@[simp] theorem State.setTlbFault_jtag (s : State) (va : DWord) : (s.setTlbFault va).jtag = s.jtag := rfl
@[simp] theorem State.setTlbFault_ctm (s : State) (va : DWord) : (s.setTlbFault va).ctm = s.ctm := rfl
@[simp] theorem State.setTlbFault_mem (s : State) (va : DWord) : (s.setTlbFault va).mem = s.mem := rfl
@[simp] theorem State.setTlbFault_ctr (s : State) (va : DWord) : (s.setTlbFault va).ctr = s.ctr := rfl
@[simp] theorem State.setTlbFault_note (s : State) (va : DWord) : (s.setTlbFault va).note = s.note := rfl
@[simp] theorem State.setTlbFault_held (s : State) (va : DWord) : (s.setTlbFault va).held = s.held := rfl
@[simp] theorem State.setTlbFault_params (s : State) (va : DWord) : (s.setTlbFault va).params = s.params := rfl

/-! ### tlbProbe -/

@[simp] theorem State.tlbProbe_int (s : State) : s.tlbProbe.int = s.int := rfl
@[simp] theorem State.tlbProbe_pc (s : State) : s.tlbProbe.pc = s.pc := rfl
@[simp] theorem State.tlbProbe_delay (s : State) : s.tlbProbe.delay = s.delay := rfl
@[simp] theorem State.tlbProbe_fp (s : State) : s.tlbProbe.fp = s.fp := rfl
@[simp] theorem State.tlbProbe_link (s : State) : s.tlbProbe.link = s.link := rfl
@[simp] theorem State.tlbProbe_perf (s : State) : s.tlbProbe.perf = s.perf := rfl
@[simp] theorem State.tlbProbe_tlb (s : State) : s.tlbProbe.tlb = s.tlb := rfl
@[simp] theorem State.tlbProbe_bpt (s : State) : s.tlbProbe.bpt = s.bpt := rfl
@[simp] theorem State.tlbProbe_caches (s : State) : s.tlbProbe.caches = s.caches := rfl
@[simp] theorem State.tlbProbe_pending (s : State) : s.tlbProbe.pending = s.pending := rfl
@[simp] theorem State.tlbProbe_bus (s : State) : s.tlbProbe.bus = s.bus := rfl
@[simp] theorem State.tlbProbe_jtag (s : State) : s.tlbProbe.jtag = s.jtag := rfl
@[simp] theorem State.tlbProbe_ctm (s : State) : s.tlbProbe.ctm = s.ctm := rfl
@[simp] theorem State.tlbProbe_mem (s : State) : s.tlbProbe.mem = s.mem := rfl
@[simp] theorem State.tlbProbe_ctr (s : State) : s.tlbProbe.ctr = s.ctr := rfl
@[simp] theorem State.tlbProbe_note (s : State) : s.tlbProbe.note = s.note := rfl
@[simp] theorem State.tlbProbe_held (s : State) : s.tlbProbe.held = s.held := rfl
@[simp] theorem State.tlbProbe_params (s : State) : s.tlbProbe.params = s.params := rfl

/-! ### tlbRead -/

@[simp] theorem State.tlbRead_int (s : State) : s.tlbRead.int = s.int := rfl
@[simp] theorem State.tlbRead_pc (s : State) : s.tlbRead.pc = s.pc := rfl
@[simp] theorem State.tlbRead_delay (s : State) : s.tlbRead.delay = s.delay := rfl
@[simp] theorem State.tlbRead_fp (s : State) : s.tlbRead.fp = s.fp := rfl
@[simp] theorem State.tlbRead_link (s : State) : s.tlbRead.link = s.link := rfl
@[simp] theorem State.tlbRead_perf (s : State) : s.tlbRead.perf = s.perf := rfl
@[simp] theorem State.tlbRead_tlb (s : State) : s.tlbRead.tlb = s.tlb := rfl
@[simp] theorem State.tlbRead_bpt (s : State) : s.tlbRead.bpt = s.bpt := rfl
@[simp] theorem State.tlbRead_caches (s : State) : s.tlbRead.caches = s.caches := rfl
@[simp] theorem State.tlbRead_pending (s : State) : s.tlbRead.pending = s.pending := rfl
@[simp] theorem State.tlbRead_bus (s : State) : s.tlbRead.bus = s.bus := rfl
@[simp] theorem State.tlbRead_jtag (s : State) : s.tlbRead.jtag = s.jtag := rfl
@[simp] theorem State.tlbRead_ctm (s : State) : s.tlbRead.ctm = s.ctm := rfl
@[simp] theorem State.tlbRead_mem (s : State) : s.tlbRead.mem = s.mem := rfl
@[simp] theorem State.tlbRead_ctr (s : State) : s.tlbRead.ctr = s.ctr := rfl
@[simp] theorem State.tlbRead_note (s : State) : s.tlbRead.note = s.note := rfl
@[simp] theorem State.tlbRead_held (s : State) : s.tlbRead.held = s.held := rfl
@[simp] theorem State.tlbRead_params (s : State) : s.tlbRead.params = s.params := rfl

/-! ### tlbWrite -/

@[simp] theorem State.tlbWrite_int (s : State) (i : BitVec 6) : (s.tlbWrite i).int = s.int := rfl
@[simp] theorem State.tlbWrite_pc (s : State) (i : BitVec 6) : (s.tlbWrite i).pc = s.pc := rfl
@[simp] theorem State.tlbWrite_delay (s : State) (i : BitVec 6) : (s.tlbWrite i).delay = s.delay := rfl
@[simp] theorem State.tlbWrite_fp (s : State) (i : BitVec 6) : (s.tlbWrite i).fp = s.fp := rfl
@[simp] theorem State.tlbWrite_link (s : State) (i : BitVec 6) : (s.tlbWrite i).link = s.link := rfl
@[simp] theorem State.tlbWrite_perf (s : State) (i : BitVec 6) : (s.tlbWrite i).perf = s.perf := rfl
@[simp] theorem State.tlbWrite_bpt (s : State) (i : BitVec 6) : (s.tlbWrite i).bpt = s.bpt := rfl
@[simp] theorem State.tlbWrite_caches (s : State) (i : BitVec 6) : (s.tlbWrite i).caches = s.caches := rfl
@[simp] theorem State.tlbWrite_pending (s : State) (i : BitVec 6) : (s.tlbWrite i).pending = s.pending := rfl
@[simp] theorem State.tlbWrite_bus (s : State) (i : BitVec 6) : (s.tlbWrite i).bus = s.bus := rfl
@[simp] theorem State.tlbWrite_jtag (s : State) (i : BitVec 6) : (s.tlbWrite i).jtag = s.jtag := rfl
@[simp] theorem State.tlbWrite_ctm (s : State) (i : BitVec 6) : (s.tlbWrite i).ctm = s.ctm := rfl
@[simp] theorem State.tlbWrite_mem (s : State) (i : BitVec 6) : (s.tlbWrite i).mem = s.mem := rfl
@[simp] theorem State.tlbWrite_ctr (s : State) (i : BitVec 6) : (s.tlbWrite i).ctr = s.ctr := rfl
@[simp] theorem State.tlbWrite_note (s : State) (i : BitVec 6) : (s.tlbWrite i).note = s.note := rfl
@[simp] theorem State.tlbWrite_held (s : State) (i : BitVec 6) : (s.tlbWrite i).held = s.held := rfl
@[simp] theorem State.tlbWrite_params (s : State) (i : BitVec 6) : (s.tlbWrite i).params = s.params := rfl

/-! ### nmi -/

@[simp] theorem State.nmi_int (s : State) : s.nmi.int = s.int := rfl
@[simp] theorem State.nmi_pc (s : State) : s.nmi.pc = resetVector := rfl
@[simp] theorem State.nmi_delay (s : State) : s.nmi.delay = .none := rfl
@[simp] theorem State.nmi_fp (s : State) : s.nmi.fp = s.fp := rfl
@[simp] theorem State.nmi_link (s : State) : s.nmi.link = { s.link with bit := false } := rfl
@[simp] theorem State.nmi_perf (s : State) : s.nmi.perf = s.perf := rfl
@[simp] theorem State.nmi_tlb (s : State) : s.nmi.tlb = s.tlb := rfl
@[simp] theorem State.nmi_bpt (s : State) : s.nmi.bpt = s.bpt := rfl
@[simp] theorem State.nmi_caches (s : State) : s.nmi.caches = s.caches := rfl
@[simp] theorem State.nmi_pending (s : State) : s.nmi.pending = { s.pending.clearCacheErr with nmi := false } := rfl
@[simp] theorem State.nmi_bus (s : State) : s.nmi.bus = s.bus := rfl
@[simp] theorem State.nmi_jtag (s : State) : s.nmi.jtag = s.jtag := rfl
@[simp] theorem State.nmi_ctm (s : State) : s.nmi.ctm = s.ctm := rfl
@[simp] theorem State.nmi_mem (s : State) : s.nmi.mem = s.mem := rfl
@[simp] theorem State.nmi_ctr (s : State) : s.nmi.ctr = s.ctr := rfl
@[simp] theorem State.nmi_note (s : State) : s.nmi.note = .excepted false := rfl
@[simp] theorem State.nmi_held (s : State) : s.nmi.held = s.held := rfl
@[simp] theorem State.nmi_params (s : State) : s.nmi.params = s.params := rfl

/-! ### takeCacheError -/

@[simp] theorem State.takeCacheError_int (s : State) : s.takeCacheError.int = s.int := rfl
@[simp] theorem State.takeCacheError_pc (s : State) : s.takeCacheError.pc = cacheErrorVector s.bev := rfl
@[simp] theorem State.takeCacheError_delay (s : State) : s.takeCacheError.delay = .none := rfl
@[simp] theorem State.takeCacheError_fp (s : State) : s.takeCacheError.fp = s.fp := rfl
@[simp] theorem State.takeCacheError_link (s : State) : s.takeCacheError.link = { s.link with bit := false } := rfl
@[simp] theorem State.takeCacheError_perf (s : State) : s.takeCacheError.perf = s.perf := rfl
@[simp] theorem State.takeCacheError_tlb (s : State) : s.takeCacheError.tlb = s.tlb := rfl
@[simp] theorem State.takeCacheError_bpt (s : State) : s.takeCacheError.bpt = s.bpt := rfl
@[simp] theorem State.takeCacheError_caches (s : State) : s.takeCacheError.caches = s.caches := rfl
@[simp] theorem State.takeCacheError_pending (s : State) : s.takeCacheError.pending = s.pending.takeCacheErr.2 := rfl
@[simp] theorem State.takeCacheError_bus (s : State) : s.takeCacheError.bus = s.bus := rfl
@[simp] theorem State.takeCacheError_jtag (s : State) : s.takeCacheError.jtag = s.jtag := rfl
@[simp] theorem State.takeCacheError_ctm (s : State) : s.takeCacheError.ctm = s.ctm := rfl
@[simp] theorem State.takeCacheError_mem (s : State) : s.takeCacheError.mem = s.mem := rfl
@[simp] theorem State.takeCacheError_ctr (s : State) : s.takeCacheError.ctr = s.ctr := rfl
@[simp] theorem State.takeCacheError_note (s : State) : s.takeCacheError.note = .excepted false := rfl
@[simp] theorem State.takeCacheError_held (s : State) : s.takeCacheError.held = s.held := rfl
@[simp] theorem State.takeCacheError_params (s : State) : s.takeCacheError.params = s.params := rfl

/-! ### setReplies -/

@[simp] theorem State.setReplies_int (s : State) (l : List Reply) : (s.setReplies l).int = s.int := rfl
@[simp] theorem State.setReplies_pc (s : State) (l : List Reply) : (s.setReplies l).pc = s.pc := rfl
@[simp] theorem State.setReplies_delay (s : State) (l : List Reply) : (s.setReplies l).delay = s.delay := rfl
@[simp] theorem State.setReplies_fp (s : State) (l : List Reply) : (s.setReplies l).fp = s.fp := rfl
@[simp] theorem State.setReplies_link (s : State) (l : List Reply) : (s.setReplies l).link = s.link := rfl
@[simp] theorem State.setReplies_cp0 (s : State) (l : List Reply) : (s.setReplies l).cp0 = s.cp0 := rfl
@[simp] theorem State.setReplies_perf (s : State) (l : List Reply) : (s.setReplies l).perf = s.perf := rfl
@[simp] theorem State.setReplies_tlb (s : State) (l : List Reply) : (s.setReplies l).tlb = s.tlb := rfl
@[simp] theorem State.setReplies_bpt (s : State) (l : List Reply) : (s.setReplies l).bpt = s.bpt := rfl
@[simp] theorem State.setReplies_caches (s : State) (l : List Reply) : (s.setReplies l).caches = s.caches := rfl
@[simp] theorem State.setReplies_pending (s : State) (l : List Reply) : (s.setReplies l).pending = s.pending := rfl
@[simp] theorem State.setReplies_bus (s : State) (l : List Reply) : (s.setReplies l).bus = { s.bus with replies := l } := rfl
@[simp] theorem State.setReplies_jtag (s : State) (l : List Reply) : (s.setReplies l).jtag = s.jtag := rfl
@[simp] theorem State.setReplies_ctm (s : State) (l : List Reply) : (s.setReplies l).ctm = s.ctm := rfl
@[simp] theorem State.setReplies_mem (s : State) (l : List Reply) : (s.setReplies l).mem = s.mem := rfl
@[simp] theorem State.setReplies_ctr (s : State) (l : List Reply) : (s.setReplies l).ctr = s.ctr := rfl
@[simp] theorem State.setReplies_note (s : State) (l : List Reply) : (s.setReplies l).note = s.note := rfl
@[simp] theorem State.setReplies_held (s : State) (l : List Reply) : (s.setReplies l).held = s.held := rfl
@[simp] theorem State.setReplies_params (s : State) (l : List Reply) : (s.setReplies l).params = s.params := rfl

/-! ### setFifo -/

@[simp] theorem State.setFifo_int (s : State) (l : List UncachedStore) : (s.setFifo l).int = s.int := rfl
@[simp] theorem State.setFifo_pc (s : State) (l : List UncachedStore) : (s.setFifo l).pc = s.pc := rfl
@[simp] theorem State.setFifo_delay (s : State) (l : List UncachedStore) : (s.setFifo l).delay = s.delay := rfl
@[simp] theorem State.setFifo_fp (s : State) (l : List UncachedStore) : (s.setFifo l).fp = s.fp := rfl
@[simp] theorem State.setFifo_link (s : State) (l : List UncachedStore) : (s.setFifo l).link = s.link := rfl
@[simp] theorem State.setFifo_cp0 (s : State) (l : List UncachedStore) : (s.setFifo l).cp0 = s.cp0 := rfl
@[simp] theorem State.setFifo_perf (s : State) (l : List UncachedStore) : (s.setFifo l).perf = s.perf := rfl
@[simp] theorem State.setFifo_tlb (s : State) (l : List UncachedStore) : (s.setFifo l).tlb = s.tlb := rfl
@[simp] theorem State.setFifo_bpt (s : State) (l : List UncachedStore) : (s.setFifo l).bpt = s.bpt := rfl
@[simp] theorem State.setFifo_caches (s : State) (l : List UncachedStore) : (s.setFifo l).caches = s.caches := rfl
@[simp] theorem State.setFifo_pending (s : State) (l : List UncachedStore) : (s.setFifo l).pending = s.pending := rfl
@[simp] theorem State.setFifo_bus (s : State) (l : List UncachedStore) : (s.setFifo l).bus = { s.bus with fifo := l } := rfl
@[simp] theorem State.setFifo_jtag (s : State) (l : List UncachedStore) : (s.setFifo l).jtag = s.jtag := rfl
@[simp] theorem State.setFifo_ctm (s : State) (l : List UncachedStore) : (s.setFifo l).ctm = s.ctm := rfl
@[simp] theorem State.setFifo_mem (s : State) (l : List UncachedStore) : (s.setFifo l).mem = s.mem := rfl
@[simp] theorem State.setFifo_ctr (s : State) (l : List UncachedStore) : (s.setFifo l).ctr = s.ctr := rfl
@[simp] theorem State.setFifo_note (s : State) (l : List UncachedStore) : (s.setFifo l).note = s.note := rfl
@[simp] theorem State.setFifo_held (s : State) (l : List UncachedStore) : (s.setFifo l).held = s.held := rfl
@[simp] theorem State.setFifo_params (s : State) (l : List UncachedStore) : (s.setFifo l).params = s.params := rfl

/-! ### setReady -/

@[simp] theorem State.setReady_int (s : State) (l : List Buffered) : (s.setReady l).int = s.int := rfl
@[simp] theorem State.setReady_pc (s : State) (l : List Buffered) : (s.setReady l).pc = s.pc := rfl
@[simp] theorem State.setReady_delay (s : State) (l : List Buffered) : (s.setReady l).delay = s.delay := rfl
@[simp] theorem State.setReady_fp (s : State) (l : List Buffered) : (s.setReady l).fp = s.fp := rfl
@[simp] theorem State.setReady_link (s : State) (l : List Buffered) : (s.setReady l).link = s.link := rfl
@[simp] theorem State.setReady_cp0 (s : State) (l : List Buffered) : (s.setReady l).cp0 = s.cp0 := rfl
@[simp] theorem State.setReady_perf (s : State) (l : List Buffered) : (s.setReady l).perf = s.perf := rfl
@[simp] theorem State.setReady_tlb (s : State) (l : List Buffered) : (s.setReady l).tlb = s.tlb := rfl
@[simp] theorem State.setReady_bpt (s : State) (l : List Buffered) : (s.setReady l).bpt = s.bpt := rfl
@[simp] theorem State.setReady_caches (s : State) (l : List Buffered) : (s.setReady l).caches = s.caches := rfl
@[simp] theorem State.setReady_pending (s : State) (l : List Buffered) : (s.setReady l).pending = s.pending := rfl
@[simp] theorem State.setReady_bus (s : State) (l : List Buffered) : (s.setReady l).bus = { s.bus with ready := l } := rfl
@[simp] theorem State.setReady_jtag (s : State) (l : List Buffered) : (s.setReady l).jtag = s.jtag := rfl
@[simp] theorem State.setReady_ctm (s : State) (l : List Buffered) : (s.setReady l).ctm = s.ctm := rfl
@[simp] theorem State.setReady_mem (s : State) (l : List Buffered) : (s.setReady l).mem = s.mem := rfl
@[simp] theorem State.setReady_ctr (s : State) (l : List Buffered) : (s.setReady l).ctr = s.ctr := rfl
@[simp] theorem State.setReady_note (s : State) (l : List Buffered) : (s.setReady l).note = s.note := rfl
@[simp] theorem State.setReady_held (s : State) (l : List Buffered) : (s.setReady l).held = s.held := rfl
@[simp] theorem State.setReady_params (s : State) (l : List Buffered) : (s.setReady l).params = s.params := rfl

/-! ### setOutgoing -/

@[simp] theorem State.setOutgoing_int (s : State) (l : List Outgoing) : (s.setOutgoing l).int = s.int := rfl
@[simp] theorem State.setOutgoing_pc (s : State) (l : List Outgoing) : (s.setOutgoing l).pc = s.pc := rfl
@[simp] theorem State.setOutgoing_delay (s : State) (l : List Outgoing) : (s.setOutgoing l).delay = s.delay := rfl
@[simp] theorem State.setOutgoing_fp (s : State) (l : List Outgoing) : (s.setOutgoing l).fp = s.fp := rfl
@[simp] theorem State.setOutgoing_link (s : State) (l : List Outgoing) : (s.setOutgoing l).link = s.link := rfl
@[simp] theorem State.setOutgoing_cp0 (s : State) (l : List Outgoing) : (s.setOutgoing l).cp0 = s.cp0 := rfl
@[simp] theorem State.setOutgoing_perf (s : State) (l : List Outgoing) : (s.setOutgoing l).perf = s.perf := rfl
@[simp] theorem State.setOutgoing_tlb (s : State) (l : List Outgoing) : (s.setOutgoing l).tlb = s.tlb := rfl
@[simp] theorem State.setOutgoing_bpt (s : State) (l : List Outgoing) : (s.setOutgoing l).bpt = s.bpt := rfl
@[simp] theorem State.setOutgoing_caches (s : State) (l : List Outgoing) : (s.setOutgoing l).caches = s.caches := rfl
@[simp] theorem State.setOutgoing_pending (s : State) (l : List Outgoing) : (s.setOutgoing l).pending = s.pending := rfl
@[simp] theorem State.setOutgoing_bus (s : State) (l : List Outgoing) : (s.setOutgoing l).bus = { s.bus with outgoing := l } :=
  rfl
@[simp] theorem State.setOutgoing_jtag (s : State) (l : List Outgoing) : (s.setOutgoing l).jtag = s.jtag := rfl
@[simp] theorem State.setOutgoing_ctm (s : State) (l : List Outgoing) : (s.setOutgoing l).ctm = s.ctm := rfl
@[simp] theorem State.setOutgoing_mem (s : State) (l : List Outgoing) : (s.setOutgoing l).mem = s.mem := rfl
@[simp] theorem State.setOutgoing_ctr (s : State) (l : List Outgoing) : (s.setOutgoing l).ctr = s.ctr := rfl
@[simp] theorem State.setOutgoing_note (s : State) (l : List Outgoing) : (s.setOutgoing l).note = s.note := rfl
@[simp] theorem State.setOutgoing_held (s : State) (l : List Outgoing) : (s.setOutgoing l).held = s.held := rfl
@[simp] theorem State.setOutgoing_params (s : State) (l : List Outgoing) : (s.setOutgoing l).params = s.params := rfl

/-! ### fresh -/

@[simp] theorem State.fresh_int (s : State) : s.fresh.int = s.int := rfl
@[simp] theorem State.fresh_pc (s : State) : s.fresh.pc = s.pc := rfl
@[simp] theorem State.fresh_delay (s : State) : s.fresh.delay = s.delay := rfl
@[simp] theorem State.fresh_fp (s : State) : s.fresh.fp = s.fp := rfl
@[simp] theorem State.fresh_link (s : State) : s.fresh.link = s.link := rfl
@[simp] theorem State.fresh_cp0 (s : State) : s.fresh.cp0 = s.cp0 := rfl
@[simp] theorem State.fresh_perf (s : State) : s.fresh.perf = s.perf := rfl
@[simp] theorem State.fresh_tlb (s : State) : s.fresh.tlb = s.tlb := rfl
@[simp] theorem State.fresh_bpt (s : State) : s.fresh.bpt = s.bpt := rfl
@[simp] theorem State.fresh_caches (s : State) : s.fresh.caches = s.caches := rfl
@[simp] theorem State.fresh_pending (s : State) : s.fresh.pending = s.pending := rfl
@[simp] theorem State.fresh_bus (s : State) : s.fresh.bus = s.bus := rfl
@[simp] theorem State.fresh_jtag (s : State) : s.fresh.jtag = s.jtag := rfl
@[simp] theorem State.fresh_ctm (s : State) : s.fresh.ctm = s.ctm := rfl
@[simp] theorem State.fresh_mem (s : State) : s.fresh.mem = s.mem := rfl
@[simp] theorem State.fresh_note (s : State) : s.fresh.note = s.note := rfl
@[simp] theorem State.fresh_held (s : State) : s.fresh.held = s.held := rfl
@[simp] theorem State.fresh_params (s : State) : s.fresh.params = s.params := rfl
@[simp] theorem State.fresh_ctr (s : State) : s.fresh.ctr = s.ctr + 1 := rfl

/-! ### record -/

@[simp] theorem State.record_int (s : State) (w : BusEvent) : (s.record w).int = s.int := rfl
@[simp] theorem State.record_pc (s : State) (w : BusEvent) : (s.record w).pc = s.pc := rfl
@[simp] theorem State.record_delay (s : State) (w : BusEvent) : (s.record w).delay = s.delay := rfl
@[simp] theorem State.record_fp (s : State) (w : BusEvent) : (s.record w).fp = s.fp := rfl
@[simp] theorem State.record_link (s : State) (w : BusEvent) : (s.record w).link = s.link := rfl
@[simp] theorem State.record_cp0 (s : State) (w : BusEvent) : (s.record w).cp0 = s.cp0 := rfl
@[simp] theorem State.record_perf (s : State) (w : BusEvent) : (s.record w).perf = s.perf := rfl
@[simp] theorem State.record_tlb (s : State) (w : BusEvent) : (s.record w).tlb = s.tlb := rfl
@[simp] theorem State.record_bpt (s : State) (w : BusEvent) : (s.record w).bpt = s.bpt := rfl
@[simp] theorem State.record_caches (s : State) (w : BusEvent) : (s.record w).caches = s.caches := rfl
@[simp] theorem State.record_pending (s : State) (w : BusEvent) : (s.record w).pending = s.pending := rfl
@[simp] theorem State.record_bus (s : State) (w : BusEvent) : (s.record w).bus = { s.bus with sent := s.bus.sent ++ [w] } :=
  rfl
@[simp] theorem State.record_jtag (s : State) (w : BusEvent) : (s.record w).jtag = s.jtag := rfl
@[simp] theorem State.record_ctm (s : State) (w : BusEvent) : (s.record w).ctm = s.ctm := rfl
@[simp] theorem State.record_mem (s : State) (w : BusEvent) : (s.record w).mem = s.mem := rfl
@[simp] theorem State.record_ctr (s : State) (w : BusEvent) : (s.record w).ctr = s.ctr := rfl
@[simp] theorem State.record_note (s : State) (w : BusEvent) : (s.record w).note = s.note := rfl
@[simp] theorem State.record_held (s : State) (w : BusEvent) : (s.record w).held = s.held := rfl
@[simp] theorem State.record_params (s : State) (w : BusEvent) : (s.record w).params = s.params := rfl

/-! ### ctmOutputs -/

@[simp] theorem State.ctmOutputs_int (s : State) : s.ctmOutputs.int = s.int := rfl
@[simp] theorem State.ctmOutputs_pc (s : State) : s.ctmOutputs.pc = s.pc := rfl
@[simp] theorem State.ctmOutputs_delay (s : State) : s.ctmOutputs.delay = s.delay := rfl
@[simp] theorem State.ctmOutputs_fp (s : State) : s.ctmOutputs.fp = s.fp := rfl
@[simp] theorem State.ctmOutputs_link (s : State) : s.ctmOutputs.link = s.link := rfl
@[simp] theorem State.ctmOutputs_cp0 (s : State) : s.ctmOutputs.cp0 = s.cp0 := rfl
@[simp] theorem State.ctmOutputs_perf (s : State) : s.ctmOutputs.perf = s.perf := rfl
@[simp] theorem State.ctmOutputs_tlb (s : State) : s.ctmOutputs.tlb = s.tlb := rfl
@[simp] theorem State.ctmOutputs_bpt (s : State) : s.ctmOutputs.bpt = s.bpt := rfl
@[simp] theorem State.ctmOutputs_caches (s : State) : s.ctmOutputs.caches = s.caches := rfl
@[simp] theorem State.ctmOutputs_pending (s : State) : s.ctmOutputs.pending = s.pending := rfl
@[simp] theorem State.ctmOutputs_ctm (s : State) : s.ctmOutputs.ctm = s.ctm := rfl
@[simp] theorem State.ctmOutputs_mem (s : State) : s.ctmOutputs.mem = s.mem := rfl
@[simp] theorem State.ctmOutputs_ctr (s : State) : s.ctmOutputs.ctr = s.ctr := rfl
@[simp] theorem State.ctmOutputs_note (s : State) : s.ctmOutputs.note = s.note := rfl
@[simp] theorem State.ctmOutputs_held (s : State) : s.ctmOutputs.held = s.held := rfl
@[simp] theorem State.ctmOutputs_params (s : State) : s.ctmOutputs.params = s.params := rfl

/-! ### pulseUnc -/

@[simp] theorem State.pulseUnc_int (s : State) (b : Bool) : (s.pulseUnc b).int = s.int := rfl
@[simp] theorem State.pulseUnc_pc (s : State) (b : Bool) : (s.pulseUnc b).pc = s.pc := rfl
@[simp] theorem State.pulseUnc_delay (s : State) (b : Bool) : (s.pulseUnc b).delay = s.delay := rfl
@[simp] theorem State.pulseUnc_fp (s : State) (b : Bool) : (s.pulseUnc b).fp = s.fp := rfl
@[simp] theorem State.pulseUnc_link (s : State) (b : Bool) : (s.pulseUnc b).link = s.link := rfl
@[simp] theorem State.pulseUnc_cp0 (s : State) (b : Bool) : (s.pulseUnc b).cp0 = s.cp0 := rfl
@[simp] theorem State.pulseUnc_perf (s : State) (b : Bool) : (s.pulseUnc b).perf = s.perf := rfl
@[simp] theorem State.pulseUnc_tlb (s : State) (b : Bool) : (s.pulseUnc b).tlb = s.tlb := rfl
@[simp] theorem State.pulseUnc_bpt (s : State) (b : Bool) : (s.pulseUnc b).bpt = s.bpt := rfl
@[simp] theorem State.pulseUnc_caches (s : State) (b : Bool) : (s.pulseUnc b).caches = s.caches := rfl
@[simp] theorem State.pulseUnc_pending (s : State) (b : Bool) : (s.pulseUnc b).pending = s.pending := rfl
@[simp] theorem State.pulseUnc_bus (s : State) (b : Bool) : (s.pulseUnc b).bus = { s.bus with uncErr := s.bus.uncErr || b } :=
  rfl
@[simp] theorem State.pulseUnc_jtag (s : State) (b : Bool) : (s.pulseUnc b).jtag = s.jtag := rfl
@[simp] theorem State.pulseUnc_ctm (s : State) (b : Bool) : (s.pulseUnc b).ctm = s.ctm := rfl
@[simp] theorem State.pulseUnc_mem (s : State) (b : Bool) : (s.pulseUnc b).mem = s.mem := rfl
@[simp] theorem State.pulseUnc_ctr (s : State) (b : Bool) : (s.pulseUnc b).ctr = s.ctr := rfl
@[simp] theorem State.pulseUnc_note (s : State) (b : Bool) : (s.pulseUnc b).note = s.note := rfl
@[simp] theorem State.pulseUnc_held (s : State) (b : Bool) : (s.pulseUnc b).held = s.held := rfl
@[simp] theorem State.pulseUnc_params (s : State) (b : Bool) : (s.pulseUnc b).params = s.params := rfl

/-! ### pulseCor -/

@[simp] theorem State.pulseCor_int (s : State) (b : Bool) : (s.pulseCor b).int = s.int := rfl
@[simp] theorem State.pulseCor_pc (s : State) (b : Bool) : (s.pulseCor b).pc = s.pc := rfl
@[simp] theorem State.pulseCor_delay (s : State) (b : Bool) : (s.pulseCor b).delay = s.delay := rfl
@[simp] theorem State.pulseCor_fp (s : State) (b : Bool) : (s.pulseCor b).fp = s.fp := rfl
@[simp] theorem State.pulseCor_link (s : State) (b : Bool) : (s.pulseCor b).link = s.link := rfl
@[simp] theorem State.pulseCor_cp0 (s : State) (b : Bool) : (s.pulseCor b).cp0 = s.cp0 := rfl
@[simp] theorem State.pulseCor_perf (s : State) (b : Bool) : (s.pulseCor b).perf = s.perf := rfl
@[simp] theorem State.pulseCor_tlb (s : State) (b : Bool) : (s.pulseCor b).tlb = s.tlb := rfl
@[simp] theorem State.pulseCor_bpt (s : State) (b : Bool) : (s.pulseCor b).bpt = s.bpt := rfl
@[simp] theorem State.pulseCor_caches (s : State) (b : Bool) : (s.pulseCor b).caches = s.caches := rfl
@[simp] theorem State.pulseCor_pending (s : State) (b : Bool) : (s.pulseCor b).pending = s.pending := rfl
@[simp] theorem State.pulseCor_bus (s : State) (b : Bool) : (s.pulseCor b).bus = { s.bus with corErr := s.bus.corErr || b } :=
  rfl
@[simp] theorem State.pulseCor_jtag (s : State) (b : Bool) : (s.pulseCor b).jtag = s.jtag := rfl
@[simp] theorem State.pulseCor_ctm (s : State) (b : Bool) : (s.pulseCor b).ctm = s.ctm := rfl
@[simp] theorem State.pulseCor_mem (s : State) (b : Bool) : (s.pulseCor b).mem = s.mem := rfl
@[simp] theorem State.pulseCor_ctr (s : State) (b : Bool) : (s.pulseCor b).ctr = s.ctr := rfl
@[simp] theorem State.pulseCor_note (s : State) (b : Bool) : (s.pulseCor b).note = s.note := rfl
@[simp] theorem State.pulseCor_held (s : State) (b : Bool) : (s.pulseCor b).held = s.held := rfl
@[simp] theorem State.pulseCor_params (s : State) (b : Bool) : (s.pulseCor b).params = s.params := rfl

/-! ### setHung -/

@[simp] theorem State.setHung_int (s : State) : s.setHung.int = s.int := rfl
@[simp] theorem State.setHung_pc (s : State) : s.setHung.pc = s.pc := rfl
@[simp] theorem State.setHung_delay (s : State) : s.setHung.delay = s.delay := rfl
@[simp] theorem State.setHung_fp (s : State) : s.setHung.fp = s.fp := rfl
@[simp] theorem State.setHung_link (s : State) : s.setHung.link = s.link := rfl
@[simp] theorem State.setHung_cp0 (s : State) : s.setHung.cp0 = s.cp0 := rfl
@[simp] theorem State.setHung_perf (s : State) : s.setHung.perf = s.perf := rfl
@[simp] theorem State.setHung_tlb (s : State) : s.setHung.tlb = s.tlb := rfl
@[simp] theorem State.setHung_bpt (s : State) : s.setHung.bpt = s.bpt := rfl
@[simp] theorem State.setHung_caches (s : State) : s.setHung.caches = s.caches := rfl
@[simp] theorem State.setHung_pending (s : State) : s.setHung.pending = s.pending := rfl
@[simp] theorem State.setHung_bus (s : State) : s.setHung.bus = { s.bus with hung := true } := rfl
@[simp] theorem State.setHung_jtag (s : State) : s.setHung.jtag = s.jtag := rfl
@[simp] theorem State.setHung_ctm (s : State) : s.setHung.ctm = s.ctm := rfl
@[simp] theorem State.setHung_mem (s : State) : s.setHung.mem = s.mem := rfl
@[simp] theorem State.setHung_ctr (s : State) : s.setHung.ctr = s.ctr := rfl
@[simp] theorem State.setHung_note (s : State) : s.setHung.note = s.note := rfl
@[simp] theorem State.setHung_held (s : State) : s.setHung.held = s.held := rfl
@[simp] theorem State.setHung_params (s : State) : s.setHung.params = s.params := rfl

/-! ### waitHere -/

@[simp] theorem State.waitHere_int (s : State) : s.waitHere.int = s.int := rfl
@[simp] theorem State.waitHere_pc (s : State) : s.waitHere.pc = s.pc := rfl
@[simp] theorem State.waitHere_delay (s : State) : s.waitHere.delay = s.delay := rfl
@[simp] theorem State.waitHere_fp (s : State) : s.waitHere.fp = s.fp := rfl
@[simp] theorem State.waitHere_link (s : State) : s.waitHere.link = s.link := rfl
@[simp] theorem State.waitHere_cp0 (s : State) : s.waitHere.cp0 = s.cp0 := rfl
@[simp] theorem State.waitHere_perf (s : State) : s.waitHere.perf = s.perf := rfl
@[simp] theorem State.waitHere_tlb (s : State) : s.waitHere.tlb = s.tlb := rfl
@[simp] theorem State.waitHere_bpt (s : State) : s.waitHere.bpt = s.bpt := rfl
@[simp] theorem State.waitHere_caches (s : State) : s.waitHere.caches = s.caches := rfl
@[simp] theorem State.waitHere_pending (s : State) : s.waitHere.pending = s.pending := rfl
@[simp] theorem State.waitHere_bus (s : State) : s.waitHere.bus = s.bus := rfl
@[simp] theorem State.waitHere_jtag (s : State) : s.waitHere.jtag = s.jtag := rfl
@[simp] theorem State.waitHere_ctm (s : State) : s.waitHere.ctm = s.ctm := rfl
@[simp] theorem State.waitHere_mem (s : State) : s.waitHere.mem = s.mem := rfl
@[simp] theorem State.waitHere_ctr (s : State) : s.waitHere.ctr = s.ctr := rfl
@[simp] theorem State.waitHere_note (s : State) : s.waitHere.note = .waiting := rfl
@[simp] theorem State.waitHere_held (s : State) : s.waitHere.held = s.held := rfl
@[simp] theorem State.waitHere_params (s : State) : s.waitHere.params = s.params := rfl

/-! ### tick -/

@[simp] theorem State.tick_int (s : State) : s.tick.int = s.int := rfl
@[simp] theorem State.tick_pc (s : State) : s.tick.pc = s.pc := rfl
@[simp] theorem State.tick_delay (s : State) : s.tick.delay = s.delay := rfl
@[simp] theorem State.tick_fp (s : State) : s.tick.fp = s.fp := rfl
@[simp] theorem State.tick_link (s : State) : s.tick.link = s.link := rfl
@[simp] theorem State.tick_perf (s : State) : s.tick.perf = s.perf := rfl
@[simp] theorem State.tick_tlb (s : State) : s.tick.tlb = s.tlb := rfl
@[simp] theorem State.tick_bpt (s : State) : s.tick.bpt = s.bpt := rfl
@[simp] theorem State.tick_caches (s : State) : s.tick.caches = s.caches := rfl
@[simp] theorem State.tick_bus (s : State) : s.tick.bus = { s.bus with corErr := false, uncErr := false, sent := [] } :=
  rfl
@[simp] theorem State.tick_jtag (s : State) : s.tick.jtag = s.jtag := rfl
@[simp] theorem State.tick_ctm (s : State) : s.tick.ctm = s.ctm := rfl
@[simp] theorem State.tick_mem (s : State) : s.tick.mem = s.mem := rfl
@[simp] theorem State.tick_ctr (s : State) : s.tick.ctr = s.ctr + 1 := rfl
@[simp] theorem State.tick_note (s : State) : s.tick.note = .none := rfl
@[simp] theorem State.tick_held (s : State) : s.tick.held = .none := rfl
@[simp] theorem State.tick_params (s : State) : s.tick.params = s.params := rfl

/-! ### holding -/

@[simp] theorem State.holding_int (s : State) (w : Word) : (s.holding w).int = s.int := rfl
@[simp] theorem State.holding_pc (s : State) (w : Word) : (s.holding w).pc = s.pc := rfl
@[simp] theorem State.holding_delay (s : State) (w : Word) : (s.holding w).delay = s.delay := rfl
@[simp] theorem State.holding_fp (s : State) (w : Word) : (s.holding w).fp = s.fp := rfl
@[simp] theorem State.holding_link (s : State) (w : Word) : (s.holding w).link = s.link := rfl
@[simp] theorem State.holding_cp0 (s : State) (w : Word) : (s.holding w).cp0 = s.cp0 := rfl
@[simp] theorem State.holding_perf (s : State) (w : Word) : (s.holding w).perf = s.perf := rfl
@[simp] theorem State.holding_tlb (s : State) (w : Word) : (s.holding w).tlb = s.tlb := rfl
@[simp] theorem State.holding_bpt (s : State) (w : Word) : (s.holding w).bpt = s.bpt := rfl
@[simp] theorem State.holding_caches (s : State) (w : Word) : (s.holding w).caches = s.caches := rfl
@[simp] theorem State.holding_pending (s : State) (w : Word) : (s.holding w).pending = s.pending := rfl
@[simp] theorem State.holding_bus (s : State) (w : Word) : (s.holding w).bus = s.bus := rfl
@[simp] theorem State.holding_jtag (s : State) (w : Word) : (s.holding w).jtag = s.jtag := rfl
@[simp] theorem State.holding_ctm (s : State) (w : Word) : (s.holding w).ctm = s.ctm := rfl
@[simp] theorem State.holding_mem (s : State) (w : Word) : (s.holding w).mem = s.mem := rfl
@[simp] theorem State.holding_ctr (s : State) (w : Word) : (s.holding w).ctr = s.ctr := rfl
@[simp] theorem State.holding_note (s : State) (w : Word) : (s.holding w).note = s.note := rfl
@[simp] theorem State.holding_held (s : State) (w : Word) : (s.holding w).held = if s.note = .waiting then some w else .none :=
  rfl
@[simp] theorem State.holding_params (s : State) (w : Word) : (s.holding w).params = s.params := rfl

/-- An instruction that does not wait is not held. -/
theorem State.holding_eq {s : State} {w : Word} (h : s.held = .none) (n : s.note ≠ .waiting) : s.holding w = s := by
  cases s; cases h; simp [State.holding, n]

@[simp] theorem State.nextWord_none (s : State) : s.nextWord .none = s.fetch := rfl
@[simp] theorem State.nextWord_some (s : State) (w : Word) : s.nextWord (some w) = .ok w s := rfl

/-! ### setGpr -/

/-- What a general-register write is: discarded for GPR[0], else one entry of the file (R31). -/
theorem State.setGpr_eq (s : State) (r : BitVec 5) (v : DWord) :
    s.setGpr r v = { s with int := { s.int with gpr := if r = 0#5 then s.int.gpr else s.int.gpr.set r.toNat v r.isLt } } := by
  unfold State.setGpr
  split <;> simp [*]

@[simp] theorem State.setGpr_zero (s : State) (v : DWord) : s.setGpr 0#5 v = s := rfl

@[simp] theorem State.gpr_zero (s : State) : s.gpr 0#5 = 0#64 := rfl

/-- A read after a write. -/
theorem State.gpr_setGpr (s : State) (r x : BitVec 5) (v : DWord) :
    (s.setGpr r v).gpr x = if x = r ∧ r ≠ 0#5 then v else s.gpr x := by
  by_cases h0 : r = 0#5
  · subst h0; simp
  · by_cases hx : x = 0#5
    · subst hx; simp [State.gpr, Ne.symm h0]
    · simp only [State.gpr, hx, if_false, State.setGpr, h0, not_false_eq_true, and_true, ne_eq]
      by_cases e : x = r
      · subst e; simp
      · have : r.toNat ≠ x.toNat := fun h => e (BitVec.eq_of_toNat_eq h.symm)
        simp [e, Vector.getElem_set_ne, this]

@[simp] theorem State.setGpr_pc (s : State) (r : BitVec 5) (v : DWord) : (s.setGpr r v).pc = s.pc := by
  rw [State.setGpr_eq]
@[simp] theorem State.setGpr_delay (s : State) (r : BitVec 5) (v : DWord) : (s.setGpr r v).delay = s.delay := by
  rw [State.setGpr_eq]
@[simp] theorem State.setGpr_fp (s : State) (r : BitVec 5) (v : DWord) : (s.setGpr r v).fp = s.fp := by
  rw [State.setGpr_eq]
@[simp] theorem State.setGpr_link (s : State) (r : BitVec 5) (v : DWord) : (s.setGpr r v).link = s.link := by
  rw [State.setGpr_eq]
@[simp] theorem State.setGpr_cp0 (s : State) (r : BitVec 5) (v : DWord) : (s.setGpr r v).cp0 = s.cp0 := by
  rw [State.setGpr_eq]
@[simp] theorem State.setGpr_perf (s : State) (r : BitVec 5) (v : DWord) : (s.setGpr r v).perf = s.perf := by
  rw [State.setGpr_eq]
@[simp] theorem State.setGpr_tlb (s : State) (r : BitVec 5) (v : DWord) : (s.setGpr r v).tlb = s.tlb := by
  rw [State.setGpr_eq]
@[simp] theorem State.setGpr_bpt (s : State) (r : BitVec 5) (v : DWord) : (s.setGpr r v).bpt = s.bpt := by
  rw [State.setGpr_eq]
@[simp] theorem State.setGpr_caches (s : State) (r : BitVec 5) (v : DWord) : (s.setGpr r v).caches = s.caches := by
  rw [State.setGpr_eq]
@[simp] theorem State.setGpr_pending (s : State) (r : BitVec 5) (v : DWord) : (s.setGpr r v).pending = s.pending := by
  rw [State.setGpr_eq]
@[simp] theorem State.setGpr_bus (s : State) (r : BitVec 5) (v : DWord) : (s.setGpr r v).bus = s.bus := by
  rw [State.setGpr_eq]
@[simp] theorem State.setGpr_jtag (s : State) (r : BitVec 5) (v : DWord) : (s.setGpr r v).jtag = s.jtag := by
  rw [State.setGpr_eq]
@[simp] theorem State.setGpr_ctm (s : State) (r : BitVec 5) (v : DWord) : (s.setGpr r v).ctm = s.ctm := by
  rw [State.setGpr_eq]
@[simp] theorem State.setGpr_mem (s : State) (r : BitVec 5) (v : DWord) : (s.setGpr r v).mem = s.mem := by
  rw [State.setGpr_eq]
@[simp] theorem State.setGpr_ctr (s : State) (r : BitVec 5) (v : DWord) : (s.setGpr r v).ctr = s.ctr := by
  rw [State.setGpr_eq]
@[simp] theorem State.setGpr_note (s : State) (r : BitVec 5) (v : DWord) : (s.setGpr r v).note = s.note := by
  rw [State.setGpr_eq]
@[simp] theorem State.setGpr_held (s : State) (r : BitVec 5) (v : DWord) : (s.setGpr r v).held = s.held := by
  rw [State.setGpr_eq]
@[simp] theorem State.setGpr_params (s : State) (r : BitVec 5) (v : DWord) : (s.setGpr r v).params = s.params := by
  rw [State.setGpr_eq]

@[simp] theorem State.setGpr_hi (s : State) (r : BitVec 5) (v : DWord) : (s.setGpr r v).int.hi = s.int.hi := by
  rw [State.setGpr_eq]

@[simp] theorem State.setGpr_lo (s : State) (r : BitVec 5) (v : DWord) : (s.setGpr r v).int.lo = s.int.lo := by
  rw [State.setGpr_eq]

/-! ### advance -/

/-- Where a completed instruction leaves the machine: only the pc and the branch-delay state move (R860, R861). -/
theorem State.advance_eq (s : State) :
    s.advance = { s with pc := s.advance.pc, delay := .none } := by
  unfold State.advance
  split <;> rfl

@[simp] theorem State.advance_delay (s : State) : s.advance.delay = .none := by rw [State.advance_eq]

@[simp] theorem State.advance_int (s : State) : s.advance.int = s.int := by rw [State.advance_eq]
@[simp] theorem State.advance_fp (s : State) : s.advance.fp = s.fp := by rw [State.advance_eq]
@[simp] theorem State.advance_link (s : State) : s.advance.link = s.link := by rw [State.advance_eq]
@[simp] theorem State.advance_cp0 (s : State) : s.advance.cp0 = s.cp0 := by rw [State.advance_eq]
@[simp] theorem State.advance_perf (s : State) : s.advance.perf = s.perf := by rw [State.advance_eq]
@[simp] theorem State.advance_tlb (s : State) : s.advance.tlb = s.tlb := by rw [State.advance_eq]
@[simp] theorem State.advance_bpt (s : State) : s.advance.bpt = s.bpt := by rw [State.advance_eq]
@[simp] theorem State.advance_caches (s : State) : s.advance.caches = s.caches := by rw [State.advance_eq]
@[simp] theorem State.advance_pending (s : State) : s.advance.pending = s.pending := by rw [State.advance_eq]
@[simp] theorem State.advance_bus (s : State) : s.advance.bus = s.bus := by rw [State.advance_eq]
@[simp] theorem State.advance_jtag (s : State) : s.advance.jtag = s.jtag := by rw [State.advance_eq]
@[simp] theorem State.advance_ctm (s : State) : s.advance.ctm = s.ctm := by rw [State.advance_eq]
@[simp] theorem State.advance_mem (s : State) : s.advance.mem = s.mem := by rw [State.advance_eq]
@[simp] theorem State.advance_ctr (s : State) : s.advance.ctr = s.ctr := by rw [State.advance_eq]
@[simp] theorem State.advance_note (s : State) : s.advance.note = s.note := by rw [State.advance_eq]
@[simp] theorem State.advance_held (s : State) : s.advance.held = s.held := by rw [State.advance_eq]
@[simp] theorem State.advance_params (s : State) : s.advance.params = s.params := by rw [State.advance_eq]

@[simp] theorem State.advance_gpr (s : State) (r : BitVec 5) : s.advance.gpr r = s.gpr r := by simp [State.gpr]

/-- Outside a delay slot. -/
theorem State.advance_pc_none {s : State} (h : s.delay = .none) : s.advance.pc = s.pc + 4#64 := by
  simp [State.advance, h]

/-- In the slot of a taken branch. -/
theorem State.advance_pc_slot {s : State} {t : DWord} (h : s.delay = .slot (some t)) : s.advance.pc = t := by
  simp [State.advance, h]

end Sys2Proof.Machine
end

