-- ==== Sys2Proof/Laws/Inv.lean ====
section
/-! SUPPORT. The shared operations keep the invariant (`State.Inv`). -/

namespace Sys2Proof.Machine

/-! ## The parts of the invariant -/

/-- The registers the invariant speaks of. -/
structure State.SameBits (s t : State) : Prop where
  zero : s.cp0.reservedZero = true → t.cp0.reservedZero = true
  random : s.cp0.randomInRange = true → t.cp0.randomInRange = true
  control : s.controlReservedZero = true → t.controlReservedZero = true
  wf : s.canonical = true → t.canonical = true

theorem State.SameBits.inv {s t : State} (k : s.SameBits t) (h : s.Inv) : t.Inv :=
  ⟨k.wf h.1, k.zero h.2.1, k.random h.2.2.1, k.control h.2.2.2⟩

theorem State.SameBits.refl (s : State) : s.SameBits s := ⟨id, id, id, id⟩

theorem State.SameBits.trans {s t u : State} (h : s.SameBits t) (k : t.SameBits u) : s.SameBits u :=
  ⟨k.zero ∘ h.zero, k.random ∘ h.random, k.control ∘ h.control, k.wf ∘ h.wf⟩

theorem State.SameBits.ite {s t u : State} {c : Prop} [Decidable c] (h : s.SameBits t) (k : s.SameBits u) :
    s.SameBits (if c then t else u) := by split <;> assumption

/-- Nothing the invariant speaks of differs. -/
theorem State.SameBits.of_eq {s t : State} (h1 : t.cp0 = s.cp0) (h2 : t.fp.fsr = s.fp.fsr) (h3 : t.perf.ctl0 = s.perf.ctl0)
    (h4 : t.perf.ctl1 = s.perf.ctl1) (h5 : t.mem = s.mem) (h6 : t.caches = s.caches) (h7 : t.bpt = s.bpt) : s.SameBits t := by
  constructor
  · rw [h1]; exact id
  · rw [h1]; exact id
  · unfold State.controlReservedZero; rw [h2, h3, h4]; exact id
  · unfold State.canonical; rw [h5, h6, h7]; exact id

/-- Only CP0 differs. -/
theorem State.SameBits.of_cp0 {s t : State} (h0 : s.cp0.reservedZero = true → t.cp0.reservedZero = true)
    (h1 : s.cp0.randomInRange = true → t.cp0.randomInRange = true) (h2 : t.fp.fsr = s.fp.fsr) (h3 : t.perf.ctl0 = s.perf.ctl0)
    (h4 : t.perf.ctl1 = s.perf.ctl1) (h5 : t.mem = s.mem) (h6 : t.caches = s.caches) (h7 : t.bpt = s.bpt) : s.SameBits t := by
  constructor
  · exact h0
  · exact h1
  · unfold State.controlReservedZero; rw [h2, h3, h4]; exact id
  · unfold State.canonical; rw [h5, h6, h7]; exact id

/-- What moves only storage keeps the invariant. -/
theorem State.Keeps.sameBits {s t : State} (h : s.Keeps t) : s.SameBits t := by
  refine ⟨?_, ?_, ?_, h.wf⟩
  · rw [h.core.cp0]; exact id
  · rw [h.core.cp0]; exact id
  · unfold State.controlReservedZero; rw [h.core.fp, h.core.perf]; exact id

/-- The reserved bits, one register at a time. -/
theorem Cp0.reservedZero_iff (c : Cp0) : c.reservedZero = true ↔
    c.index &&& 0x7FFFFFC0#32 = 0#32 ∧ c.entryLo0 &&& 0x3FFFFFFC00000000#64 = 0#64 ∧
    c.entryLo1 &&& 0x3FFFFFFC00000000#64 = 0#64 ∧ c.context &&& 0xF#64 = 0#64 ∧ c.pageMask &&& 0xFE001FFF#32 = 0#32 ∧
    c.entryHi &&& 0x3FFFF00000001F00#64 = 0#64 ∧ c.status &&& 0x01800000#32 = 0#32 ∧ c.watchLo &&& 0x4#32 = 0#32 ∧
    c.watchHi &&& 0xFFFFFF00#32 = 0#32 ∧ c.xContext &&& 0xF#64 = 0#64 ∧ c.frameMask &&& 0xFFFF0000#32 = 0#32 ∧
    c.ecc &&& 0xFFFFFC00#32 = 0#32 := by
  simp only [Cp0.reservedZero, Bool.and_eq_true, beq_iff_eq, and_assoc]

/-- A write of a bit of Status that is not reserved. -/
theorem Cp0.status_putBit {w : Word} (i : Nat) (b : Bool) (h : (0x01800000#32).getLsbD i = false)
    (k : w &&& 0x01800000#32 = 0#32) : putBit w i b &&& 0x01800000#32 = 0#32 := by rw [putBit_and _ _ _ _ h, k]

/-! ## Registers and moving on -/

theorem State.setGpr_sameBits (s : State) (r : BitVec 5) (v : DWord) : s.SameBits (s.setGpr r v) := by
  unfold State.setGpr; exact .ite (.refl s) (.of_eq rfl rfl rfl rfl rfl rfl rfl)

theorem State.advance_sameBits (s : State) : s.SameBits s.advance := by
  rw [State.advance_eq]; exact .of_eq rfl rfl rfl rfl rfl rfl rfl

theorem State.setStatus_sameBits (s : State) (w : Word)
    (h : s.cp0.status &&& 0x01800000#32 = 0#32 → w &&& 0x01800000#32 = 0#32) : s.SameBits (s.setStatus w) := by
  refine .of_cp0 ?_ id rfl rfl rfl rfl rfl rfl
  rw [Cp0.reservedZero_iff, Cp0.reservedZero_iff]
  rintro ⟨a, b, c, d, e, f, g, i⟩
  exact ⟨a, b, c, d, e, f, h g, i⟩

/-! ## Exceptions -/

theorem State.enter_sameBits (s : State) (code : BitVec 5) (ce : BitVec 2) (o : DWord) (r : Bool) :
    s.SameBits (s.enter code ce o r) := by
  refine .of_cp0 ?_ id rfl rfl rfl rfl rfl rfl
  rw [Cp0.reservedZero_iff, Cp0.reservedZero_iff]
  rintro ⟨a, b, c, d, e, f, g, i⟩
  exact ⟨a, b, c, d, e, f, Cp0.status_putBit 1 true (by decide) g, i⟩

theorem State.takeException_sameBits (s : State) (code : BitVec 5) : s.SameBits (s.takeException code) := s.enter_sameBits ..

theorem State.coprocessorUnusable_sameBits (s : State) (n : BitVec 2) : s.SameBits (s.coprocessorUnusable n) := s.enter_sameBits ..

theorem State.setTlbFault_sameBits (s : State) (va : DWord) : s.SameBits (s.setTlbFault va) := by
  refine .of_cp0 ?_ id rfl rfl rfl rfl rfl rfl
  rw [Cp0.reservedZero_iff, Cp0.reservedZero_iff]
  rintro ⟨a, b, c, d, e, f, g, i, j, k, l⟩
  refine ⟨a, b, c, ?_, e, ?_, g, i, j, ?_, l⟩
  · refine (putField_and _ _ _ _ fun i h1 h2 => ?_).trans d
    have : ∀ i < 23, 4 ≤ i → (0xF#64).getLsbD i = false := by decide
    exact this i (by omega) h1
  · refine (putField_and _ _ _ _ fun i h1 h2 => ?_).trans ((putField_and _ _ _ _ fun i h1 h2 => ?_).trans f)
    · have : ∀ i < 64, 62 ≤ i → (0x3FFFF00000001F00#64).getLsbD i = false := by decide
      exact this i (by omega) h1
    · have : ∀ i < 44, 13 ≤ i → (0x3FFFF00000001F00#64).getLsbD i = false := by decide
      exact this i (by omega) h1
  · refine (putField_and _ _ _ _ fun i h1 h2 => ?_).trans k
    have : ∀ i < 37, 4 ≤ i → (0xF#64).getLsbD i = false := by decide
    exact this i (by omega) h1

theorem State.tlbRefill_sameBits (s : State) (st : Bool) (va : DWord) : s.SameBits (s.tlbRefill st va) :=
  (s.setTlbFault_sameBits va).trans (State.enter_sameBits ..)

theorem State.tlbInvalid_sameBits (s : State) (st : Bool) (va : DWord) : s.SameBits (s.tlbInvalid st va) :=
  (s.setTlbFault_sameBits va).trans (State.takeException_sameBits ..)

theorem State.tlbModified_sameBits (s : State) (va : DWord) : s.SameBits (s.tlbModified va) :=
  (s.setTlbFault_sameBits va).trans (State.takeException_sameBits ..)

theorem State.addressError_sameBits (s : State) (st : Bool) (va : DWord) : s.SameBits (s.addressError st va) := by
  refine State.SameBits.trans ?_ (State.takeException_sameBits _ (if st then excAdes else excAdel))
  refine .of_cp0 ?_ id rfl rfl rfl rfl rfl rfl
  rw [Cp0.reservedZero_iff, Cp0.reservedZero_iff]
  rintro ⟨a, b, c, d, e, f, g, i, j, k, l⟩
  refine ⟨a, b, c, ?_, e, ?_, g, i, j, ?_, l⟩
  · refine (putField_and _ _ _ _ fun i h1 h2 => ?_).trans d
    have : ∀ i < 23, 4 ≤ i → (0xF#64).getLsbD i = false := by decide
    exact this i (by omega) h1
  · refine (putField_and _ _ _ _ fun i h1 h2 => ?_).trans ((putField_and _ _ _ _ fun i h1 h2 => ?_).trans f)
    · have : ∀ i < 64, 62 ≤ i → (0x3FFFF00000001F00#64).getLsbD i = false := by decide
      exact this i (by omega) h1
    · have : ∀ i < 44, 13 ≤ i → (0x3FFFF00000001F00#64).getLsbD i = false := by decide
      exact this i (by omega) h1
  · refine (putField_and _ _ _ _ fun i h1 h2 => ?_).trans k
    have : ∀ i < 37, 4 ≤ i → (0xF#64).getLsbD i = false := by decide
    exact this i (by omega) h1

theorem State.takeCacheError_sameBits (s : State) : s.SameBits s.takeCacheError := by
  refine .of_cp0 ?_ id rfl rfl rfl rfl rfl rfl
  rw [Cp0.reservedZero_iff, Cp0.reservedZero_iff]
  rintro ⟨a, b, c, d, e, f, g, i⟩
  exact ⟨a, b, c, d, e, f, Cp0.status_putBit 2 true (by decide) g, i⟩

/-- Every exception a reference takes keeps the invariant. -/
theorem State.Trapped.sameBits {s t : State} (h : s.Trapped t) : s.SameBits t := by
  cases h with
  | exception h c => exact h.sameBits.trans (State.takeException_sameBits ..)
  | cacheError h => exact h.sameBits.trans (State.takeCacheError_sameBits _)
  | wait h => exact h.sameBits.trans (.of_eq rfl rfl rfl rfl rfl rfl rfl)
  | addressError h st va => exact h.sameBits.trans (State.addressError_sameBits ..)
  | refill h st va => exact h.sameBits.trans (State.tlbRefill_sameBits ..)
  | invalid h st va => exact h.sameBits.trans (State.tlbInvalid_sameBits ..)
  | modified h va => exact h.sameBits.trans (State.tlbModified_sameBits ..)

theorem resetStatus_and {w : Word} (b : Bool) (h : w &&& 0x01800000#32 = 0#32) : resetStatus w b &&& 0x01800000#32 = 0#32 := by
  unfold resetStatus
  iterate 5 apply Cp0.status_putBit _ _ (by decide)
  exact h

theorem State.nmi_sameBits (s : State) : s.SameBits s.nmi := by
  refine .of_cp0 ?_ id rfl rfl rfl rfl rfl rfl
  rw [Cp0.reservedZero_iff, Cp0.reservedZero_iff]
  rintro ⟨a, b, c, d, e, f, g, i⟩
  exact ⟨a, b, c, d, e, f, resetStatus_and true g, i⟩

theorem State.softReset_sameBits (s : State) : s.SameBits s.softReset := by
  refine .of_cp0 ?_ id rfl rfl rfl rfl rfl rfl
  rw [Cp0.reservedZero_iff, Cp0.reservedZero_iff]
  rintro ⟨a, b, c, d, e, f, g, i⟩
  exact ⟨a, b, c, d, e, f, resetStatus_and false g, i⟩

theorem State.coldReset_sameBits (s : State) (m : DWord) : s.SameBits (s.coldReset m) := by
  constructor
  · rw [Cp0.reservedZero_iff, Cp0.reservedZero_iff]
    rintro ⟨a, b, c, d, e, f, g, i, j, k, l, n⟩
    refine ⟨a, b, c, d, e, f, ?_, i, j, k, BitVec.zero_and, n⟩
    show putBit (putBit (putBit (putBit s.cp0.status 20 false) 21 false) 2 true) 22 true &&& 0x01800000#32 = 0#32
    iterate 4 apply Cp0.status_putBit _ _ (by decide)
    exact g
  · intro _; rfl
  · unfold State.controlReservedZero
    simp only [Bool.and_eq_true, beq_iff_eq]
    rintro ⟨⟨a, b⟩, c⟩
    have z : ∀ i < 9, 5 ≤ i → (0xFFFFFE00#32).getLsbD i = false := by decide
    refine ⟨⟨a, ?_⟩, ?_⟩
    · exact (putField_and _ _ _ _ fun i h1 h2 => z i (by omega) h1).trans b
    · exact (putField_and _ _ _ _ fun i h1 h2 => z i (by omega) h1).trans c
  · rw [State.canonical_iff, State.canonical_iff]
    rintro ⟨a, _, c⟩
    exact ⟨a, rfl, c⟩

theorem State.exceptionReturn_sameBits (s : State) : s.SameBits s.exceptionReturn := by
  unfold State.exceptionReturn
  refine .ite ?_ ?_
  · exact (s.setStatus_sameBits _ (Cp0.status_putBit 2 false (by decide))).trans (.of_eq rfl rfl rfl rfl rfl rfl rfl)
  · exact (s.setStatus_sameBits _ (Cp0.status_putBit 1 false (by decide))).trans (.of_eq rfl rfl rfl rfl rfl rfl rfl)

/-! ## Time and the counters -/

theorem State.nextRandom_range (s : State) : s.cp0.wired.toNat ≤ s.nextRandom.toNat := by
  unfold State.nextRandom
  have h := s.cp0.wired.isLt
  have k := Nat.mod_lt (Config.randomDraw s.ctr).toNat (y := 64 - s.cp0.wired.toNat) (by omega)
  rw [BitVec.toNat_ofNat, Nat.mod_eq_of_lt (by omega)]
  omega

theorem State.tick_sameBits (s : State) : s.SameBits s.tick := by
  refine .of_cp0 ?_ ?_ rfl rfl rfl rfl rfl rfl
  · rw [Cp0.reservedZero_iff, Cp0.reservedZero_iff]; exact id
  · intro _; exact decide_eq_true ({ s with ctr := s.ctr + 1 } : State).nextRandom_range

theorem State.countEvents_sameBits (s0 : State) (k : Option CountKind) (s : State) : s.SameBits (s0.countEvents k s) :=
  .of_eq rfl rfl rfl rfl rfl rfl rfl

/-- The event taken instead of an instruction. -/
theorem State.pendingEvent_sameBits {s t : State} (h : s.pendingEvent = some t) : s.SameBits t := by
  unfold State.pendingEvent at h
  split at h
  · cases h; exact s.coldReset_sameBits _
  · split at h
    · cases h; exact s.softReset_sameBits
    · split at h
      · cases h; exact .of_eq rfl rfl rfl rfl rfl rfl rfl
      · split at h
        · cases h; exact s.nmi_sameBits
        · split at h
          · cases h; exact s.takeCacheError_sameBits
          · split at h
            · cases h; exact s.takeException_sameBits _
            · split at h
              · cases h
                exact State.SameBits.trans (t := s.clearWatch) (.of_eq rfl rfl rfl rfl rfl rfl rfl)
                  (State.takeException_sameBits ..)
              · cases h

/-! ## CP0 and the TLB -/

/-- An EntryLo word has its reserved bits zero. -/
theorem entryLo_zero (u : BitVec 2) (p : BitVec 28) (c : BitVec 3) (d v g : BitVec 1) :
    ((u ++ 0#28 ++ p ++ c ++ d ++ v ++ g : BitVec (2+28+28+3+1+1+1)) : DWord) &&& 0x3FFFFFFC00000000#64 = 0#64 := by
  apply BitVec.eq_of_getLsbD_eq
  intro i hi
  have m : ∀ i < 64, (0x3FFFFFFC00000000#64).getLsbD i = decide (34 ≤ i ∧ i < 62) := by decide
  rw [BitVec.getLsbD_and, m i hi]
  by_cases h : 34 ≤ i ∧ i < 62
  · have e : BitVec.getLsbD (w := 2+28+28+3+1+1+1) (u ++ 0#28 ++ p ++ c ++ d ++ v ++ g) i = false := by
      simp only [BitVec.getLsbD_append]
      rw [if_neg (by omega), if_neg (by omega), if_neg (by omega), if_neg (by omega), if_neg (by omega), if_pos (by omega)]
      simp
    have e2 : BitVec.getLsbD (w := 64) (u ++ 0#28 ++ p ++ c ++ d ++ v ++ g) i = false := e
    rw [e2]; simp
  · simp [h]

/-- An EntryHi word has. -/
theorem entryHi_zero (r : BitVec 2) (v : BitVec 31) (a : BitVec 8) :
    ((r ++ 0#18 ++ v ++ 0#5 ++ a : BitVec (2+18+31+5+8)) : DWord) &&& 0x3FFFF00000001F00#64 = 0#64 := by
  apply BitVec.eq_of_getLsbD_eq
  intro i hi
  have m : ∀ i < 64, (0x3FFFF00000001F00#64).getLsbD i = decide ((8 ≤ i ∧ i < 13) ∨ (44 ≤ i ∧ i < 62)) := by decide
  rw [BitVec.getLsbD_and, m i hi]
  by_cases h : (8 ≤ i ∧ i < 13) ∨ (44 ≤ i ∧ i < 62)
  · have e : BitVec.getLsbD (w := 2+18+31+5+8) (r ++ 0#18 ++ v ++ 0#5 ++ a) i = false := by
      simp only [BitVec.getLsbD_append]
      rcases h with h | h
      · rw [if_neg (by omega), if_pos (by omega)]; simp
      · rw [if_neg (by omega), if_neg (by omega), if_neg (by omega), if_pos (by omega)]; simp
    have e2 : BitVec.getLsbD (w := 64) (r ++ 0#18 ++ v ++ 0#5 ++ a) i = false := e
    rw [e2]; simp
  · simp [h]

/-- A PageMask word has. -/
theorem pageMask_zero (m : BitVec 12) : ((0#7 ++ m ++ 0#13 : BitVec (7+12+13)) : Word) &&& 0xFE001FFF#32 = 0#32 := by
  apply BitVec.eq_of_getLsbD_eq
  intro i hi
  have k : ∀ i < 32, (0xFE001FFF#32).getLsbD i = decide (i < 13 ∨ 25 ≤ i) := by decide
  rw [BitVec.getLsbD_and, k i hi]
  by_cases h : i < 13 ∨ 25 ≤ i
  · have e : BitVec.getLsbD (w := 7+12+13) (0#7 ++ m ++ 0#13) i = false := by
      simp only [BitVec.getLsbD_append]
      rcases h with h | h
      · rw [if_pos (by omega)]; simp
      · rw [if_neg (by omega), if_neg (by omega)]; simp
    have e2 : BitVec.getLsbD (w := 32) (0#7 ++ m ++ 0#13) i = false := e
    rw [e2]; simp
  · simp [h]

theorem State.tlbProbe_sameBits (s : State) : s.SameBits s.tlbProbe := by
  refine .of_cp0 ?_ id rfl rfl rfl rfl rfl rfl
  rw [Cp0.reservedZero_iff, Cp0.reservedZero_iff]
  rintro ⟨_, b⟩
  refine ⟨?_, b⟩
  show (match pickMatch (Config.tlbPick s.ctr) s.probeMatches with
    | some j => BitVec.ofNat 32 j.val
    | .none => 1#1 ++ 0#25 ++ Config.probeIndex s.ctr) &&& 0x7FFFFFC0#32 = 0#32
  split
  · next j _ =>
    have : ∀ j : Fin 64, BitVec.ofNat 32 j.val &&& 0x7FFFFFC0#32 = 0#32 := by decide
    exact this j
  · generalize Config.probeIndex s.ctr = x
    revert x; decide

theorem State.tlbWrite_sameBits (s : State) (i : BitVec 6) : s.SameBits (s.tlbWrite i) := by
  refine .of_cp0 ?_ id rfl rfl rfl rfl rfl rfl
  rw [Cp0.reservedZero_iff, Cp0.reservedZero_iff]
  rintro ⟨a, b, c, d, e, f, g, i⟩
  refine ⟨a, b, c, d, e, f, ?_, i⟩
  unfold State.tlbWrite
  dsimp only
  split
  · exact Cp0.status_putBit 21 true (by decide) g
  · exact g

theorem State.tlbRead_sameBits (s : State) : s.SameBits s.tlbRead := by
  refine .of_cp0 ?_ id rfl rfl rfl rfl rfl rfl
  rw [Cp0.reservedZero_iff, Cp0.reservedZero_iff]
  rintro ⟨a, _, _, d, _, _, g⟩
  exact ⟨a, entryLo_zero .., entryLo_zero .., d, pageMask_zero _, entryHi_zero .., g⟩

theorem State.setTimer_sameBits (s : State) (b : Bool) : s.SameBits (s.setTimer b) := .of_eq rfl rfl rfl rfl rfl rfl rfl

theorem State.setBpt_sameBits (s : State) (i : Nat) (b : BitVec 2) : s.SameBits (s.setBpt i b) := by
  refine ⟨id, id, id, ?_⟩
  rw [State.canonical_iff, State.canonical_iff]
  rintro ⟨a, k, c⟩
  exact ⟨a, Sparse.wf_set k _ _, c⟩

theorem State.initBptLine_sameBits (s : State) (i : Nat) (b : BitVec 2) (n : Nat) : s.SameBits (s.initBptLine i b n) := by
  induction n generalizing s with
  | zero => exact .refl s
  | succ n ih => exact (s.setBpt_sameBits _ b).trans (ih _)

/-- A change of CP0 outside the registers with reserved bits and the bounds of Random. -/
theorem State.SameBits.of_free {s t : State} (h0 : t.cp0.reservedZero = s.cp0.reservedZero)
    (h1 : t.cp0.randomInRange = s.cp0.randomInRange) (h2 : t.fp.fsr = s.fp.fsr) (h3 : t.perf.ctl0 = s.perf.ctl0)
    (h4 : t.perf.ctl1 = s.perf.ctl1) (h5 : t.mem = s.mem) (h6 : t.caches = s.caches) (h7 : t.bpt = s.bpt) : s.SameBits t :=
  .of_cp0 (by rw [h0]; exact id) (by rw [h1]; exact id) h2 h3 h4 h5 h6 h7

theorem State.bptOperation_sameBits (s : State) : s.SameBits s.bptOperation := by
  unfold State.bptOperation
  dsimp only
  split
  · exact .ite (.of_free rfl rfl rfl rfl rfl rfl rfl rfl) (.of_free rfl rfl rfl rfl rfl rfl rfl rfl)
  · exact s.setBpt_sameBits _ _
  · exact s.initBptLine_sameBits _ _ _
  · exact s.initBptLine_sameBits _ _ _

theorem State.setDiagnostic_sameBits (s : State) (v : DWord) : s.SameBits (s.setDiagnostic v) := by
  unfold State.setDiagnostic
  refine State.SameBits.trans ?_ (State.bptOperation_sameBits _)
  exact .of_free rfl rfl rfl rfl rfl rfl rfl rfl

theorem State.setPerfControl_sameBits (s : State) (r : BitVec 5) (w : Word) : s.SameBits (s.setPerfControl r w) := by
  have z : w &&& 0x000001FF#32 &&& 0xFFFFFE00#32 = 0#32 := and_and_zero _ _ _ (by decide)
  unfold State.setPerfControl
  split
  · refine ⟨id, id, ?_, id⟩
    unfold State.controlReservedZero
    simp only [Bool.and_eq_true, beq_iff_eq]
    rintro ⟨⟨a, _⟩, c⟩
    exact ⟨⟨a, z⟩, c⟩
  · refine ⟨id, id, ?_, id⟩
    unfold State.controlReservedZero
    simp only [Bool.and_eq_true, beq_iff_eq]
    rintro ⟨⟨a, b⟩, _⟩
    exact ⟨⟨a, b⟩, z⟩

theorem State.setPerfCounter_sameBits (s : State) (r : BitVec 5) (w : Word) : s.SameBits (s.setPerfCounter r w) := by
  unfold State.setPerfCounter
  exact .ite (.of_eq rfl rfl rfl rfl rfl rfl rfl) (.of_eq rfl rfl rfl rfl rfl rfl rfl)

/-- A write of one register with reserved bits. -/
theorem State.reserved_step {s t : State} (h : s.cp0.reservedZero = true → t.cp0.reservedZero = true)
    (h1 : t.cp0.random = s.cp0.random) (h2 : t.cp0.wired = s.cp0.wired) (h3 : t.fp = s.fp) (h4 : t.perf = s.perf)
    (h5 : t.mem = s.mem) (h6 : t.caches = s.caches) (h7 : t.bpt = s.bpt) : s.SameBits t := by
  refine .of_cp0 h ?_ (by rw [h3]) (by rw [h4]) (by rw [h4]) h5 h6 h7
  unfold Cp0.randomInRange
  rw [h1, h2]
  exact id

/-- A write of a CP0 register, through its mask. -/
theorem State.cp0Write_sameBits (s : State) (n : BitVec 5) (v : DWord) : s.SameBits (s.cp0Write n v) := by
  unfold State.cp0Write
  dsimp only
  split
  · refine State.reserved_step ?_ rfl rfl rfl rfl rfl rfl rfl
    rw [Cp0.reservedZero_iff, Cp0.reservedZero_iff]
    rintro ⟨a, b⟩
    exact ⟨(mergeMask_and _ _ _ _ (by decide)).trans a, b⟩
  · refine State.reserved_step ?_ rfl rfl rfl rfl rfl rfl rfl
    rw [Cp0.reservedZero_iff, Cp0.reservedZero_iff]
    rintro ⟨a, _, c⟩
    exact ⟨a, and_and_zero _ _ _ (by decide), c⟩
  · refine State.reserved_step ?_ rfl rfl rfl rfl rfl rfl rfl
    rw [Cp0.reservedZero_iff, Cp0.reservedZero_iff]
    rintro ⟨a, b, _, c⟩
    exact ⟨a, b, and_and_zero _ _ _ (by decide), c⟩
  · refine State.reserved_step ?_ rfl rfl rfl rfl rfl rfl rfl
    rw [Cp0.reservedZero_iff, Cp0.reservedZero_iff]
    rintro ⟨a, b, c, d, e⟩
    exact ⟨a, b, c, (mergeMask_and _ _ _ _ (by decide)).trans d, e⟩
  · refine State.reserved_step ?_ rfl rfl rfl rfl rfl rfl rfl
    rw [Cp0.reservedZero_iff, Cp0.reservedZero_iff]
    rintro ⟨a, b, c, d, _, e⟩
    exact ⟨a, b, c, d, and_and_zero _ _ _ (by decide), e⟩
  · refine .of_cp0 id ?_ rfl rfl rfl rfl rfl rfl
    intro _
    exact decide_eq_true (Nat.le_of_lt_succ (v.extractLsb' 0 6).isLt)
  · exact .of_free rfl rfl rfl rfl rfl rfl rfl rfl
  · refine State.reserved_step ?_ rfl rfl rfl rfl rfl rfl rfl
    rw [Cp0.reservedZero_iff, Cp0.reservedZero_iff]
    rintro ⟨a, b, c, d, e, _, f⟩
    exact ⟨a, b, c, d, e, and_and_zero _ _ _ (by decide), f⟩
  · exact .of_free rfl rfl rfl rfl rfl rfl rfl rfl
  · exact s.setStatus_sameBits _ fun _ => and_and_zero _ _ _ (by decide)
  · exact .of_free rfl rfl rfl rfl rfl rfl rfl rfl
  · exact .of_free rfl rfl rfl rfl rfl rfl rfl rfl
  · exact .of_free rfl rfl rfl rfl rfl rfl rfl rfl
  · exact .of_free rfl rfl rfl rfl rfl rfl rfl rfl
  · refine State.reserved_step ?_ rfl rfl rfl rfl rfl rfl rfl
    rw [Cp0.reservedZero_iff, Cp0.reservedZero_iff]
    rintro ⟨a, b, c, d, e, f, g, _, h⟩
    exact ⟨a, b, c, d, e, f, g, and_and_zero _ _ _ (by decide), h⟩
  · refine State.reserved_step ?_ rfl rfl rfl rfl rfl rfl rfl
    rw [Cp0.reservedZero_iff, Cp0.reservedZero_iff]
    rintro ⟨a, b, c, d, e, f, g, h, _, i⟩
    exact ⟨a, b, c, d, e, f, g, h, and_and_zero _ _ _ (by decide), i⟩
  · refine State.reserved_step ?_ rfl rfl rfl rfl rfl rfl rfl
    rw [Cp0.reservedZero_iff, Cp0.reservedZero_iff]
    rintro ⟨a, b, c, d, e, f, g, h, i, j, k⟩
    exact ⟨a, b, c, d, e, f, g, h, i, (mergeMask_and _ _ _ _ (by decide)).trans j, k⟩
  · refine State.reserved_step ?_ rfl rfl rfl rfl rfl rfl rfl
    rw [Cp0.reservedZero_iff, Cp0.reservedZero_iff]
    rintro ⟨a, b, c, d, e, f, g, h, i, j, _, k⟩
    exact ⟨a, b, c, d, e, f, g, h, i, j, and_and_zero _ _ _ (by decide), k⟩
  · exact s.setDiagnostic_sameBits v
  · exact s.setPerfControl_sameBits 0#5 _
  · refine State.reserved_step ?_ rfl rfl rfl rfl rfl rfl rfl
    rw [Cp0.reservedZero_iff, Cp0.reservedZero_iff]
    rintro ⟨a, b, c, d, e, f, g, h, i, j, k, _⟩
    exact ⟨a, b, c, d, e, f, g, h, i, j, k, and_and_zero _ _ _ (by decide)⟩
  · exact .of_free rfl rfl rfl rfl rfl rfl rfl rfl
  · exact .of_free rfl rfl rfl rfl rfl rfl rfl rfl
  · exact .of_free rfl rfl rfl rfl rfl rfl rfl rfl
  · exact .refl s

/-! ## Floating point -/

/-- A write of the FSR that leaves its reserved bits alone. -/
theorem State.setFsr_sameBits (s : State) (w : Word)
    (h : s.fp.fsr &&& 0x007C0000#32 = 0#32 → w &&& 0x007C0000#32 = 0#32) : s.SameBits (s.setFsr w) := by
  refine ⟨id, id, ?_, id⟩
  unfold State.controlReservedZero
  simp only [Bool.and_eq_true, beq_iff_eq]
  rintro ⟨⟨a, b⟩, c⟩
  exact ⟨⟨h a, b⟩, c⟩

theorem fsrCause_and (w : Word) (c : FpStatus) : fsrCause w c &&& 0x007C0000#32 = w &&& 0x007C0000#32 := by
  refine putField_and _ _ _ _ fun i h1 h2 => ?_
  have : ∀ i < 18, (0x007C0000#32).getLsbD i = false := by decide
  exact this i h2

theorem fsrFlags_and (w : Word) (c : FpStatus) : fsrFlags w c &&& 0x007C0000#32 = w &&& 0x007C0000#32 := by
  refine putField_and _ _ _ _ fun i h1 h2 => ?_
  have : ∀ i < 18, (0x007C0000#32).getLsbD i = false := by decide
  exact this i (by omega)

theorem State.setCondition_sameBits (s : State) (cc : BitVec 3) (b : Bool) : s.SameBits (s.setCondition cc b) := by
  refine s.setFsr_sameBits _ fun h => (putBit_and _ _ _ _ ?_).trans h
  revert cc
  decide

theorem State.setFpr_sameBits (s : State) (n : BitVec 5) (v : DWord) : s.SameBits (s.setFpr n v) :=
  .of_eq rfl rfl rfl rfl rfl rfl rfl

theorem State.setFpr32_sameBits (s : State) (n : BitVec 5) (w : Word) : s.SameBits (s.setFpr32 n w) := by
  unfold State.setFpr32
  exact .ite (s.setFpr_sameBits ..) (.ite (s.setFpr_sameBits ..) (s.setFpr_sameBits ..))

theorem State.result_sameBits (s : State) (f : Fmt) (n : BitVec 5) (v : DWord) : s.SameBits (s.result f n v) := by
  cases f <;> exact s.setFpr_sameBits ..

/-! ## Branches -/

theorem State.completeBptRead_sameBits (s : State) : s.SameBits s.completeBptRead := by
  unfold State.completeBptRead
  exact .ite (.of_free rfl rfl rfl rfl rfl rfl rfl rfl) (.refl s)

theorem State.predict_sameBits (s : State) : s.SameBits s.predict := by
  unfold State.predict
  refine .ite ?_ (.refl s)
  exact (s.setBpt_sameBits _ _).trans (.of_free rfl rfl rfl rfl rfl rfl rfl rfl)

end Sys2Proof.Machine
end

