-- ==== Sys2Proof/Laws/Speculation.lean ====
section
/-! SUPPORT. What speculation can do: only storage and the answers of the external agent move. -/

namespace Sys2Proof.Machine

theorem State.refill_keeps (s : State) (k : Access) (h : BitVec 5) (va : DWord) : s.Keeps (s.refill k h va) := by
  unfold State.refill
  dsimp only
  split
  · split
    · split
      · exact .ite (State.dEnsure_keeps ..).stateOr (.refl s)
      · exact (State.iEnsure_keeps ..).stateOr
      · exact ((State.dEnsure_keeps ..).bind fun _ t => .ok (State.own_keeps ..)).stateOr
      · exact (State.dEnsure_keeps ..).stateOr
    · exact .refl s
  · exact .refl s

/-- What a speculated refill can do. -/
theorem State.speculate_keeps (s : State) (k : Access) (h : BitVec 5) (va : DWord) : s.Keeps (s.speculate k h va) :=
  ((s.setReplies_keeps _).trans (State.refill_keeps _ _ _ _)).trans (State.setReplies_keeps _ _)

end Sys2Proof.Machine
end

