-- ==== Sys2Proof/Tests/Slice0.lean ====
section
/-! SUPPORT. Tests of the model: ill-formed instructions, words written out from the encoding tables, vectors of
spec/95_test_vectors.md (named by their row; an address in kseg0 is moved to kseg1, because a cached path depends on free
values), and for each obligation a witness of its hypotheses. -/

noncomputable section

namespace Sys2Proof.Tests

open Sys2Proof.Machine

set_option maxRecDepth 20000
set_option Elab.async false

/-! ## Well-formedness -/

/-- Register 25 is reached by MFPS and MTPS only (R590). -/
theorem test_illformed_cp0_move : (Instr.mfc0 2 25).wellFormed = false ∧ (Instr.mtc0 2 25).wellFormed = false := by decide

/-- "only register 0 and 1 are valid" (R590). -/
theorem test_illformed_performance_register :
    (Instr.mfps 2 2).wellFormed = false ∧ (Instr.mfpc 2 2).wellFormed = false ∧
    (Instr.mtps 2 31).wellFormed = false ∧ (Instr.mtpc 2 31).wellFormed = false := by decide

/-- JALR with rd = rs is forbidden (R873). -/
theorem test_illformed_jalr : (Instr.jalr 5 5).wellFormed = false := by decide

/-- A linking branch on r31 is forbidden (R881, R882). -/
theorem test_illformed_link_branch :
    (Instr.bltzal 31 4).wellFormed = false ∧ (Instr.bgezal 31 4).wellFormed = false ∧
    (Instr.bltzall 31 4).wellFormed = false ∧ (Instr.bgezall 31 4).wellFormed = false := by decide

/-- And the same instructions with other operands are well-formed. -/
theorem test_wellformed :
    (Instr.mfc0 2 24).wellFormed = true ∧ (Instr.mtc0 2 26).wellFormed = true ∧ (Instr.mfps 2 1).wellFormed = true ∧
    (Instr.jalr 5 31).wellFormed = true ∧ (Instr.bltzal 30 4).wellFormed = true := by decide

/-! ## Decoding: words written out bit by bit from the encodings of spec/30 and of each instruction's rule -/

/-- The word decodes to the instruction, and the instruction encodes to the word. -/
def reads (w : Word) (i : Instr) : Bool := decide (decode w = .instr i) && decide (encode i = w)

theorem test_decode_integer_1 : ∀ p ∈ ([
    (0b00100010001001101000000000000110, .addi 17 6 0x8006),
    (0b00100110001001101000000000000110, .addiu 17 6 0x8006),
    (0b00101010001001101000000000000110, .slti 17 6 0x8006),
    (0b00101110001001101000000000000110, .sltiu 17 6 0x8006),
    (0b00110010001001101000000000000110, .andi 17 6 0x8006),
    (0b00110110001001101000000000000110, .ori 17 6 0x8006),
    (0b00111010001001101000000000000110, .xori 17 6 0x8006),
    (0b01100010001001101000000000000110, .daddi 17 6 0x8006),
    (0b01100110001001101000000000000110, .daddiu 17 6 0x8006),
    (0b00111100000001101000000000000110, .lui 6 0x8006),
    (0b00000010001001100101100000100000, .add 17 6 11),
    (0b00000010001001100101100000100001, .addu 17 6 11),
    (0b00000010001001100101100000100010, .sub 17 6 11),
    (0b00000010001001100101100000100011, .subu 17 6 11),
    (0b00000010001001100101100000100100, .and 17 6 11),
    (0b00000010001001100101100000100101, .or 17 6 11),
    (0b00000010001001100101100000100110, .xor 17 6 11),
    (0b00000010001001100101100000100111, .nor 17 6 11),
    (0b00000010001001100101100000101010, .slt 17 6 11),
    (0b00000010001001100101100000101011, .sltu 17 6 11),
    (0b00000010001001100101100000101100, .dadd 17 6 11),
    (0b00000010001001100101100000101101, .daddu 17 6 11),
    (0b00000010001001100101100000101110, .dsub 17 6 11),
    (0b00000010001001100101100000101111, .dsubu 17 6 11),
    (0b00000010001001100101100000001010, .movz 17 6 11),
    (0b00000010001001100101100000001011, .movn 17 6 11),
    (0b00000000000001100101110101000000, .sll 6 11 21),
    (0b00000000000001100101110101000010, .srl 6 11 21),
    (0b00000000000001100101110101000011, .sra 6 11 21),
    (0b00000000000001100101110101111000, .dsll 6 11 21),
    (0b00000000000001100101110101111010, .dsrl 6 11 21),
    (0b00000000000001100101110101111011, .dsra 6 11 21),
    (0b00000000000001100101110101111100, .dsll32 6 11 21),
    (0b00000000000001100101110101111110, .dsrl32 6 11 21),
    (0b00000000000001100101110101111111, .dsra32 6 11 21),
    (0b00000010001001100101100000000100, .sllv 17 6 11)] : List (Word × Instr)), reads p.1 p.2 = true := by
  decide +kernel

theorem test_decode_integer_2 : ∀ p ∈ ([
    (0b00000010001001100101100000000110, .srlv 17 6 11),
    (0b00000010001001100101100000000111, .srav 17 6 11),
    (0b00000010001001100101100000010100, .dsllv 17 6 11),
    (0b00000010001001100101100000010110, .dsrlv 17 6 11),
    (0b00000010001001100101100000010111, .dsrav 17 6 11),
    (0b00000010001001100000000000011000, .mult 17 6),
    (0b00000010001001100000000000011001, .multu 17 6),
    (0b00000010001001100000000000011010, .div 17 6),
    (0b00000010001001100000000000011011, .divu 17 6),
    (0b00000010001001100000000000011100, .dmult 17 6),
    (0b00000010001001100000000000011101, .dmultu 17 6),
    (0b00000010001001100000000000011110, .ddiv 17 6),
    (0b00000010001001100000000000011111, .ddivu 17 6),
    (0b00000000000000000101100000010000, .mfhi 11),
    (0b00000010001000000000000000010001, .mthi 17),
    (0b00000000000000000101100000010010, .mflo 11),
    (0b00000010001000000000000000010011, .mtlo 17),
    (0b00000010001101000101100000000001, .movf 17 5 11),
    (0b00000010001101010101100000000001, .movt 17 5 11)] : List (Word × Instr)), reads p.1 p.2 = true := by
  decide +kernel

theorem test_decode_load_store : ∀ p ∈ ([
    (0b10000010010001101000000000000110, .lb 18 6 0x8006),
    (0b10010010010001101000000000000110, .lbu 18 6 0x8006),
    (0b10000110010001101000000000000110, .lh 18 6 0x8006),
    (0b10010110010001101000000000000110, .lhu 18 6 0x8006),
    (0b10001110010001101000000000000110, .lw 18 6 0x8006),
    (0b10011110010001101000000000000110, .lwu 18 6 0x8006),
    (0b11011110010001101000000000000110, .ld 18 6 0x8006),
    (0b10100010010001101000000000000110, .sb 18 6 0x8006),
    (0b10100110010001101000000000000110, .sh 18 6 0x8006),
    (0b10101110010001101000000000000110, .sw 18 6 0x8006),
    (0b11111110010001101000000000000110, .sd 18 6 0x8006),
    (0b10001010010001101000000000000110, .lwl 18 6 0x8006),
    (0b10011010010001101000000000000110, .lwr 18 6 0x8006),
    (0b01101010010001101000000000000110, .ldl 18 6 0x8006),
    (0b01101110010001101000000000000110, .ldr 18 6 0x8006),
    (0b10101010010001101000000000000110, .swl 18 6 0x8006),
    (0b10111010010001101000000000000110, .swr 18 6 0x8006),
    (0b10110010010001101000000000000110, .sdl 18 6 0x8006),
    (0b10110110010001101000000000000110, .sdr 18 6 0x8006),
    (0b11000010010001101000000000000110, .ll 18 6 0x8006),
    (0b11010010010001101000000000000110, .lld 18 6 0x8006),
    (0b11100010010001101000000000000110, .sc 18 6 0x8006),
    (0b11110010010001101000000000000110, .scd 18 6 0x8006),
    (0b11000110010011001000000000000110, .lwc1 18 12 0x8006),
    (0b11010110010011001000000000000110, .ldc1 18 12 0x8006),
    (0b11100110010011001000000000000110, .swc1 18 12 0x8006),
    (0b11110110010011001000000000000110, .sdc1 18 12 0x8006),
    (0b01001110010010010000011010000000, .lwxc1 18 9 26),
    (0b01001110010010010000011010000001, .ldxc1 18 9 26),
    (0b01001110010010011001100000001000, .swxc1 18 9 19),
    (0b01001110010010011001100000001001, .sdxc1 18 9 19),
    (0b11001110010001011000000000000110, .pref 18 5 0x8006),
    (0b01001110010010010010100000001111, .prefx 18 9 5),
    (0b00000000000000000000000000001111, .sync)] : List (Word × Instr)), reads p.1 p.2 = true := by
  decide +kernel

theorem test_decode_cache : ∀ p ∈ ([
    (0b10111110010000001000000000000110, .cacheIndexInvalidateI 18 0x8006),
    (0b10111110010001001000000000000110, .cacheIndexLoadTagI 18 0x8006),
    (0b10111110010010001000000000000110, .cacheIndexStoreTagI 18 0x8006),
    (0b10111110010100001000000000000110, .cacheHitInvalidateI 18 0x8006),
    (0b10111110010101001000000000000110, .cacheBarrier 18 0x8006),
    (0b10111110010110001000000000000110, .cacheIndexLoadDataI 18 0x8006),
    (0b10111110010111001000000000000110, .cacheIndexStoreDataI 18 0x8006),
    (0b10111110010000011000000000000110, .cacheIndexWritebackInvalidateD 18 0x8006),
    (0b10111110010001011000000000000110, .cacheIndexLoadTagD 18 0x8006),
    (0b10111110010010011000000000000110, .cacheIndexStoreTagD 18 0x8006),
    (0b10111110010100011000000000000110, .cacheHitInvalidateD 18 0x8006),
    (0b10111110010101011000000000000110, .cacheHitWritebackInvalidateD 18 0x8006),
    (0b10111110010110011000000000000110, .cacheIndexLoadDataD 18 0x8006),
    (0b10111110010111011000000000000110, .cacheIndexStoreDataD 18 0x8006),
    (0b10111110010000111000000000000110, .cacheIndexWritebackInvalidateS 18 0x8006),
    (0b10111110010001111000000000000110, .cacheIndexLoadTagS 18 0x8006),
    (0b10111110010010111000000000000110, .cacheIndexStoreTagS 18 0x8006),
    (0b10111110010100111000000000000110, .cacheHitInvalidateS 18 0x8006),
    (0b10111110010101111000000000000110, .cacheHitWritebackInvalidateS 18 0x8006),
    (0b10111110010110111000000000000110, .cacheIndexLoadDataS 18 0x8006),
    (0b10111110010111111000000000000110, .cacheIndexStoreDataS 18 0x8006)] : List (Word × Instr)), reads p.1 p.2 = true := by
  decide +kernel

theorem test_decode_branch_1 : ∀ p ∈ ([
    (0b00001010000000000000000000000101, .j 0x2000005),
    (0b00001110000000000000000000000101, .jal 0x2000005),
    (0b00000010001000000000000000001000, .jr 17),
    (0b00000010001000000101100000001001, .jalr 17 11),
    (0b00010010001001101000000000000110, .beq 17 6 0x8006),
    (0b00010110001001101000000000000110, .bne 17 6 0x8006),
    (0b01010010001001101000000000000110, .beql 17 6 0x8006),
    (0b01010110001001101000000000000110, .bnel 17 6 0x8006),
    (0b00011010001000001000000000000110, .blez 17 0x8006),
    (0b00011110001000001000000000000110, .bgtz 17 0x8006),
    (0b01011010001000001000000000000110, .blezl 17 0x8006),
    (0b01011110001000001000000000000110, .bgtzl 17 0x8006),
    (0b00000110001000001000000000000110, .bltz 17 0x8006),
    (0b00000110001000011000000000000110, .bgez 17 0x8006),
    (0b00000110001000101000000000000110, .bltzl 17 0x8006),
    (0b00000110001000111000000000000110, .bgezl 17 0x8006),
    (0b00000110001100001000000000000110, .bltzal 17 0x8006),
    (0b00000110001100011000000000000110, .bgezal 17 0x8006),
    (0b00000110001100101000000000000110, .bltzall 17 0x8006),
    (0b00000110001100111000000000000110, .bgezall 17 0x8006),
    (0b00000110001010001000000000000110, .tgei 17 0x8006),
    (0b00000110001010011000000000000110, .tgeiu 17 0x8006),
    (0b00000110001010101000000000000110, .tlti 17 0x8006),
    (0b00000110001010111000000000000110, .tltiu 17 0x8006),
    (0b00000110001011001000000000000110, .teqi 17 0x8006),
    (0b00000110001011101000000000000110, .tnei 17 0x8006),
    (0b00000010001001101000000011110000, .tge 17 6 515),
    (0b00000010001001101000000011110001, .tgeu 17 6 515),
    (0b00000010001001101000000011110010, .tlt 17 6 515),
    (0b00000010001001101000000011110011, .tltu 17 6 515),
    (0b00000010001001101000000011110100, .teq 17 6 515),
    (0b00000010001001101000000011110110, .tne 17 6 515),
    (0b00000010000000000000000011001100, .syscall 0x80003),
    (0b00000010000000000000000011001101, .breakpoint 0x80003),
    (0b01000101000101001000000000000110, .bc1f 5 0x8006),
    (0b01000101000101011000000000000110, .bc1t 5 0x8006)] : List (Word × Instr)), reads p.1 p.2 = true := by
  decide +kernel

theorem test_decode_branch_2 : ∀ p ∈ ([
    (0b01000101000101101000000000000110, .bc1fl 5 0x8006),
    (0b01000101000101111000000000000110, .bc1tl 5 0x8006)] : List (Word × Instr)), reads p.1 p.2 = true := by
  decide +kernel

theorem test_decode_system : ∀ p ∈ ([
    (0b01000000000001101100100000000010, .mfps 6 1),
    (0b01000000000001101100100000000011, .mfpc 6 1),
    (0b01000000100001101100100000000010, .mtps 6 1),
    (0b01000000100001101100100000000011, .mtpc 6 1),
    (0b01000000000001100101100000000000, .mfc0 6 11),
    (0b01000000001001100101100000000000, .dmfc0 6 11),
    (0b01000000100001100101100000000000, .mtc0 6 11),
    (0b01000000101001100101100000000000, .dmtc0 6 11),
    (0b01000010000000000000000000000001, .tlbr),
    (0b01000010000000000000000000000010, .tlbwi),
    (0b01000010000000000000000000000110, .tlbwr),
    (0b01000010000000000000000000001000, .tlbp),
    (0b01000010000000000000000000011000, .eret),
    (0b01000010000000000000000000010000, .rfe),
    (0b01000001000000001000000000000110, .bc0f 0x8006),
    (0b01000001000000011000000000000110, .bc0t 0x8006),
    (0b01000001000000101000000000000110, .bc0fl 0x8006),
    (0b01000001000000111000000000000110, .bc0tl 0x8006),
    (0b01001010000000000000000000000101, .cop2 0x2000005),
    (0b11001010010001101000000000000110, .lwc2 18 6 0x8006),
    (0b11011010010001101000000000000110, .ldc2 18 6 0x8006),
    (0b11101010010001101000000000000110, .swc2 18 6 0x8006),
    (0b11111010010001101000000000000110, .sdc2 18 6 0x8006)] : List (Word × Instr)), reads p.1 p.2 = true := by
  decide +kernel

theorem test_decode_fp_1 : ∀ p ∈ ([
    (0b01000100000001101001100000000000, .mfc1 6 19),
    (0b01000100001001101001100000000000, .dmfc1 6 19),
    (0b01000100010001101001100000000000, .cfc1 6 19),
    (0b01000100100001101001100000000000, .mtc1 6 19),
    (0b01000100101001101001100000000000, .dmtc1 6 19),
    (0b01000100110001101001100000000000, .ctc1 6 19),
    (0b01000110000011001001111010000000, .addS 12 19 26),
    (0b01000110000011001001111010000001, .subS 12 19 26),
    (0b01000110000011001001111010000010, .mulS 12 19 26),
    (0b01000110000011001001111010000011, .divS 12 19 26),
    (0b01000110000000001001111010000100, .sqrtS 19 26),
    (0b01000110000000001001111010000101, .absS 19 26),
    (0b01000110000000001001111010000110, .movS 19 26),
    (0b01000110000000001001111010000111, .negS 19 26),
    (0b01000110000000001001111010010101, .recipS 19 26),
    (0b01000110000000001001111010010110, .rsqrtS 19 26),
    (0b01000110000000001001111010001000, .roundLS 19 26),
    (0b01000110000000001001111010001001, .truncLS 19 26),
    (0b01000110000000001001111010001010, .ceilLS 19 26),
    (0b01000110000000001001111010001011, .floorLS 19 26),
    (0b01000110000000001001111010001100, .roundWS 19 26),
    (0b01000110000000001001111010001101, .truncWS 19 26),
    (0b01000110000000001001111010001110, .ceilWS 19 26),
    (0b01000110000000001001111010001111, .floorWS 19 26),
    (0b01000110000000001001111010100100, .cvtWS 19 26),
    (0b01000110000000001001111010100101, .cvtLS 19 26),
    (0b01000110000101001001111010010001, .movfS 5 19 26),
    (0b01000110000101011001111010010001, .movtS 5 19 26),
    (0b01000110000001101001111010010010, .movzS 6 19 26),
    (0b01000110000001101001111010010011, .movnS 6 19 26),
    (0b01000110001011001001111010000000, .addD 12 19 26),
    (0b01000110001011001001111010000001, .subD 12 19 26),
    (0b01000110001011001001111010000010, .mulD 12 19 26),
    (0b01000110001011001001111010000011, .divD 12 19 26),
    (0b01000110001000001001111010000100, .sqrtD 19 26),
    (0b01000110001000001001111010000101, .absD 19 26)] : List (Word × Instr)), reads p.1 p.2 = true := by
  decide +kernel

theorem test_decode_fp_2 : ∀ p ∈ ([
    (0b01000110001000001001111010000110, .movD 19 26),
    (0b01000110001000001001111010000111, .negD 19 26),
    (0b01000110001000001001111010010101, .recipD 19 26),
    (0b01000110001000001001111010010110, .rsqrtD 19 26),
    (0b01000110001000001001111010001000, .roundLD 19 26),
    (0b01000110001000001001111010001001, .truncLD 19 26),
    (0b01000110001000001001111010001010, .ceilLD 19 26),
    (0b01000110001000001001111010001011, .floorLD 19 26),
    (0b01000110001000001001111010001100, .roundWD 19 26),
    (0b01000110001000001001111010001101, .truncWD 19 26),
    (0b01000110001000001001111010001110, .ceilWD 19 26),
    (0b01000110001000001001111010001111, .floorWD 19 26),
    (0b01000110001000001001111010100100, .cvtWD 19 26),
    (0b01000110001000001001111010100101, .cvtLD 19 26),
    (0b01000110001101001001111010010001, .movfD 5 19 26),
    (0b01000110001101011001111010010001, .movtD 5 19 26),
    (0b01000110001001101001111010010010, .movzD 6 19 26),
    (0b01000110001001101001111010010011, .movnD 6 19 26),
    (0b01000110001000001001111010100000, .cvtSD 19 26),
    (0b01000110100000001001111010100000, .cvtSW 19 26),
    (0b01000110101000001001111010100000, .cvtSL 19 26),
    (0b01000110000000001001111010100001, .cvtDS 19 26),
    (0b01000110100000001001111010100001, .cvtDW 19 26),
    (0b01000110101000001001111010100001, .cvtDL 19 26),
    (0b01001110111011001001111010100000, .maddS 23 12 19 26),
    (0b01001110111011001001111010100001, .maddD 23 12 19 26),
    (0b01001110111011001001111010101000, .msubS 23 12 19 26),
    (0b01001110111011001001111010101001, .msubD 23 12 19 26),
    (0b01001110111011001001111010110000, .nmaddS 23 12 19 26),
    (0b01001110111011001001111010110001, .nmaddD 23 12 19 26),
    (0b01001110111011001001111010111000, .nmsubS 23 12 19 26),
    (0b01001110111011001001111010111001, .nmsubD 23 12 19 26)] : List (Word × Instr)), reads p.1 p.2 = true := by
  decide +kernel

theorem test_decode_fp_compare : ∀ p ∈ ([
    (0b01000110000011001001110100110000, .cFS 12 19 5),
    (0b01000110001011001001110100110000, .cFD 12 19 5),
    (0b01000110000011001001110100110001, .cUnS 12 19 5),
    (0b01000110001011001001110100110001, .cUnD 12 19 5),
    (0b01000110000011001001110100110010, .cEqS 12 19 5),
    (0b01000110001011001001110100110010, .cEqD 12 19 5),
    (0b01000110000011001001110100110011, .cUeqS 12 19 5),
    (0b01000110001011001001110100110011, .cUeqD 12 19 5),
    (0b01000110000011001001110100110100, .cOltS 12 19 5),
    (0b01000110001011001001110100110100, .cOltD 12 19 5),
    (0b01000110000011001001110100110101, .cUltS 12 19 5),
    (0b01000110001011001001110100110101, .cUltD 12 19 5),
    (0b01000110000011001001110100110110, .cOleS 12 19 5),
    (0b01000110001011001001110100110110, .cOleD 12 19 5),
    (0b01000110000011001001110100110111, .cUleS 12 19 5),
    (0b01000110001011001001110100110111, .cUleD 12 19 5),
    (0b01000110000011001001110100111000, .cSfS 12 19 5),
    (0b01000110001011001001110100111000, .cSfD 12 19 5),
    (0b01000110000011001001110100111001, .cNgleS 12 19 5),
    (0b01000110001011001001110100111001, .cNgleD 12 19 5),
    (0b01000110000011001001110100111010, .cSeqS 12 19 5),
    (0b01000110001011001001110100111010, .cSeqD 12 19 5),
    (0b01000110000011001001110100111011, .cNglS 12 19 5),
    (0b01000110001011001001110100111011, .cNglD 12 19 5),
    (0b01000110000011001001110100111100, .cLtS 12 19 5),
    (0b01000110001011001001110100111100, .cLtD 12 19 5),
    (0b01000110000011001001110100111101, .cNgeS 12 19 5),
    (0b01000110001011001001110100111101, .cNgeD 12 19 5),
    (0b01000110000011001001110100111110, .cLeS 12 19 5),
    (0b01000110001011001001110100111110, .cLeD 12 19 5),
    (0b01000110000011001001110100111111, .cNgtS 12 19 5),
    (0b01000110001011001001110100111111, .cNgtD 12 19 5)] : List (Word × Instr)), reads p.1 p.2 = true := by
  decide +kernel

/-- Words without an instruction (spec/95 X1, X2, M30; R602, R531, R470): 011100 and 111011, SPECIAL 000101, REGIMM 00100, COP1
sub-opcodes 10010 and 00011, COP0 01000 with 00100 (R600), a COP0 function and a CACHE operation that are not in their tables, a nonzero must-be-zero field. -/
theorem test_decode_undefined :
    decode 0x70000000 = .reserved ∧ decode 0xEC000000 = .reserved ∧ decode 0x00000005 = .reserved ∧
    decode 0x04040000 = .reserved ∧ decode 0x46400000 = .cop1Unimplemented ∧ decode 0x44600000 = .cop1Reserved ∧
    decode 0x42000003 = .cop0Undefined ∧ decode 0x41040000 = .cop0Reserved ∧ decode 0xBC820000 = .cacheUndefined ∧ decode 0x00221860 = .mustBeZero (.add 1 2 3) := by
  decide +kernel

/-- The table's numbering of bits is the word's own. -/
theorem test_decodeTableWord : decodeTableWord 32 0x20220001 = some (.addi 1 2 1) ∧ decodeTableWord 32 0x70000000 = none := by
  decide +kernel

/-! ## The start states of spec/95 section 2 -/

/-- The common start state: pc = kseg1 0x1000, Status as given, TLB empty, some general registers. -/
def start (status : Word) (regs : List (BitVec 5 × DWord)) : State :=
  regs.foldl (fun s p => s.setGpr p.1 p.2)
    { State.reset with pc := 0xFFFFFFFFA0001000, cp0 := { State.reset.cp0 with status := status } }

/-- "UM": User mode, UX = XX = 0. -/
def user (regs : List (BitVec 5 × DWord)) : State := { start 0x10 regs with pc := 0x400000 }

/-- Little endian. -/
def little (s : State) : State := { s with bus := { s.bus with modeBits := s.bus.modeBits &&& ~~~0x8000 } }

/-- Bytes in memory from an address on. -/
def withBytes (s : State) (a : Nat) (l : List Byte) : State :=
  { s with mem := (l.zipIdx).foldl (fun m p => Memory.write m (a + p.2) p.1) s.mem }

/-- Floating-point registers and FSR. -/
def withFloats (s : State) (fsr : Word) (l : List (BitVec 5 × DWord)) : State :=
  l.foldl (fun s p => s.setFpr p.1 p.2) (s.setFsr fsr)

/-- The state after the word has run. -/
def after (s : State) (w : Word) : Option State :=
  match s.runDecoded (decode w) with
  | .next t => some t
  | _ => none

/-- The fault the word ends in. -/
def faults (s : State) (w : Word) : Option Fault :=
  match s.runDecoded (decode w) with
  | .fault f => some f
  | _ => none

/-- A register afterwards. -/
def reg (s : State) (w : Word) (r : BitVec 5) : Option DWord := (after s w).map (·.gpr r)

/-- HI and LO afterwards. -/
def hiLo (s : State) (w : Word) : Option (DWord × DWord) := (after s w).map fun t => (t.int.hi, t.int.lo)

/-- pc afterwards. -/
def pcAfter (s : State) (w : Word) : Option DWord := (after s w).map (·.pc)

/-- ExcCode, EPC and pc afterwards. -/
def exception (s : State) (w : Word) : Option (BitVec 5 × DWord × DWord) :=
  (after s w).map fun t => (t.cp0.causeCode, t.cp0.epc, t.pc)

/-- The exception of an instruction of `start` with BEV = 0, through the general vector. -/
def takes (s : State) (w : Word) (code : BitVec 5) : Bool :=
  exception s w == some (code, s.pc, 0xFFFFFFFF80000180)

/-- n bytes of memory afterwards, from an address on. -/
def stored (s : State) (w : Word) (a n : Nat) : Option (List Byte) :=
  (after s w).map fun t => (List.range n).map fun i => Memory.read t.mem (a + i)

/-- An FPR and the FSR afterwards. -/
def fprFsr (s : State) (w : Word) (r : BitVec 5) : Option (DWord × Word) := (after s w).map fun t => (t.fpr r, t.fp.fsr)

/-! ## Integer instructions -/

/-- A1, A2. -/
theorem test_addi_overflow :
    takes (start 0 [(1, 0x7FFFFFFF)]) 0x20220001 12 ∧ takes (start 0 [(1, 0xFFFFFFFF80000000)]) 0x2022FFFF 12 ∧
    reg (start 0 [(1, 0x7FFFFFFF), (2, 0x1111)]) 0x20220001 2 = some 0x1111 := by decide +kernel
/-- R705's example. -/
theorem test_addi : reg (start 0 [(1, 5)]) 0x2022FFFF 2 = some 4 := by decide +kernel
/-- A3, A14. -/
theorem test_addiu : reg (start 0 [(1, 0x7FFFFFFF)]) 0x24220001 2 = some 0xFFFFFFFF80000000 ∧
    reg (start 0 []) 0x24000005 0 = some 0 := by decide +kernel
/-- A4, A5, A6. -/
theorem test_slti_sltiu : reg (start 0 [(1, 0xFFFFFFFFFFFFFFFE)]) 0x2822FFFF 2 = some 1 ∧
    reg (start 0 [(1, 5)]) 0x2C22FFFF 2 = some 1 ∧ reg (start 0 [(1, 0xFFFFFFFFFFFFFFFF)]) 0x2C22FFFF 2 = some 0 := by
  decide +kernel
/-- A7 to A11. -/
theorem test_logical_immediates : reg (start 0 [(1, 0xFFFFFFFFFFFFFFFF)]) 0x3022FFFF 2 = some 0xFFFF ∧
    reg (start 0 []) 0x34028000 2 = some 0x8000 ∧
    reg (start 0 [(1, 0xFFFFFFFFFFFF0000)]) 0x3822FFFF 2 = some 0xFFFFFFFFFFFFFFFF ∧
    reg (start 0 []) 0x3C028000 2 = some 0xFFFFFFFF80000000 ∧ reg (start 0 []) 0x3C027FFF 2 = some 0x7FFF0000 := by
  decide +kernel
/-- A12, A13, A15. -/
theorem test_daddi_daddiu : takes (start 0 [(1, 0x7FFFFFFFFFFFFFFF)]) 0x60220001 12 ∧
    reg (start 0 [(1, 0x7FFFFFFFFFFFFFFF)]) 0x64220001 2 = some 0x8000000000000000 ∧
    takes (user [(1, 1)]) 0x64220001 10 := by decide +kernel
/-- B1, B2, B14. -/
theorem test_add_addu : takes (start 0 [(1, 0x7FFFFFFF), (2, 1)]) 0x00221820 12 ∧
    reg (start 0 [(1, 0x7FFFFFFF), (2, 1)]) 0x00221821 3 = some 0xFFFFFFFF80000000 ∧
    reg (start 0 [(1, 0xFFFFFFFFFFFFFFFF), (2, 0xFFFFFFFFFFFFFFFF)]) 0x00221820 3 = some 0xFFFFFFFFFFFFFFFE := by
  decide +kernel
/-- B3, B4. -/
theorem test_sub_subu : takes (start 0 [(1, 0xFFFFFFFF80000000), (2, 1)]) 0x00221822 12 ∧
    reg (start 0 [(1, 0xFFFFFFFF80000000), (2, 1)]) 0x00221823 3 = some 0x7FFFFFFF := by decide +kernel
/-- B5 to B9. -/
theorem test_compare_logical : reg (start 0 [(1, 0xFFFFFFFFFFFFFFFF), (2, 1)]) 0x0022182A 3 = some 1 ∧
    reg (start 0 [(1, 0xFFFFFFFFFFFFFFFF), (2, 1)]) 0x0022182B 3 = some 0 ∧
    reg (start 0 []) 0x00221827 3 = some 0xFFFFFFFFFFFFFFFF ∧
    reg (start 0 [(1, 0x000000FF0000FF00), (2, 0x0F0F0F0F0F0F0F0F)]) 0x00221824 3 = some 0x0000000F00000F00 ∧
    reg (start 0 [(1, 0x000000FF0000FF00), (2, 0x0F0F0F0F0F0F0F0F)]) 0x00221826 3 = some 0x0F0F0FF00F0FF00F := by
  decide +kernel
/-- B10 to B13. -/
theorem test_doubleword_add_sub : takes (start 0 [(1, 0x7FFFFFFFFFFFFFFF), (2, 1)]) 0x0022182C 12 ∧
    reg (start 0 [(1, 0x7FFFFFFFFFFFFFFF), (2, 1)]) 0x0022182D 3 = some 0x8000000000000000 ∧
    takes (start 0 [(1, 0x8000000000000000), (2, 1)]) 0x0022182E 12 ∧
    reg (start 0 [(2, 1)]) 0x0022182F 3 = some 0xFFFFFFFFFFFFFFFF := by decide +kernel
/-- C1 to C4. -/
theorem test_word_shifts : reg (start 0 [(1, 0x0000000180000000)]) 0x00011000 2 = some 0xFFFFFFFF80000000 ∧
    reg (start 0 [(1, 0xFFFFFFFF80000000)]) 0x00011042 2 = some 0x40000000 ∧
    reg (start 0 [(1, 0xFFFFFFFF80000000)]) 0x00011043 2 = some 0xFFFFFFFFC0000000 ∧
    reg (start 0 [(1, 0xFFFFFFFF80000000)]) 0x00011002 2 = some 0xFFFFFFFF80000000 := by decide +kernel
/-- C5 to C7. -/
theorem test_variable_word_shifts : reg (start 0 [(1, 1), (3, 33)]) 0x00611004 2 = some 2 ∧
    reg (start 0 [(1, 0xFFFFFFFF80000000), (3, 31)]) 0x00611007 2 = some 0xFFFFFFFFFFFFFFFF ∧
    reg (start 0 [(1, 0xFFFFFFFF80000000), (3, 63)]) 0x00611006 2 = some 1 := by decide +kernel
/-- C8 to C13. -/
theorem test_doubleword_shifts : reg (start 0 [(1, 1)]) 0x000117F8 2 = some 0x80000000 ∧
    reg (start 0 [(1, 1)]) 0x000117FC 2 = some 0x8000000000000000 ∧
    reg (start 0 [(1, 0x8000000000000000)]) 0x000117FA 2 = some 0x100000000 ∧
    reg (start 0 [(1, 0x8000000000000000)]) 0x000117FE 2 = some 1 ∧
    reg (start 0 [(1, 0x8000000000000000)]) 0x000117FB 2 = some 0xFFFFFFFF00000000 ∧
    reg (start 0 [(1, 0x8000000000000000)]) 0x000117FF 2 = some 0xFFFFFFFFFFFFFFFF := by decide +kernel
/-- C14 to C16. -/
theorem test_variable_doubleword_shifts : reg (start 0 [(1, 1), (3, 67)]) 0x00611014 2 = some 8 ∧
    reg (start 0 [(1, 0x8000000000000000), (3, 63)]) 0x00611016 2 = some 1 ∧
    reg (start 0 [(1, 0x8000000000000000), (3, 63)]) 0x00611017 2 = some 0xFFFFFFFFFFFFFFFF := by decide +kernel
/-- D1 to D4. -/
theorem test_mult_multu : hiLo (start 0 [(1, 0x7FFFFFFF), (2, 0x7FFFFFFF)]) 0x00220018 = some (0x3FFFFFFF, 1) ∧
    hiLo (start 0 [(1, 0xFFFFFFFFFFFFFFFF), (2, 0xFFFFFFFFFFFFFFFF)]) 0x00220019 = some (0xFFFFFFFFFFFFFFFE, 1) ∧
    hiLo (start 0 [(1, 0xFFFFFFFFFFFFFFFF), (2, 0xFFFFFFFFFFFFFFFF)]) 0x00220018 = some (0, 1) ∧
    hiLo (start 0 [(1, 0xFFFFFFFF80000000), (2, 0xFFFFFFFF80000000)]) 0x00220018 = some (0x40000000, 0) := by
  decide +kernel
/-- D5 to D7. -/
theorem test_div_divu : hiLo (start 0 [(1, 0xFFFFFFFFFFFFFFF9), (2, 0xFFFFFFFFFFFFFFFE)]) 0x0022001A =
      some (0xFFFFFFFFFFFFFFFF, 3) ∧
    hiLo (start 0 [(1, 7), (2, 0xFFFFFFFFFFFFFFFE)]) 0x0022001A = some (1, 0xFFFFFFFFFFFFFFFD) ∧
    hiLo (start 0 [(1, 0xFFFFFFFFFFFFFFF9), (2, 2)]) 0x0022001B = some (1, 0x7FFFFFFC) := by decide +kernel
/-- D8, D9. -/
theorem test_dmult_dmultu : hiLo (start 0 [(1, 0x8000000000000000), (2, 0xFFFFFFFFFFFFFFFF)]) 0x0022001C =
      some (0, 0x8000000000000000) ∧
    hiLo (start 0 [(1, 0xFFFFFFFFFFFFFFFF), (2, 0xFFFFFFFFFFFFFFFF)]) 0x0022001D = some (0xFFFFFFFFFFFFFFFE, 1) := by
  decide +kernel
/-- D10, D11, D14. -/
theorem test_ddiv_ddivu : hiLo (start 0 [(1, 0x8000000000000000), (2, 3)]) 0x0022001E =
      some (0xFFFFFFFFFFFFFFFE, 0xD555555555555556) ∧
    hiLo (start 0 [(1, 0x8000000000000000), (2, 3)]) 0x0022001F = some (2, 0x2AAAAAAAAAAAAAAA) ∧
    pcAfter (start 0 [(1, 5)]) 0x0022001A = some 0xFFFFFFFFA0001004 := by decide +kernel
/-- D12, D13. -/
theorem test_hi_lo_moves :
    hiLo { start 0 [(1, 0xAAAA)] with int := ⟨(start 0 [(1, 0xAAAA)]).int.gpr, 1, 2⟩ } 0x00200011 = some (0xAAAA, 2) ∧
    reg { start 0 [] with int := ⟨(start 0 []).int.gpr, 1, 2⟩ } 0x00001812 3 = some 2 := by decide +kernel
/-- E1 to E4. -/
theorem test_movz_movn : reg (start 0 [(1, 0x55), (3, 0x99)]) 0x0022180A 3 = some 0x55 ∧
    reg (start 0 [(1, 0x55), (2, 1), (3, 0x99)]) 0x0022180A 3 = some 0x99 ∧
    reg (start 0 [(1, 0x55), (2, 0x100000000), (3, 0x99)]) 0x0022180B 3 = some 0x55 ∧
    takes (user [(1, 0x55), (3, 0x99)]) 0x0022180A 10 := by decide +kernel
/-- E5, E6. -/
theorem test_movf_movt : takes (start 0 [(4, 0x55)]) 0x00801001 11 ∧
    reg (withFloats (start 0x20000000 [(4, 0x55), (2, 0x1111)]) 0x00800000 []) 0x00801001 2 = some 0x1111 ∧
    reg (withFloats (start 0x20000000 [(4, 0x55), (2, 0x1111)]) 0x00800000 []) 0x00811001 2 = some 0x55 := by
  decide +kernel

/-! ## Loads and stores -/

/-- F1 to F15: the eight bytes at PA 0x2000. -/
def data (r2 : DWord) : State :=
  withBytes (start 0 [(4, 0xFFFFFFFFA0002000), (2, r2)]) 0x2000 [0x80, 0x01, 0x02, 0x03, 0x84, 0x05, 0x06, 0x07]

/-- F1 to F6. -/
theorem test_byte_half_loads : reg (data 0) 0x80820000 2 = some 0xFFFFFFFFFFFFFF80 ∧ reg (data 0) 0x90820000 2 = some 0x80 ∧
    reg (data 0) 0x80820003 2 = some 3 ∧ reg (data 0) 0x84820000 2 = some 0xFFFFFFFFFFFF8001 ∧
    reg (data 0) 0x94820000 2 = some 0x8001 ∧ reg (data 0) 0x84820006 2 = some 0x0607 ∧
    reg (little (data 0)) 0x84820000 2 = some 0x0180 ∧ reg (little (data 0)) 0x84820006 2 = some 0x0706 := by decide +kernel
/-- F7 to F11. -/
theorem test_word_doubleword_loads : reg (data 0) 0x8C820000 2 = some 0xFFFFFFFF80010203 ∧
    reg (data 0) 0x9C820000 2 = some 0x80010203 ∧ reg (data 0) 0x8C820004 2 = some 0xFFFFFFFF84050607 ∧
    reg (data 0) 0xDC820000 2 = some 0x8001020384050607 ∧ reg (little (data 0)) 0x8C820004 2 = some 0x07060584 ∧
    reg (little (data 0)) 0xDC820000 2 = some 0x0706058403020180 := by decide +kernel
/-- F12 to F15. -/
theorem test_stores :
    stored (data 0x1122334455667788) 0xA0820001 0x2000 8 = some [0x80, 0x88, 0x02, 0x03, 0x84, 0x05, 0x06, 0x07] ∧
    stored (data 0x1122334455667788) 0xA4820002 0x2000 8 = some [0x80, 0x01, 0x77, 0x88, 0x84, 0x05, 0x06, 0x07] ∧
    stored (data 0x1122334455667788) 0xAC820004 0x2000 8 = some [0x80, 0x01, 0x02, 0x03, 0x55, 0x66, 0x77, 0x88] ∧
    stored (data 0x1122334455667788) 0xFC820000 0x2000 8 = some [0x11, 0x22, 0x33, 0x44, 0x55, 0x66, 0x77, 0x88] := by
  decide +kernel
/-- F12 to F15, little endian. -/
theorem test_stores_little :
    stored (little (data 0x1122334455667788)) 0xA4820002 0x2000 8 =
      some [0x80, 0x01, 0x88, 0x77, 0x84, 0x05, 0x06, 0x07] ∧
    stored (little (data 0x1122334455667788)) 0xAC820004 0x2000 8 =
      some [0x80, 0x01, 0x02, 0x03, 0x88, 0x77, 0x66, 0x55] ∧
    stored (little (data 0x1122334455667788)) 0xFC820000 0x2000 8 =
      some [0x88, 0x77, 0x66, 0x55, 0x44, 0x33, 0x22, 0x11] := by decide +kernel
/-- F16 to F20: misaligned; the address is kept. -/
theorem test_misaligned : takes (data 0) 0x84820001 4 ∧ takes (data 0) 0x8C820002 4 ∧ takes (data 0) 0xDC820004 4 ∧
    takes (data 0) 0xAC820001 5 ∧ takes (data 0) 0xFC820004 5 ∧
    (after (data 0) 0xFC820004).map (·.cp0.badVAddr) = some 0xFFFFFFFFA0002004 := by decide +kernel
/-- F22, F23: TLB Refill. -/
theorem test_refill : exception (start 0 [(4, 0x2000)]) 0x8C820000 = some (2, 0xFFFFFFFFA0001000, 0xFFFFFFFF80000000) ∧
    exception (start 0 [(4, 0x2000)]) 0xAC820000 = some (3, 0xFFFFFFFFA0001000, 0xFFFFFFFF80000000) := by decide +kernel
/-- F24 to F26: User and Supervisor mode. -/
theorem test_privileged_addresses :
    (after (user [(4, 0xFFFFFFFF80002000)]) 0x8C820000).map (fun t => (t.cp0.causeCode, t.cp0.badVAddr)) =
      some (4, 0x80002000) ∧ takes (user [(4, 0xFFFFFFFF80002000)]) 0xDC820000 10 ∧
    (after (start 0x8 [(4, 0xFFFFFFFF80002000)]) 0x8C820000).map (fun t => (t.cp0.causeCode, t.cp0.badVAddr)) =
      some (4, 0xFFFFFFFF80002000) := by decide +kernel

/-- G1: bytes 11 22 33 44. -/
def part (r2 : DWord) : State :=
  withBytes (start 0 [(4, 0xFFFFFFFFA0002000), (2, r2)]) 0x2000 [0x11, 0x22, 0x33, 0x44, 0x55, 0x66, 0x77, 0x88]

/-- G1, offset 1 (LWL, LWR, SWL, SWR). -/
theorem test_unaligned_words : reg (part 0x0ABBCCDD) 0x88820001 2 = some 0x223344DD ∧
    reg (part 0x0ABBCCDD) 0x98820001 2 = some 0x0ABB1122 ∧
    stored (part 0x0ABBCCDD) 0xA8820001 0x2000 4 = some [0x11, 0x0A, 0xBB, 0xCC] ∧
    stored (part 0x0ABBCCDD) 0xB8820001 0x2000 4 = some [0xCC, 0xDD, 0x33, 0x44] := by decide +kernel
/-- The same, little endian. -/
theorem test_unaligned_words_little : reg (little (part 0x0ABBCCDD)) 0x88820001 2 = some 0x2211CCDD ∧
    reg (little (part 0x0ABBCCDD)) 0x98820001 2 = some 0x0A443322 ∧
    stored (little (part 0x0ABBCCDD)) 0xA8820001 0x2000 4 = some [0xBB, 0x0A, 0x33, 0x44] ∧
    stored (little (part 0x0ABBCCDD)) 0xB8820001 0x2000 4 = some [0x11, 0xDD, 0xCC, 0xBB] := by decide +kernel
/-- G2, offset 3 (LDL, LDR, SDL, SDR). -/
theorem test_unaligned_doublewords : reg (part 0xA1A2A3A4A5A6A7A8) 0x68820003 2 = some 0x4455667788A6A7A8 ∧
    reg (part 0xA1A2A3A4A5A6A7A8) 0x6C820003 2 = some 0xA1A2A3A411223344 ∧
    stored (part 0xA1A2A3A4A5A6A7A8) 0xB0820003 0x2000 8 = some [0x11, 0x22, 0x33, 0xA1, 0xA2, 0xA3, 0xA4, 0xA5] ∧
    stored (part 0xA1A2A3A4A5A6A7A8) 0xB4820003 0x2000 8 = some [0xA5, 0xA6, 0xA7, 0xA8, 0x55, 0x66, 0x77, 0x88] := by
  decide +kernel
/-- G3, offset 3. -/
theorem test_unaligned_doublewords_little : reg (little (part 0xA1A2A3A4A5A6A7A8)) 0x68820003 2 = some 0x44332211A5A6A7A8 ∧
    reg (little (part 0xA1A2A3A4A5A6A7A8)) 0x6C820003 2 = some 0xA1A2A38877665544 ∧
    stored (little (part 0xA1A2A3A4A5A6A7A8)) 0xB0820003 0x2000 8 =
      some [0xA4, 0xA3, 0xA2, 0xA1, 0x55, 0x66, 0x77, 0x88] ∧
    stored (little (part 0xA1A2A3A4A5A6A7A8)) 0xB4820003 0x2000 8 =
      some [0x11, 0x22, 0x33, 0xA8, 0xA7, 0xA6, 0xA5, 0xA4] := by decide +kernel

/-- A state with the link set by a cached Load Linked. -/
def linked (s : State) : State := { s with link := ⟨true, 0x2000, false⟩ }

/-- H1, H8: LL sets the link; SC and SCD with the link intact store and write 1. -/
theorem test_linked : (after (data 0) 0xC0820000).map (fun t => (t.gpr 2, t.link.bit)) = some (0xFFFFFFFF80010203, true) ∧
    (after (linked (data 0x8)) 0xE0820000).map (fun t => (t.gpr 2, t.link.bit)) = some (1, false) ∧
    stored (linked (data 0x8)) 0xE0820000 0x2000 4 = some [0, 0, 0, 8] ∧
    stored (linked (data 0x8)) 0xF0820000 0x2000 8 = some [0, 0, 0, 0, 0, 0, 0, 8] := by decide +kernel
/-- H5 to H7: without the link nothing is stored; misaligned LL and SC. -/
theorem test_linked_fails : reg (data 7) 0xE0820000 2 = some 0 ∧
    stored (data 7) 0xE0820000 0x2000 4 = some [0x80, 1, 2, 3] ∧ takes (data 0) 0xC0820002 4 ∧
    takes (linked (data 0)) 0xE0820002 5 := by decide +kernel
/-- H2 to H4: a load, SYNC and PREF break the link. H9: PREF raises nothing. X6: RI outside MIPS IV. -/
theorem test_link_breaks : (after (linked (data 0)) 0x8C830004).map (·.link.bit) = some false ∧
    (after (linked (data 0)) 0x0000000F).map (·.link.bit) = some false ∧
    (after (linked (start 0 [(4, 0x2001)])) 0xCC800000).map (fun t => (t.pc, t.link.bit)) =
      some (0xFFFFFFFFA0001004, false) ∧ takes (user []) 0xCC800000 10 := by decide +kernel

/-! ## Branches, jumps, traps -/

/-- pc and the delay state after a branch. -/
def flow (s : State) (w : Word) : Option (DWord × Delay) := (after s w).map fun t => (t.pc, t.delay)

/-- I2 to I5. -/
theorem test_bne_bnel : flow (start 0 [(1, 1)]) 0x14200003 = some (0xFFFFFFFFA0001004, .slot (some 0xFFFFFFFFA0001010)) ∧
    flow (start 0 []) 0x14200003 = some (0xFFFFFFFFA0001004, .slot none) ∧
    flow (start 0 []) 0x54200003 = some (0xFFFFFFFFA0001008, .none) ∧
    flow (start 0 [(1, 1)]) 0x54200003 = some (0xFFFFFFFFA0001004, .slot (some 0xFFFFFFFFA0001010)) := by decide +kernel
/-- I1, I6, I7. -/
theorem test_linking_branches : flow (start 0 []) 0x1000FFFF = some (0xFFFFFFFFA0001004, .slot (some 0xFFFFFFFFA0001000)) ∧
    flow (start 0 [(1, 5)]) 0x04300003 = some (0xFFFFFFFFA0001004, .slot none) ∧
    reg (start 0 [(1, 5)]) 0x04300003 31 = some 0xFFFFFFFFA0001008 ∧
    flow (start 0 []) 0x04310003 = some (0xFFFFFFFFA0001004, .slot (some 0xFFFFFFFFA0001010)) := by decide +kernel
/-- I8 to I11. -/
theorem test_sign_branches : flow (start 0 []) 0x18200003 = some (0xFFFFFFFFA0001004, .slot (some 0xFFFFFFFFA0001010)) ∧
    flow (start 0 []) 0x1C200003 = some (0xFFFFFFFFA0001004, .slot none) ∧
    flow (start 0 [(1, 0x8000000000000000)]) 0x04200003 = some (0xFFFFFFFFA0001004, .slot (some 0xFFFFFFFFA0001010)) ∧
    flow (start 0 [(1, 0x80000000)]) 0x04200003 = some (0xFFFFFFFFA0001004, .slot none) := by decide +kernel
/-- I13 to I15; J at the end of a region takes the region of its delay slot. -/
theorem test_jumps : flow { start 0 [] with pc := 0xFFFFFFFF8FFFFFFC } 0x08000100 =
      some (0xFFFFFFFF90000000, .slot (some 0xFFFFFFFF90000400)) ∧
    reg (start 0 []) 0x0C000100 31 = some 0xFFFFFFFFA0001008 ∧
    flow (start 0 [(1, 0xFFFFFFFF80002000)]) 0x00202809 = some (0xFFFFFFFFA0001004, .slot (some 0xFFFFFFFF80002000)) ∧
    reg (start 0 [(1, 0xFFFFFFFF80002000)]) 0x00202809 5 = some 0xFFFFFFFFA0001008 := by decide +kernel
/-- I16: a misaligned target is found by the fetch. -/
theorem test_misaligned_fetch :
    (match ({ start 0 [] with pc := 0xFFFFFFFF80002002 } : State).fetch with
      | .trap t => some (t.cp0.causeCode, t.cp0.epc, t.cp0.badVAddr, t.cp0.causeBd)
      | _ => none) = some (4, 0xFFFFFFFF80002002, 0xFFFFFFFF80002002, false) := by decide +kernel
/-- I18 to I21. -/
theorem test_fp_branches :
    flow (withFloats (start 0x20000000 []) 0x00800000 []) 0x45010003 =
      some (0xFFFFFFFFA0001004, .slot (some 0xFFFFFFFFA0001010)) ∧
    flow (withFloats (start 0x20000000 []) 0x02000000 []) 0x45040003 = some (0xFFFFFFFFA0001004, .slot none) ∧
    flow (start 0x20000000 []) 0x45030003 = some (0xFFFFFFFFA0001008, .none) ∧
    (after (start 0 []) 0x45010003).map (fun t => (t.cp0.causeCode, t.cp0.causeCe)) = some (11, 1) := by decide +kernel
/-- J1 to J6. -/
theorem test_register_traps : takes (start 0 [(1, 5), (2, 5)]) 0x00220034 13 ∧
    pcAfter (start 0 [(1, 5), (2, 5)]) 0x00220036 = some 0xFFFFFFFFA0001004 ∧
    takes (start 0 [(1, 0xFFFFFFFFFFFFFFFF), (2, 1)]) 0x00220032 13 ∧
    pcAfter (start 0 [(1, 0xFFFFFFFFFFFFFFFF), (2, 1)]) 0x00220033 = some 0xFFFFFFFFA0001004 ∧
    pcAfter (start 0 [(1, 0xFFFFFFFFFFFFFFFF), (2, 1)]) 0x00220030 = some 0xFFFFFFFFA0001004 ∧
    takes (start 0 [(1, 0xFFFFFFFFFFFFFFFF), (2, 1)]) 0x00220031 13 := by decide +kernel
/-- J7 to J14. -/
theorem test_immediate_traps : pcAfter (start 0 [(1, 0xFFFFFFFFFFFFFFFE)]) 0x0429FFFF = some 0xFFFFFFFFA0001004 ∧
    takes (start 0 [(1, 0xFFFFFFFFFFFFFFFF)]) 0x0429FFFF 13 ∧ takes (start 0 [(1, 0xFFFFFFFFFFFF8000)]) 0x042C8000 13 ∧
    pcAfter (start 0 [(1, 0x8000)]) 0x042C8000 = some 0xFFFFFFFFA0001004 ∧
    takes (start 0 [(1, 0xFFFFFFFFFFFFFFFF)]) 0x042A0000 13 ∧
    pcAfter (start 0 [(1, 0xFFFFFFFFFFFFFFFF)]) 0x042B0000 = some 0xFFFFFFFFA0001004 ∧
    pcAfter (start 0 [(1, 0xFFFFFFFFFFFFFFFF)]) 0x04280000 = some 0xFFFFFFFFA0001004 ∧
    pcAfter (start 0 []) 0x042E0000 = some 0xFFFFFFFFA0001004 := by decide +kernel
/-- J15 to J17: in a delay slot EPC is the branch and BD is set. -/
theorem test_syscall_break : takes (start 0 []) 0x0000000C 8 ∧ takes (start 0 []) 0x000001CD 9 ∧
    (after { start 0 [(1, 5), (2, 5)] with pc := 0xFFFFFFFFA0001004, delay := .slot (some 0xFFFFFFFFA0001010) }
      0x00220034).map (fun t => (t.cp0.causeCode, t.cp0.epc, t.cp0.causeBd)) = some (13, 0xFFFFFFFFA0001000, true) := by
  decide +kernel

/-! ## Coprocessor 0 -/

/-- `start` with CP0 registers changed. -/
def withCp0 (s : State) (f : Cp0 → Cp0) : State := { s with cp0 := f s.cp0 }

/-- One piece of CP0 afterwards. -/
def cp0After {α : Type} (s : State) (w : Word) (f : Cp0 → α) : Option α := (after s w).map fun t => f t.cp0

/-- K1, K5 to K8, K22: the write masks. -/
theorem test_write_masks :
    cp0After (withCp0 (start 0 [(3, 5)]) fun c => { c with random := 40 }) 0x40833000 (fun c => (c.wired, c.random)) =
      some (5, 63) ∧
    cp0After (start 0 [(3, 0xFFFFFFFFFFFFFFFF)]) 0x40A35000 (·.entryHi) = some 0xC0000FFFFFFFE0FF ∧
    cp0After (start 0 [(3, 0xFFFFFFFFFFFFFFFF)]) 0x40A31000 (·.entryLo0) = some 0xC0000003FFFFFFFF ∧
    cp0After (start 0 [(3, 0xFFFFFFFFFFFFFFFF)]) 0x40832800 (·.pageMask) = some 0x01FFE000 ∧
    cp0After (withCp0 (start 0 [(3, 0xFFFFFFFFFFFFFFFF)]) fun c => { c with context := 0x123450 }) 0x40A32000 (·.context) =
      some 0xFFFFFFFFFF923450 ∧
    cp0After (start 0 [(3, 0x018000E0)]) 0x40836000 (·.status) = some 0xE0 := by decide +kernel
/-- K2, K3, K4, K11: reads. -/
theorem test_cp0_reads :
    (after { start 0 [(3, 0xFFFFFFFFFFFFFFFF)] with pending := { Pending.reset with timer := true } } 0x40836800).map
      (·.cause) = some 0x8300 ∧
    reg (withCp0 (start 0 []) fun c => { c with epc := 0x0000000180001234 }) 0x40027000 2 = some 0xFFFFFFFF80001234 ∧
    reg (withCp0 (start 0 []) fun c => { c with epc := 0x0000000180001234 }) 0x40227000 2 = some 0x0000000180001234 ∧
    reg (withCp0 (start 0x10000010 []) fun c => { c with count := 0x77 }) 0x40024800 2 = some 0x77 := by decide +kernel
/-- K9, K10, X7. -/
theorem test_cp0_gating : takes (user []) 0x40026000 11 ∧ takes (start 0x10000010 []) 0x40227000 10 ∧
    takes (start 0 []) 0x41000000 10 ∧ takes (start 0 []) 0x42000010 10 := by decide +kernel
/-- X3, X4: Coprocessor 2. -/
theorem test_coprocessor2 :
    (after (start 0 [(4, 1)]) 0xC8800001).map (fun t => (t.cp0.causeCode, t.cp0.causeCe)) = some (11, 2) ∧
    (after (start 0 []) 0x48000000).map (fun t => (t.cp0.causeCode, t.cp0.causeCe)) = some (11, 2) ∧
    takes (start 0x40000000 []) 0x48000000 10 ∧ takes (start 0x40000000 []) 0xC8800001 10 := by decide +kernel

/-- The TLB entry of K12 to K14. -/
def entryK : TlbEntry := ⟨0, 0, 0x123, false, 5, ⟨0, 0x100, 3, true, true⟩, ⟨0, 0x101, 3, false, true⟩, false⟩

/-- `start` with an entry in slot 7. -/
def tlbK (hi : DWord) (index : Word) : State :=
  { withCp0 (start 0 []) (fun c => { c with entryHi := hi, index := index }) with tlb := State.reset.tlb.set 7 entryK }

/-- K12, K14. -/
theorem test_tlbp_tlbr : cp0After (tlbK 0x246005 0) 0x42000008 (·.index) = some 7 ∧
    cp0After (tlbK 0xFF 7) 0x42000001 (fun c => (c.entryHi, c.entryLo0, c.entryLo1, c.pageMask)) =
      some (0x246005, 0x401E, 0x405A, 0) := by decide +kernel
/-- K17, K18. -/
theorem test_tlbwi :
    (after (withCp0 (start 0 []) fun c => { c with index := 3, pageMask := 0x6000, entryHi := 0x1E005, entryLo0 := 0x41C7, entryLo1 := 0x4207 })
      0x42000002).map (·.tlb[3]) = some ⟨3, 0, 0xC, true, 5, ⟨0, 0x104, 0, true, true⟩, ⟨0, 0x108, 0, true, true⟩, false⟩ ∧
    (after (withCp0 (start 0 []) fun c => { c with index := 3, frameMask := 0x8000, entryLo0 := 0x3FFFFFFC6 })
      0x42000002).map (·.tlb[3]) = some ⟨0, 0, 0, false, 0, ⟨0, 0x7FFFFFF, 0, true, true⟩, TlbPage.zero, false⟩ := by
  decide +kernel
/-- K15, K16: a conflicting write sets TS and kills the other entry. -/
theorem test_tlb_conflict :
    (after { withCp0 (start 0 []) (fun c => { c with index := 9, entryHi := 0x20001, entryLo0 := 0x4006, entryLo1 := 0x4046 }) with
      tlb := State.reset.tlb.set 5 ⟨0, 0, 0x10, false, 1, ⟨0, 1, 3, true, true⟩, ⟨0, 2, 3, true, true⟩, false⟩ } 0x42000002).map
      (fun t => (t.cp0.status, t.tlb[5].dead, t.tlb[9].even.pfn)) = some (0x00200000, true, 0x100) ∧
    (after { withCp0 (start 0 []) (fun c => { c with index := 9, entryHi := 0x20002, entryLo0 := 0x4006, entryLo1 := 0x4046 }) with
      tlb := State.reset.tlb.set 5 ⟨0, 0, 0x10, false, 1, ⟨0, 1, 3, true, true⟩, ⟨0, 2, 3, true, true⟩, false⟩ } 0x42000002).map
      (fun t => (t.cp0.status, t.tlb[5].dead)) = some (0, false) := by decide +kernel
/-- K19, K20, K21. -/
theorem test_eret :
    (after (linked (withCp0 (start 6 []) fun c => { c with epc := 0xFFFFFFFF80002000, errorEpc := 0xFFFFFFFF80003000 }))
      0x42000018).map (fun t => (t.cp0.status, t.pc, t.link.bit)) = some (2, 0xFFFFFFFF80003000, false) ∧
    (after (withCp0 (start 2 []) fun c => { c with epc := 0xFFFFFFFF80002000 }) 0x42000018).map
      (fun t => (t.cp0.status, t.pc)) = some (0, 0xFFFFFFFF80002000) ∧
    pcAfter (withCp0 (start 0 []) fun c => { c with epc := 0xFFFFFFFF80002000 }) 0x42000018 = some 0xFFFFFFFF80002000 := by
  decide +kernel
/-- P3, P7: Compare and Count. P6: the counters' interrupt. -/
theorem test_timer_and_counters :
    (after { start 0 [(3, 0x500)] with pending := { Pending.reset with timer := true } } 0x40835800).map
      (fun t => (t.cp0.compare, t.pending.timer)) = some (0x500, false) ∧
    (after (withCp0 (start 0 [(3, 0x100)]) fun c => { c with compare := 0x100, count := 0x50 }) 0x40834800).map
      (·.pending.timer) = some true ∧
    (after { start 0 [(3, 0x500)] with perf := ⟨0x10, 0, 0x80000000, 0⟩ } 0x40835800).map (·.ip7) = some true ∧
    (after { start 0 [] with perf := ⟨0x10, 0, 0x80000000, 0⟩ } 0x4083C801).map (fun t => (t.perf.cnt0, t.ip7)) =
      some (0, false) := by decide +kernel

/-! ## The CACHE instruction -/

/-- A kseg0 address in r4; Config.K0 is 3. -/
def cacheState (a : DWord) (lo hi : Word) : State :=
  withCp0 (start 0 [(4, a)]) fun c => { c with tagLo := lo, tagHi := hi }

/-- L2, L3, L8, L6, L9, L10. -/
theorem test_cache_traps : takes (cacheState 0xFFFFFFFF80000042 0 0) 0xBC800000 4 ∧
    takes (cacheState 0xFFFFFFFF80002001 0 0) 0xBC950000 4 ∧ takes (cacheState 0xFFFFFFFF80002002 0 0) 0xBC940000 4 ∧
    takes (user [(4, 0x400000)]) 0xBC940000 11 ∧
    faults (cacheState 0xFFFFFFFF80002000 0 0) 0xBC820000 = some .undefinedCacheOp ∧
    faults (cacheState 0xFFFFFFFFA0002000 0 0) 0xBC910000 = some .cacheOpUncached := by decide +kernel
/-- L11: set 1, way 1 of the data cache is entry 3. -/
theorem test_index_store_tag_d :
    (after (cacheState 0xFFFFFFFF80000021 0x20CB 0x20000000) 0xBC890000).map (fun t => (t.dTagAt 3, t.dLruAt 1)) =
      some (⟨0x20, .dirtyExclusive, 1, true, true, false⟩, true) := by decide +kernel
/-- L12: it comes back. -/
theorem test_index_load_tag_d :
    ((after (cacheState 0xFFFFFFFF80000021 0x20CB 0x20000000) 0xBC890000).bind fun t =>
      after (withCp0 t fun c => { c with tagLo := 0, tagHi := 0 }) 0xBC850000).map (fun t => (t.cp0.tagLo, t.cp0.tagHi)) =
      some (0x20CB, 0x20000000) := by decide +kernel
/-- L1, L7. -/
theorem test_index_invalidate_and_barrier :
    (after ((cacheState 0xFFFFFFFF80000041 0 0).setITag 3 ⟨5, true, false, true⟩) 0xBC800000).map (·.iTagAt 3) =
      some ⟨5, false, false, false⟩ ∧
    (after (cacheState 0xFFFFFFFF80002000 0 0) 0xBC940000).map (fun t => (t.pc, t.caches == Caches.reset)) =
      some (0xFFFFFFFFA0001004, true) := by decide +kernel
/-- L4: TLB Refill as a load. -/
theorem test_cache_refill : exception (start 0 [(4, 0x2000)]) 0xBC950000 =
    some (2, 0xFFFFFFFFA0001000, 0xFFFFFFFF80000000) := by decide +kernel

/-! ## Floating point -/

/-- M1 to M4: FR = 0 halves, FR = 1. -/
theorem test_mtc1_mfc1 :
    fprFsr (withFloats (start 0x20000000 [(1, 0xFFFFFFFFAAAABBBB)]) 0 [(2, 0x1111111122222222)]) 0x44811800 2 =
      some (0xAAAABBBB22222222, 0) ∧
    fprFsr (withFloats (start 0x24000000 [(1, 0xFFFFFFFFAAAABBBB)]) 0 [(3, 0x1111111122222222)]) 0x44811800 3 =
      some (0xAAAABBBB, 0) ∧
    reg (withFloats (start 0x20000000 []) 0 [(2, 0x8000000122222222)]) 0x44021800 2 = some 0xFFFFFFFF80000001 ∧
    reg (withFloats (start 0x24000000 []) 0 [(3, 0x123456787FFFFFFF)]) 0x44021800 2 = some 0x7FFFFFFF := by decide +kernel
/-- M5, M6. -/
theorem test_dmtc1_dmfc1 : fprFsr (start 0x20000000 [(1, 0x0123456789ABCDEF)]) 0x44A11000 2 = some (0x0123456789ABCDEF, 0) ∧
    reg (withFloats (start 0x20000000 []) 0 [(2, 0x0123456789ABCDEF)]) 0x44221000 2 = some 0x0123456789ABCDEF ∧
    faults (start 0x20000000 []) 0x44A11800 = some .fpOddDoubleword ∧
    faults (start 0x20000000 [(4, 0xFFFFFFFFA0002000)]) 0xD4830000 = some .fpOddDoubleword := by decide +kernel
/-- M7, M8, M35. -/
theorem test_add_fp :
    fprFsr (withFloats (start 0x24000000 []) 0 [(4, 0xDEADBEEF3F800000), (6, 0x40000000), (2, 0xFFFFFFFFFFFFFFFF)])
      0x46062080 2 = some (0x40400000, 0) ∧
    fprFsr (withFloats (start 0x20000000 []) 0 [(4, 0x3FF8000000000000), (6, 0x4002000000000000)]) 0x462728C0 2 =
      some (0x400E000000000000, 0) ∧ takes (start 0 []) 0x46062080 11 := by decide +kernel
/-- M12; and 1.0 < 2.0. -/
theorem test_compare_fp :
    fprFsr (withFloats (start 0x24000000 []) 0 [(2, 0x3FF0000000000000), (4, 0x3FF0000000000000)]) 0x46241132 0 =
      some (0, 0x02000000) ∧
    fprFsr (withFloats (start 0x24000000 []) 0x00800000 [(2, 0x4000000000000000), (4, 0x3FF0000000000000)]) 0x4624103C 0 =
      some (0, 0) := by decide +kernel
/-- M13, M14. -/
theorem test_div_fp :
    fprFsr (withFloats (start 0x24000000 []) 0 [(4, 0x3FF0000000000000)]) 0x46262083 2 = some (0x7FF0000000000000, 0x8020) ∧
    fprFsr (withFloats (start 0x24000000 []) 0x400 [(4, 0x3FF0000000000000), (2, 0x5555)]) 0x46262083 2 =
      some (0x5555, 0x8400) ∧
    takes (withFloats (start 0x24000000 []) 0x400 [(4, 0x3FF0000000000000)]) 0x46262083 15 := by decide +kernel
/-- M15 to M18. -/
theorem test_ctc1_cfc1 : takes (start 0x24000000 [(1, 0x10800)]) 0x44C1F800 15 ∧
    fprFsr (start 0x24000000 [(1, 0x007C0000)]) 0x44C1F800 0 = some (0, 0) ∧
    fprFsr (start 0x24000000 [(1, 0x01000003)]) 0x44C1F800 0 = some (0, 0x01000003) ∧
    takes (start 0x24000000 [(1, 0x20000)]) 0x44C1F800 15 ∧
    reg (withFloats (start 0x24000000 []) 0x80000000 []) 0x4442F800 2 = some 0xFFFFFFFF80000000 := by decide +kernel
/-- M20, M21. -/
theorem test_cvt_l :
    fprFsr (withFloats (start 0x24000000 []) 0 [(4, 0x4320000000000000), (2, 0x5555)]) 0x462020A5 2 =
      some (0x5555, 0x20000) ∧
    fprFsr (withFloats (start 0x24000000 []) 0 [(4, 0x431FFFFFFFFFFFFC)]) 0x462020A5 2 = some (0x0007FFFFFFFFFFFF, 0) ∧
    fprFsr (withFloats (start 0x24000000 []) 0 [(4, 0xC320000000000000)]) 0x462020A5 2 = some (0xFFF8000000000000, 0) := by
  decide +kernel
/-- M22, M24. -/
theorem test_cvt_w :
    fprFsr (withFloats (start 0x24000000 []) 0 [(4, 0x4004000000000000)]) 0x462020A4 2 = some (2, 0x1004) ∧
    fprFsr (withFloats (start 0x24000000 []) 0 [(4, 0x41E0000000000000)]) 0x462020A4 2 = some (0x7FFFFFFF, 0x10040) := by
  decide +kernel
/-- M23. -/
theorem test_rounding_conversions :
    fprFsr (withFloats (start 0x24000000 []) 0 [(4, 0xC004000000000000)]) 0x4620208D 2 = some (0xFFFFFFFE, 0x1004) ∧
    fprFsr (withFloats (start 0x24000000 []) 0 [(4, 0xC004000000000000)]) 0x4620208E 2 = some (0xFFFFFFFE, 0x1004) ∧
    fprFsr (withFloats (start 0x24000000 []) 0 [(4, 0xC004000000000000)]) 0x4620208F 2 = some (0xFFFFFFFD, 0x1004) ∧
    fprFsr (withFloats (start 0x24000000 []) 0 [(4, 0x400C000000000000)]) 0x4620208C 2 = some (4, 0x1004) := by
  decide +kernel
/-- M25 to M27. -/
theorem test_fp_moves :
    fprFsr (withFloats (start 0x24000000 []) 0xF80 [(4, 0xAAAAAAAA7FC00001)]) 0x46002086 2 = some (0x7FC00001, 0xF80) ∧
    fprFsr (withFloats (start 0x24000000 [(1, 5)]) 0 [(2, 0x123456783F800000), (4, 0x40000000)]) 0x46012092 2 =
      some (0x3F800000, 0) ∧
    fprFsr (withFloats (start 0x24000000 []) 0 [(4, 0x4000000000000000)]) 0x46242091 2 = some (0x4000000000000000, 0) ∧
    fprFsr (withFloats (start 0x24000000 []) 0x02000000 [(4, 0x4000000000000000)]) 0x46242091 2 = some (0, 0x02000000) := by
  decide +kernel
/-- M28, M32. -/
theorem test_sqrt_neg_abs :
    fprFsr (withFloats (start 0x24000000 []) 0 [(4, 0xBFF0000000000000)]) 0x46202084 2 =
      some (0x7FF7FFFFFFFFFFFF, 0x10040) ∧
    fprFsr (withFloats (start 0x24000000 []) 0 [(4, 0x3F800000)]) 0x46002087 2 = some (0xBF800000, 0) ∧
    fprFsr (withFloats (start 0x24000000 []) 0 [(2, 0xBF800000)]) 0x46001085 2 = some (0x3F800000, 0) := by decide +kernel
/-- M29. -/
theorem test_lwc1_swc1 :
    fprFsr (withBytes (withFloats (start 0x20000000 [(4, 0xFFFFFFFFA0002000)]) 0 [(2, 0x1111111122222222)]) 0x2000
      [0xCA, 0xFE, 0xF0, 0x0D]) 0xC4830000 2 = some (0xCAFEF00D22222222, 0) ∧
    fprFsr (withBytes (withFloats (start 0x24000000 [(4, 0xFFFFFFFFA0002000)]) 0 [(3, 0x1111111122222222)]) 0x2000
      [0xCA, 0xFE, 0xF0, 0x0D]) 0xC4830000 3 = some (0xCAFEF00D, 0) ∧
    stored (withFloats (start 0x20000000 [(4, 0xFFFFFFFFA0002000)]) 0 [(2, 0x1111111122222222)]) 0xE4830004 0x2004 4 =
      some [0x11, 0x11, 0x11, 0x11] := by decide +kernel
/-- M31, M30. -/
theorem test_fp_gating :
    (after (start 0x20000010 []) 0x46241132).map (fun t => (t.cp0.causeCode, t.fp.fsr)) = some (15, 0x20000) ∧
    (after (start 0x20000010 []) 0x45050003).map (·.cp0.causeCode) = some 10 ∧
    (after (start 0x20000010 []) 0x46202095).map (fun t => (t.cp0.causeCode, t.fp.fsr)) = some (15, 0x20000) ∧
    (after (start 0x20000010 []) 0x4C850080).map (·.cp0.causeCode) = some 10 ∧
    (after (start 0x24000000 []) 0x46400000).map (fun t => (t.cp0.causeCode, t.fp.fsr)) = some (15, 0x20000) ∧
    takes (start 0x24000000 []) 0x44600000 10 ∧ takes (start 0 []) 0x44600000 11 := by decide +kernel
/-- M33. -/
theorem test_format_conversions :
    fprFsr (withFloats (start 0x24000000 []) 0 [(4, 0x3FC00000)]) 0x460020A1 2 = some (0x3FF8000000000000, 0) ∧
    fprFsr (withFloats (start 0x24000000 []) 0 [(4, 0xFFFFFFFF)]) 0x468020A0 2 = some (0xBF800000, 0) ∧
    fprFsr (withFloats (start 0x24000000 []) 0 [(4, 0x0020000000000001)]) 0x46A020A1 2 =
      some (0x4340000000000000, 0x1004) := by decide +kernel
/-- M34. -/
theorem test_denormalized_result :
    fprFsr (withFloats (start 0x24000000 []) 0 [(4, 0x0010000000000000), (6, 0x3FE0000000000000), (2, 7)]) 0x46262082 2 =
      some (7, 0x20000) ∧
    fprFsr (withFloats (start 0x24000000 []) 0x01000000 [(4, 0x0010000000000000), (6, 0x3FE0000000000000), (2, 7)])
      0x46262082 2 = some (0, 0x01000000) := by decide +kernel
/-- R922, R935, R937: a denormalized ABS or NEG result raises E with FS = 0 and is zero with FS = 1. -/
theorem test_denormalized_abs_neg : (Fmt.settle .s false false (Fmt.abs .s 0x80000001)).status.getLsbD 5 = true ∧
    (Fmt.settle .s true false (Fmt.abs .s 0x80000001)).value = 0 ∧ (Fmt.settle .d false false (Fmt.neg .d 1)).status.getLsbD 5 = true := by
  decide +kernel
/-- MADD.D: 2 * 3 + 1 = 7; NMSUB.D: -(2 * 3 - 1) = -5 (R980 to R983, by hand). -/
theorem test_multiply_add :
    fprFsr (withFloats (start 0x24000000 []) 0 [(8, 0x3FF0000000000000), (4, 0x4000000000000000), (6, 0x4008000000000000)])
      0x4D0620A1 2 = some (0x401C000000000000, 0) ∧
    fprFsr (withFloats (start 0x24000000 []) 0 [(8, 0x3FF0000000000000), (4, 0x4000000000000000), (6, 0x4008000000000000)])
      0x4D0620B9 2 = some (0xC014000000000000, 0) := by decide +kernel

/-! ## Translation -/

/-- The TLB entry of N20 to N24. -/
def entryN : TlbEntry := ⟨3, 0, 0xC, false, 5, ⟨0, 0x104, 3, true, true⟩, ⟨0, 0x108, 2, false, true⟩, false⟩

/-- The state of N20 to N23. -/
def tlbN (asid : DWord) : State :=
  { withCp0 (start 0 []) (fun c => { c with entryHi := asid }) with tlb := State.reset.tlb.set 3 entryN }

/-- N1, N2, N5, N8, N9, N11. -/
theorem test_translate_kernel32 :
    (start 0 []).translate 0xFFFFFFFF80001234 .load = .ok ⟨0x1234, 3, 0b11⟩ ∧
    (start 0 []).translate 0xFFFFFFFFA0001234 .load = .ok ⟨0x1234, 2, 0b11⟩ ∧
    (start 0 []).translate 0x9800000000001234 .load = .addressError ∧
    (start 4 []).translate 0x0000000000001234 .load = .ok ⟨0x1234, 2, 0⟩ ∧
    (start 4 []).translate 0x000000007FFFFFFC .store = .ok ⟨0x7FFFFFFC, 2, 0⟩ ∧
    (start 0 []).translate 0x0000000080000000 .load = .addressError := by decide +kernel
/-- N3, N4, N6, N7, N25 to N27. -/
theorem test_translate_kernel64 :
    (start 0x80 []).translate 0x9800000000001234 .load = .ok ⟨0x1234, 3, 0⟩ ∧
    (start 0x80 []).translate 0x9000000000001234 .store = .ok ⟨0x1234, 2, 0⟩ ∧
    (start 0x80 []).translate 0x9800010000000000 .load = .addressError ∧
    (start 0x80 []).translate 0x9200000000001234 .load = .ok ⟨0x1234, 2, 1⟩ ∧
    (start 0x80 []).translate 0xC000000000004000 .store = .refill ∧
    (start 0x80 []).translate 0xC0000FFF00000000 .load = .addressError ∧
    (start 0x80 []).translate 0xFFFFFFFF80001234 .load = .ok ⟨0x1234, 3, 0b11⟩ := by decide +kernel
/-- N14 to N19. -/
theorem test_translate_user_supervisor :
    (start 0x30 []).translate 0x00000FFFFFFFFFF8 .load = .refill ∧
    (start 0x30 []).translate 0x0000100000000000 .load = .addressError ∧
    (start 0x08 []).translate 0xFFFFFFFFC0001000 .load = .refill ∧
    (start 0x08 []).translate 0xFFFFFFFFE0001000 .load = .addressError ∧
    (start 0x48 []).translate 0x4000000000001000 .load = .refill ∧
    (start 0x48 []).translate 0x4000100000000000 .load = .addressError := by decide +kernel
/-- N20 to N23. -/
theorem test_translate_tlb : (tlbN 5).translate 0x1A345 .load = .ok ⟨0x106345, 3, 0⟩ ∧
    (tlbN 5).translate 0x1E345 .load = .ok ⟨0x10A345, 2, 0⟩ ∧ (tlbN 5).translate 0x1E344 .store = .modified ∧
    (tlbN 6).translate 0x1A345 .load = .refill := by decide +kernel

/-! ## Exception entry, interrupts, resets -/

/-- O1, O2: a refill, and the same in the delay slot of a branch. -/
theorem test_refill_registers :
    (after (withCp0 { user [(4, 0x10002004)] with pc := 0x400010 } fun c =>
        { c with entryHi := 0x15, context := 0xFFFFFFFFFF800000 }) 0x8C820000).map
      (fun t => (t.cp0.status, t.cp0.epc, t.cp0.badVAddr, t.cp0.context, t.cp0.xContext, t.cp0.entryHi, t.pc)) =
      some (0x12, 0x400010, 0x10002004, 0xFFFFFFFFFF880010, 0x80010, 0x10002015, 0xFFFFFFFF80000000) ∧
    (after { user [(4, 0x10002004)] with pc := 0x400010, delay := .slot (some 0x400020) } 0x8C820000).map
      (fun t => (t.cp0.causeBd, t.cp0.epc, t.pc)) = some (true, 0x40000C, 0xFFFFFFFF80000000) := by decide +kernel
/-- O3, O4: EXL = 1; the 64-bit vector. -/
theorem test_nested_and_extended_refill :
    (after (withCp0 (start 2 [(26, 0xFFFFFFFFC0000010)]) fun c => { c with epc := 0x40000C, causeBd := true }) 0x8F5B0000).map
      (fun t => (t.cp0.status, t.cp0.causeBd, t.cp0.epc, t.pc)) = some (2, true, 0x40000C, 0xFFFFFFFF80000180) ∧
    (after (withCp0 (start 0x80 [(4, 0xC000000000004000)]) fun c => { c with entryHi := 7 }) 0xFC820000).map
      (fun t => (t.cp0.causeCode, t.cp0.context, t.cp0.xContext, t.cp0.entryHi, t.pc)) =
      some (3, 0x20, 0x0000001800000020, 0xC000000000004007, 0xFFFFFFFF80000080) := by decide +kernel
/-- O5, O6, O7, O8, O9. -/
theorem test_vectors : (exception (start 0x00400000 [(2, 0x40000000), (3, 0x40000000)]) 0x00430820) =
      some (12, 0xFFFFFFFFA0001000, 0xFFFFFFFFBFC00380) ∧
    pcAfter (start 0x00400000 [(4, 0x2000)]) 0x8C820000 = some 0xFFFFFFFFBFC00200 ∧
    takes (start 0 [(4, 0x2002)]) 0x8C820000 4 ∧ pcAfter (start 0x80 [(4, 0x2000)]) 0x8C820000 = some 0xFFFFFFFF80000000 ∧
    pcAfter (start 0xA0 [(4, 0x2000)]) 0x8C820000 = some 0xFFFFFFFF80000080 := by decide +kernel

/-- The state after a step. -/
def stepped (s : State) : Option State :=
  match step s with
  | .next t => some t
  | _ => none

/-- P8: an interrupt in a delay slot; P5: an external request. -/
theorem test_interrupts :
    (stepped { start 0xFF01 [] with pc := 0xFFFFFFFFA0001004, delay := .slot (some 0xFFFFFFFFA0002000)
                                    pending := { Pending.reset with timer := true } }).map
      (fun t => (t.cp0.causeCode, t.cp0.epc, t.cp0.causeBd, t.cp0.status, t.pc)) =
      some (0, 0xFFFFFFFFA0001000, true, 0xFF03, 0xFFFFFFFF80000180) ∧
    (((start 0x401 []).deliver (.interrupt 1 1)).bind stepped).map (fun t => (t.cp0.epc, t.pc)) =
      some (0xFFFFFFFFA0001000, 0xFFFFFFFF80000180) := by decide +kernel
/-- P2: with EXL set it is not taken, and the instruction runs. -/
theorem test_masked_interrupt :
    (stepped { start 0x8003 [] with pending := { Pending.reset with timer := true } }).map (fun t => (t.pc, t.ip7)) =
      some (0xFFFFFFFFA0001004, true) := by decide +kernel

/-- R1055, R1056: a watchpoint on a doubleword that is loaded or stored. R1040, R388: ERR, and data flagged bad, are Bus Errors. -/
theorem test_watch_and_bus_error :
    (stepped { withCp0 (start 0 [(4, 0xFFFFFFFFA0002000)]) (fun c => { c with watchLo := 0x2003 }) with
      pc := 0xFFFFFFFFA0001000, mem := Memory.write (Memory.write [] 0x1000 0x8C) 0x1001 0x82 }).map (·.cp0.causeCode) = some 23 ∧
    (after (withCp0 (start 2 [(4, 0xFFFFFFFFA0002000)]) fun c => { c with watchLo := 0x2003 }) 0x8C820004).map
      (fun t => (t.pc, t.pending.watch)) = some (0xFFFFFFFFA0001004, true) ∧
    takes { data 0 with bus := { Bus.reset with errAddrs := [0x2004] } } 0x8C820000 7 ∧
    takes ((data 0).setReplies [⟨.ack, some ⟨none, none, 1, false⟩⟩]) 0x8C820000 7 ∧
    reg ((data 0).setReplies [⟨.nack, some .plain⟩, ⟨.ack, some ⟨none, some 0x1122334455667788, 0, false⟩⟩]) 0x8C820000 2 = some 0x11223344 := by
  decide +kernel
/-- R313: an uncached read that loses its response hangs the processor, and a Soft Reset tells why in CacheErr. -/
theorem test_hang : ((stepped { (data 0).setReplies [⟨.parity, none⟩] with mem := Memory.write (Memory.write [] 0x1000 0x8C) 0x1001 0x82 }).map
    fun t => (t.pc, t.bus.hung)) = some (0xFFFFFFFFA0001000, true) := by decide +kernel
/-- R412, R505: SYNC does not graduate while SysGblPerf* is negated. -/
theorem test_sync_waits : (after { start 0 [] with bus := { Bus.reset with gblPerf := false } } 0x0000000F).map (·.pc) =
    some 0xFFFFFFFFA0001000 := by decide +kernel
/-- R305, R312: a corrected error of SysAD, in an address cycle or in a data cycle of an answer, pulses SysCorErr*. -/
theorem test_sysad_corrected : ((data 0).deliver (.systemError .corrected)).map (·.bus.corErr) = some true ∧
    (after ((data 0).setReplies [⟨.ack, some ⟨none, none, 0, true⟩⟩]) 0x8C820000).map (fun t => (t.bus.corErr, t.gpr 2)) =
      some (true, 0xFFFFFFFF80010203) := by decide +kernel

/-- An uncached store, n times, with SysWrRdy* negated. -/
def blockedStores : Nat → Option State
  | 0 => some { data 7 with bus := { Bus.reset with wrRdy := false } }
  | n + 1 => (blockedStores n).bind fun t => after t 0xAC820000

/-- R244: an uncached store that waits is not in memory yet; an uncached load waits for it, and SysWrRdy* lets it go out. R345: two
gatherer entries and the four of the FIFO hold six; the seventh store waits. -/
theorem test_uncached_buffer :
    ((blockedStores 1).map fun t => (Memory.read t.mem 0x2003, t.bus.ready.length, t.bus.fifo.length)) = some (3, 1, 0) ∧
    (((blockedStores 1).bind fun t => after t 0x8C830000).map (·.pc)) = some 0xFFFFFFFFA0001004 ∧
    (((blockedStores 1).bind fun t => t.deliver (.writeReady true)).map fun t => Memory.read t.mem 0x2003) = some 7 ∧
    ((blockedStores 6).map fun t => (t.bus.ready.length, t.bus.fifo.length, t.pc)) = some (2, 4, 0xFFFFFFFFA0001018) ∧
    ((blockedStores 7).map fun t => (t.bus.fifo.length, t.pc)) = some (4, 0xFFFFFFFFA0001018) := by decide +kernel
/-- R231: in User mode with RE = 1 a singleword is gathered at its inverted address, a doubleword at its own. -/
theorem test_gather_address : (start 0x02000010 []).gatherPa 0x2000 (some 4) = 0x2004 ∧
    (start 0x02000010 []).gatherPa 0x2000 (some 8) = 0x2000 ∧ (start 0x02000000 []).gatherPa 0x2000 (some 4) = 0x2000 := by
  decide +kernel

/-- Three words at the pc; r1 = 1, and r4 and r5 hold addresses. -/
def program (a b c : List Byte) : State :=
  withBytes (start 0 [(1, 1), (4, 0x1234), (5, 0x5678)]) 0x1000 (a ++ b ++ c)

/-- R248: a store two instructions on may be speculated, at its own address, but not past MFC0 or CFC1 (R627); past BEQL it is at the target, never
after the slot. -/
theorem test_speculation_limits :
    let pc : DWord := 0xFFFFFFFFA0001000
    let sw : List Byte := [0xAC, 0x82, 0, 0]
    let nop : List Byte := [0, 0, 0, 0]
    (program nop nop sw).maySpeculate [pc + 4, pc + 8] .store 0x1234 = true ∧
    (program nop nop sw).maySpeculate [pc + 4, pc + 8] .store 0x5678 = false ∧
    (program nop [0x40, 0x02, 0x60, 0] sw).maySpeculate [pc + 4, pc + 8] .store 0x1234 = false ∧
    (program nop [0x44, 0x42, 0xF8, 0] sw).maySpeculate [pc + 4, pc + 8] .store 0x1234 = false ∧
    (program nop [0x44, 0x42, 0xF8, 0] sw).maySpeculate [pc + 4] .fetch (pc + 8) = true ∧
    (program [0x50, 0x22, 0, 3] nop sw).maySpeculate [pc + 4, pc + 8] .store 0x1234 = false ∧
    (program [0x50, 0x22, 0, 1] nop sw).maySpeculate [pc + 4, pc + 8] .store 0x1234 = true ∧
    (program [0x10, 0x22, 0, 3] nop sw).maySpeculate [pc + 4, pc + 8] .store 0x1234 = true := by decide +kernel
/-- spec/95 "Speculation workarounds": after BNE r1, r0 the load of 0(r5) may be speculated from where r5 points; with MOVN r5, r0, r1 in
the delay slot only from address 0. -/
theorem test_speculation_idiom :
    let pc : DWord := 0xFFFFFFFFA0001000
    let bne : List Byte := [0x14, 0x20, 0, 2]
    let movn : List Byte := [0, 0x01, 0x28, 0x0B]
    let ld : List Byte := [0xDC, 0xA6, 0, 0]
    (program bne [0, 0, 0, 0] ld).maySpeculate [pc + 4, pc + 8] .load 0x5678 = true ∧
    (program bne movn ld).maySpeculate [pc + 4, pc + 8] .load 0x5678 = false ∧
    (program bne movn ld).maySpeculate [pc + 4, pc + 8] .load 0 = true := by decide +kernel
/-- R440: an uncached SYNC that waits for SysGblPerf* is read once, and uses up one answer; then it completes. -/
theorem test_fetched_once :
    let wait := { (program [0, 0, 0, 0x0F] [] []).setReplies (List.replicate 2 ⟨.ack, some .plain⟩) with
      bus.gblPerf := false }
    let see (t : State) : DWord × Option Word × Nat × Nat := (t.pc, t.held, t.bus.sent.length, t.bus.replies.length)
    (stepped wait).map see = some (0xFFFFFFFFA0001000, some 0x0F, 1, 1) ∧
    ((stepped wait).bind stepped).map see = some (0xFFFFFFFFA0001000, some 0x0F, 0, 1) ∧
    (((stepped wait).bind fun t => t.deliver (.globallyPerformed true)).bind stepped).map see =
      some (0xFFFFFFFFA0001004, none, 0, 1) := by decide +kernel
/-- R801, R802, R218: Watch comes before a reserved cache algorithm, with EXL and ERL clear. -/
theorem test_watch_reserved :
    let s (status : Word) : State := withCp0 (start status [(4, 0x8000000000002000)]) fun c => { c with watchLo := 0x2003 }
    takes (s 0x80) 0x8C820000 23 ∧ takes (s 0x80) 0xAC820000 23 ∧ faults (s 0x82) 0x8C820000 = some .reservedCacheAlgorithm ∧
    faults (s 0x80) 0x8C820008 = some .reservedCacheAlgorithm := by decide +kernel
/-- What an uncached read of 0x2000 delivers, and how many answers are left. -/
def readWith (l : List Reply) : Option (DWord × Nat) :=
  match ((start 0 []).setReplies l).readAnswer 0x2000 with
  | .ok v t => some (v, t.bus.replies.length)
  | _ => none

/-- A data response with a doubleword. -/
def wordOf (v : DWord) : DataResponse := { DataResponse.plain with word := some v }

/-- R315: an ACK without data is a NACK to a read, so the next answer counts, and completes an upgrade; R343: a NACK purges the data. -/
theorem test_ack_without_data : readWith [⟨.ack, none⟩, ⟨.ack, some (wordOf 7)⟩, ⟨.err, none⟩] = some (7, 1) ∧
    readWith [⟨.nack, some (wordOf 5)⟩, ⟨.ack, none⟩, ⟨.ack, some (wordOf 7)⟩] = some (7, 0) ∧
    (let s := (start 0 []).setReplies [⟨.ack, none⟩, ⟨.err, none⟩]
     (s.askBlock true 0x2000).1 = .err ∧ (s.askBlock false 0x2000).1 = .ack none) := by decide +kernel

/-- R315: a Reserved completion is ignored, and so is a data cycle with an unexpected request number; R343: the data before it stay, until
later ones overwrite them. -/
theorem test_ignored_responses : readWith [⟨.reserved, some (wordOf 7)⟩, ⟨.ack, none⟩] = some (7, 0) ∧
    readWith [⟨.reserved, some (wordOf 7)⟩, ⟨.reserved, none⟩, ⟨.ack, some (wordOf 9)⟩] = some (9, 0) ∧
    readWith [⟨.reserved, some (wordOf 7)⟩] = some (7, 0) ∧ (start 0 []).deliver .strayData = some (start 0 []).fresh := by decide +kernel

/-- R188, R190: a Kernel access to xksseg with KX = 1 and SX = 0 is an Address Error; R1023, D33: with the parameter, it goes to the 32-bit
Refill vector, though KX = 1. -/
theorem test_xksseg :
    let s := start 0x80 [(4, 0x4000000000001000)]
    let t : State := { s with params.xkssegRefill := true }
    takes s 0x8C820000 4 ∧ (after t 0x8C820000).map (fun u => (u.cp0.causeCode, u.pc)) = some (2, 0xFFFFFFFF80000000) ∧
    t.translate 0x4000100000000000 .load = .addressError := by decide +kernel

/-- R503: a speculated prefetch of an undefined hint fills nothing. -/
theorem test_speculated_prefetch : ((start 0 []).speculate .pref 2 0xFFFFFFFF80002000).caches.sTag = [] ∧
    ((start 0 []).speculate .pref 0 0xFFFFFFFF80002000).caches.sTag.length = 1 := by decide +kernel
/-- R248: a NACK rejects a speculated block read, and an ACK fills the block. -/
theorem test_speculation_nack :
    (((start 0 []).setReplies [⟨.nack, some .plain⟩]).speculate .load 2 0xFFFFFFFF80002000).caches.sTag = [] ∧
    (((start 0 []).setReplies [⟨.ack, some ⟨some 2, none, 0, false⟩⟩]).speculate .load 2 0xFFFFFFFF80002000).caches.sTag.length = 1 := by
  decide +kernel

/-- A DirtyExclusive secondary block, with a quadword spoilt, over an Inconsistent data block with a parity bit wrong or right. -/
def owned (parity : BitVec 4) : State :=
  (((start 0 []).setSTag ((start 0 []).sKey 0x2000 false) (sTagOf 0x2000 2 .dirtyExclusive)).setSQuad
    ((start 0 []).sKey 0x2000 false) 0 ⟨0, spoiltCheck 0⟩).setDTag 512 (dTagOf 2 .dirtyExclusive 0b010#3 false) |>.setDWord 512 0 ⟨0, parity⟩

/-- R266, R1153, as notes/assumptions/43.md has it: an intervention shared leaves a block in the refill state, and makes another one Shared. -/
theorem test_share_refilling :
    let share (mod : BitVec 3) : DTag :=
      (((start 0 []).setDTag 512 (dTagOf 2 .dirtyExclusive mod false)).dShare 256 0x2000 false).dTagAt 512
    share 0b100 = dTagOf 2 .dirtyExclusive 0b100 false ∧ share 0b001 = dTagOf 2 .shared 0b001 false := by decide +kernel

/-- R307: the data quality bit tells errors of what is sent: those of the data block, not those of the quadword it replaces. -/
theorem test_data_quality :
    ((owned 0).coherencyResponse .interventionExclusive 0x2000).data = some ⟨.dirtyExclusive, false⟩ ∧
    ((owned 1).coherencyResponse .interventionShared 0x2000).data = some ⟨.shared, true⟩ := by decide +kernel
/-- In noncorrection mode, a 16-word block of which the second and the fourth quadword are not zeros with good check bits. -/
def twoQuads (a b : SQuad) : State :=
  { State.reset with
    bus := { Bus.reset with modeBits := Bus.reset.modeBits &&& ~~~0x6000 }
    caches := { State.reset.caches with sData := [(33, a), (35, b)] } }

/-- A quadword of zeros with two check bits wrong, its parity bit wrong or right. -/
def spoilt (w : Bool) : SQuad := ⟨0, .given (BitVec.ofBool (parityBit (0 : QWord) != w) ++ (dataEcc 0 ^^^ 3#9))⟩

/-- What it answers: its parity, and the corrector's verdict. -/
theorem spoilt_reads (w : Bool) : (spoilt w).parityWrong = w ∧ (spoilt w).corrected.bad = true := by
  have h : (BitVec.ofBool (parityBit (0 : QWord) != w) ++ (dataEcc 0 ^^^ 3#9)).getLsbD 9 = (parityBit (0 : QWord) != w) :=
    (BitVec.getLsbD_append (x := BitVec.ofBool (parityBit (0 : QWord) != w)) (y := dataEcc 0 ^^^ 3#9) (i := 9)).trans (by simp)
  constructor
  · simp only [SQuad.parityWrong, spoilt, h]
    cases parityBit (0 : QWord) <;> cases w <;> rfl
  · exact (congrArg (fun c => (dataCorrect 0 c).bad) BitVec.extractLsb'_append_eq_right).trans (dataCorrect_spoilt 0)

/-- R304: in noncorrection mode a wrong ECC under a right parity bit is not found, unless the block is read again for another quadword. -/
theorem test_reread :
    let t := twoQuads (spoilt false) (spoilt true)
    (t.sReadQuads 8 0 2).bad = false ∧ (t.sReadQuads 8 2 2).bad = true ∧
      (t.sReadQuads 8 0 4).value.map Prod.snd = [false, true, false, true] := by
  have hq : (twoQuads (spoilt false) (spoilt true)).sQuads = 4 :=
    if_neg (by decide +kernel : ¬((Bus.reset.modeBits &&& ~~~0x6000).getLsbD 13 = true))
  have hc : (twoQuads (spoilt false) (spoilt true)).scCorEn = false :=
    (by decide +kernel : (Bus.reset.modeBits &&& ~~~0x6000).getLsbD 14 = false)
  have hd : (twoQuads (spoilt false) (spoilt true)).caches.sData = [(33, spoilt false), (35, spoilt true)] := rfl
  have hg (d : QWord) : SQuad.parityWrong ⟨d, .good⟩ = false ∧ (SQuad.corrected ⟨d, .good⟩).bad = false := ⟨rfl, rfl⟩
  simp [State.sReadQuads, State.sQuadsFrom, State.sQuadAt, hq, hc, hd, Sparse.get, SQuad.default, List.range, List.range.loop,
    spoilt_reads, hg]

/-- A DirtyExclusive secondary block of ones, and SysWrRdy* as told. -/
def dirtyBlock (ready : Bool) : State :=
  let s := cacheState 0xFFFFFFFF80002000 0 0
  ({ s with bus := { s.bus with wrRdy := ready } }.setSTag (s.sKey 0x2000 false) (sTagOf 0x2000 2 .dirtyExclusive)).setSQuad
    (s.sKey 0x2000 false) 0 ⟨BitVec.allOnes 128, .good⟩

/-- R344, R347, R357: Hit WriteBack Invalidate (S) writes the block to memory, with one block write request; with SysWrRdy* negated it
waits in the outgoing buffer, and a load of it and the next CACHE operation wait for it. -/
theorem test_outgoing :
    ((after (dirtyBlock true) 0xBC970000).map fun t => (Memory.read t.mem 0x2000, t.bus.sent.length, t.bus.outgoing.length)) =
      some (0xFF, 1, 0) ∧
    ((after (dirtyBlock false) 0xBC970000).map fun t => (t.mem.length, t.bus.sent.length, t.bus.outgoing.length, t.pc)) =
      some (0, 0, 1, 0xFFFFFFFFA0001004) ∧
    (((after (dirtyBlock false) 0xBC970000).bind fun t => after t 0x8C820000).map fun t => (t.pc, t.note)) =
      some (0xFFFFFFFFA0001004, .waiting) ∧
    (((after (dirtyBlock false) 0xBC970000).bind fun t => after t 0xBC940000).map fun t => (t.pc, t.note)) =
      some (0xFFFFFFFFA0001004, .waiting) ∧
    (((after (dirtyBlock false) 0xBC970000).bind fun t => t.deliver (.writeReady true)).map fun t =>
      (Memory.read t.mem 0x200F, t.bus.sent.length, t.bus.outgoing.length)) = some (0xFF, 1, 0) := by decide +kernel
/-- R401: an intervention makes the block write pending issue a data response, and an invalidate deletes it; either is told
DirtyExclusive. R344: the special entry holds one response. -/
theorem test_outgoing_conflicts :
    let pending := after (dirtyBlock false) 0xBC970000
    ((pending.bind fun t => t.deliver (.coherency .interventionShared 0x2000)).map fun t => t.bus.outgoing.map Outgoing.kind) =
      some [.converted 0x2000] ∧
    ((pending.bind fun t => t.deliver (.coherency .invalidate 0x2000)).map fun t => t.bus.outgoing.length) = some 0 ∧
    (pending.map fun t => t.coherencyResponse .interventionExclusive 0x2000) = some ⟨.dirtyExclusive, false, some ⟨.dirtyExclusive, false⟩⟩ ∧
    ((dirtyBlock false).deliver (.coherency .interventionShared 0x2000)).map (fun t => t.bus.outgoing.map Outgoing.kind) =
      some [.special .shared 0x2000] ∧
    ((dirtyBlock false).setOutgoing [⟨.special .shared 0, 0, false, []⟩]).deliver (.coherency .interventionShared 0x2000) = none := by
  decide +kernel
/-- R440: an uncached store is one write request of its size, at its address; in cache test mode another agent still writes memory. -/
theorem test_bus_writes :
    ((after (data 7) 0xA4820002).map fun t => match t.bus.sent with
      | [.single pa cause _ g] => (pa, cause, g.lanes)
      | _ => (0, 0, 0)) = some (0x2002, 1, 0x30) ∧
    ((({ start 0 [] with ctm := ⟨true, none⟩ } : State).deliver (.memory 0x2000 0x80 0x1200000000000000)).map fun t =>
      Memory.read t.mem 0x2000) = some 0x12 := by decide +kernel

/-- R440: an uncached load is one read request for the bytes it loads, and so is an uncached fetch; the partial forms ask for their bytes
alone. -/
theorem test_bus_reads :
    ((after (data 7) 0x84820002).map fun t => t.bus.sent) = some [.read 0x2002 2 3] ∧
    ((after (data 7) 0x88820001).map fun t => t.bus.sent) = some [.read 0x2001 3 3] ∧
    ((after (little (data 7)) 0x88820001).map fun t => t.bus.sent) = some [.read 0x2000 2 3] ∧
    ((stepped (State.reset.withFetchWord 32 0x34028000)).map fun t => t.bus.sent) = some [.read 0x1FC00000 4 3] := by decide +kernel
/-- R349: a coherency data response goes out before a block write that is older. -/
theorem test_issue_order :
    (((dirtyBlock false).setOutgoing [⟨.write, 0x3000, false, [(1, false)]⟩, ⟨.special .shared 0x4000, 0x4000, false, [(2, false)]⟩]).deliver
      (.writeReady true)).map (fun t => t.bus.sent) = some [.response 0x4000 .shared [(2, false)], .block 0x3000 false [(1, false)]] := by
  decide +kernel
/-- The coherency responses sent: a former state; the state of a data response, its address and which of its quadwords are not zero. -/
def responses (t : State) : List (BlockState × PAddr × List Bool) :=
  t.bus.sent.filterMap fun
    | .stateResponse former _ => some (former, 0, [])
    | .response pa state l => some (state, pa, l.map fun x => x.1 != 0)
    | _ => none

/-- A block write pending issue that an intervention shared of its second quadword hits. -/
def waitingResponse : Option State :=
  ((dirtyBlock false).setOutgoing [⟨.write, 0x2000, false, [(1, false), (0, false)]⟩]).deliver (.coherency .interventionShared 0x2010)

/-- A DirtyExclusive block, whose first quadword is not zero, answers a request so. -/
def respondsTo (r : CoherencyRequest) (pa : PAddr) (l : List (BlockState × PAddr × List Bool)) : Bool :=
  ((dirtyBlock true).deliver (.coherency r pa)).map responses == some l

/-- R352, R396, R397, R400: the state response, then the data response, with its state, from the quadword asked for on in subblock order. -/
theorem test_coherency_responses :
    respondsTo .interventionShared 0x2028 [(.dirtyExclusive, 0, []), (.shared, 0x2020, [false, false, true, false])] ∧
    respondsTo .interventionExclusive 0x2010 [(.dirtyExclusive, 0, []), (.dirtyExclusive, 0x2010, [false, true, false, false])] ∧
    respondsTo .invalidate 0x2010 [(.dirtyExclusive, 0, [])] := by decide +kernel

/-- R397, R401: while a data response waits SysState[0] says so; that of an entry which was a block write is DirtyExclusive. -/
theorem test_waiting_response :
    waitingResponse.map State.responsePending = some true ∧
    (waitingResponse.bind fun t => t.deliver (.writeReady true)).map (fun t => (responses t, t.responsePending)) =
      some ([(.dirtyExclusive, 0, []), (.dirtyExclusive, 0x2010, [false, true])], false) := by decide +kernel
/-- R307: a block write marks the quadword in which the data cache had a parity error. -/
theorem test_block_write_flags :
    let s := ((dirtyBlock true).setDTag 512 (dTagOf 2 .dirtyExclusive 0b010#3 false)).setDWord 512 5 ⟨0, 1⟩
    ((after s 0xBC970000).map fun t => match t.bus.sent with
      | [.block pa way quads] => (pa, way, quads.map Prod.snd)
      | _ => (0, false, [])) = some (0x2000, false, [false, true, false, false]) := by decide +kernel
/-- R513, R218: to an address with a reserved algorithm SC stops with the link intact, and writes 0 without it. -/
theorem test_sc_reserved_algorithm : reg (start 0x80 [(4, 0x8000000000002000), (2, 7)]) 0xE0820000 2 = some 0 ∧
    faults (linked (start 0x80 [(4, 0x8000000000002000), (2, 7)])) 0xE0820000 = some .reservedCacheAlgorithm := by decide +kernel
/-- D14, R1201: an error arises in an array in cache test mode too. -/
theorem test_array_error_in_test_mode :
    (({ start 0 [] with ctm := ⟨true, none⟩ } : State).deliver (.arrayError (.iTag 3 4))).map (fun t => (t.iTagAt 3).valid) = some true := by
  decide +kernel

/-- R267, R268: the data blocks of a secondary block follow it to DirtyExclusive. -/
theorem test_data_state_follows :
    (((start 0 []).setDTag 513 (dTagOf 2 .shared 1 false)).own 0x2000 0x2000 false).dTagAt 513 = dTagOf 2 .dirtyExclusive 1 false := by
  decide +kernel

/-- The state of Q1 to Q3. -/
def running : State :=
  linked (withCp0 { start 0xFF01 [] with pc := 0xFFFFFFFFA0001234, pending := { Pending.reset with interrupt := 1 } } fun c =>
    { c with random := 17, wired := 9 })

/-- Q2: Soft Reset. -/
theorem test_soft_reset : ((running.deliver (.softReset [])).bind stepped).map
    (fun t => (t.cp0.status, t.cause, t.pc, t.cp0.wired, t.link.bit)) =
      some (0x0050FF05, 0, 0xFFFFFFFFBFC00000, 9, false) := by decide +kernel
/-- Q3: NMI. -/
theorem test_nmi : ((running.deliver .nmi).bind stepped).map
    (fun t => (t.cp0.status, t.cause, t.pc, t.cp0.errorEpc, t.link.bit)) =
      some (0x0058FF05, 0x400, 0xFFFFFFFFBFC00000, 0xFFFFFFFFA0001234, false) := by decide +kernel
/-- R1136: the boundary scan register has 333 cells. -/
theorem test_boundary_pins : boundaryPins.length = 333 := by decide +kernel
/-- R1135: what boundary scan finds on the pins: what the environment gives, and of the pins that the state holds their levels. -/
theorem test_pin_levels :
    let s : State := { start 0 [] with bus.wrRdy := false }
    let see (t : State) (pins : BitVec 333) : List (Option Bool) :=
      [.single "SysWrRdy*", .single "SysGblPerf*", .sysState 0, .sysAd 5].map fun p : Pin => p.bit.map (t.pinLevels pins).getLsbD
    see s 0 = [some true, some false, some false, some false] ∧
    see s (BitVec.allOnes 333) = [some true, some false, some false, some true] ∧
    see (s.setOutgoing [⟨.special .shared 0, 0, false, []⟩]) (BitVec.allOnes 333) = [some true, some false, some true, some true] ∧
    (({ s with jtag := { Jtag.reset with tap := .captureDr, ir := 0 } } : State).deliver (.jtag false false 0)).map (·.jtag.tap) =
      some .shiftDr := by decide +kernel
/-- Q1: Cold Reset. -/
theorem test_cold_reset : ((running.deliver (.coldReset Config.resetModeBits)).bind stepped).map
    (fun t => (t.cp0.status &&& 0x00700004, t.cp0.random, t.cp0.wired, t.pc)) =
      some (0x00400004, 63, 0, 0xFFFFFFFFBFC00000) := by decide +kernel
/-- A word placed at the reset vector runs as the first instruction. -/
theorem test_first_instruction :
    (stepped (State.reset.withFetchWord 32 0x34028000)).map (fun t => (t.gpr 2, t.pc)) = some (0x8000, 0xFFFFFFFFBFC00004) := by
  decide +kernel

/-! ## Witnesses: the hypotheses of each obligation, met together -/

/-- Kernel mode with CP1 usable and FR = 1; r1 and r2 at the ends of the 32-bit range. -/
def kernel : State := start 0x24000000 [(1, 0x7FFFFFFF), (2, 0xFFFFFFFF80000000), (3, 0x80000000), (4, 0xFFFFFFFFA0002000)]

/-- User mode with CP1 usable, outside MIPS III and MIPS IV. -/
def userFp : State := start 0x20000010 []

/-- In the delay slot of a taken branch. -/
def slotted : State := { kernel with delay := .slot (some 0xFFFFFFFFA0002000) }

/-- RegisterZeroIsConstantAndFallingThroughAdvances. -/
theorem witness_registers : (31#5 : BitVec 5) ≠ 0#5 ∧ kernel.delay = .none ∧ slotted.delay = .slot (some 0xFFFFFFFFA0002000) ∧
    ({ kernel with delay := .slot none } : State).delay = .slot none := by decide +kernel

/-- IntegerOverflowTrapsOnlyInTheSignedForms, ShiftsMultiplyAndDivideByPowersOfTwo, MultipliesLeaveTheExactProductInHiAndLo. -/
theorem witness_words : FitsWord (kernel.gpr 1) ∧ FitsWord (kernel.gpr 2) ∧ FitsWord (kernel.gpr 0) ∧ kernel.mips3 = true ∧
    (kernel.gpr 1).toInt + (kernel.gpr 0).toInt = 2 ^ 31 - 1 ∧ (kernel.gpr 2).toInt - (kernel.gpr 0).toInt = -2 ^ 31 := by
  unfold FitsWord; decide +kernel

/-- DividesTruncateAndTheRemainderHasTheDividendsSign. -/
theorem witness_divide : FitsWord (kernel.gpr 2) ∧ FitsWord (kernel.gpr 1) ∧ (kernel.gpr 1).toInt ≠ 0 ∧ kernel.mips3 = true ∧
    ¬ ((kernel.gpr 2).toInt = -2 ^ 31 ∧ (kernel.gpr 1).toInt = -1) ∧
    ¬ ((kernel.gpr 2).toInt = -2 ^ 63 ∧ (kernel.gpr 1).toInt = -1) := by unfold FitsWord; decide +kernel

/-- UndefinedIntegerResultsRaiseNothing: 2^31 is no sign-extended word; the divisions by zero and the overflowing ones. -/
theorem witness_undefined_results : ¬ FitsWord (kernel.gpr 3) ∧ ¬ (FitsWord (kernel.gpr 3) ∧ FitsWord (kernel.gpr 1)) ∧
    (kernel.gpr 0).toNat % 2 ^ 32 = 0 ∧ kernel.gpr 0 = 0#64 ∧ kernel.mips3 = true ∧
    ((start 0 [(1, 0xFFFFFFFF80000000), (2, 0xFFFFFFFFFFFFFFFF)]).gpr 1).toInt = -2 ^ 31 ∧
    ((start 0 [(1, 0x8000000000000000), (2, 0xFFFFFFFFFFFFFFFF)]).gpr 1).toInt = -2 ^ 63 ∧
    ((start 0 [(1, 0x8000000000000000), (2, 0xFFFFFFFFFFFFFFFF)]).gpr 2).toInt = -1 := by unfold FitsWord; decide +kernel

/-- HiLoMovesAndConditionalMoves, and the gating clauses of the floating-point statements: CP1 usable or not, MIPS III and MIPS IV
enabled or not. -/
theorem witness_gating : kernel.mips4 = true ∧ kernel.mips3 = true ∧ kernel.cu1 = true ∧ (start 0 []).cu1 = false ∧
    (start 0 []).mips4 = true ∧ userFp.cu1 = true ∧ userFp.mips4 = false ∧ userFp.mips3 = false ∧ (7#3 : BitVec 3) ≠ 0#3 := by
  decide +kernel

/-- The branches and jumps, outside a delay slot; FloatingPointBranchesTestTheirCondition in its four cases. -/
theorem witness_branches : kernel.delay = .none ∧ kernel.cu1 = true ∧ kernel.mips4 = true ∧ userFp.delay = .none ∧
    userFp.cu1 = true ∧ userFp.mips4 = false ∧ (start 0 []).delay = .none ∧ (start 0 []).cu1 = false := by decide +kernel

/-- TransfersInADelaySlotStop: with MIPS IV, and outside it. -/
theorem witness_delay_slot : slotted.delay ≠ .none ∧ slotted.cu1 = true ∧ slotted.mips4 = true ∧ slotted.cp0Usable = true ∧
    ({ userFp with delay := .slot none } : State).delay ≠ .none ∧ userFp.cu1 = true ∧ userFp.mips4 = false := by
  decide +kernel

/-- ExceptionEntrySavesThePcAndANestedOneKeepsIt, TlbExceptionsRecordTheAddressAndChooseTheVector. -/
theorem witness_exceptions : kernel.exl = false ∧ kernel.delay = .none ∧ slotted.exl = false ∧ slotted.delay ≠ .none ∧
    (start 2 []).exl = true := by decide +kernel

/-- And the addresses that cannot be translated: the forms in Kernel mode and in User mode outside MIPS III; Address Error, Refill,
Invalid and Modified for a data access, and for a fetch. -/
theorem witness_untranslated :
    ([kernel, userFp].map fun s => ((s.loadForms 4 0 2 0).length, (s.storeForms 4 0 2 0).length, (s.scForms 4 2 0).length)) =
      [(17, 12, 2), (10, 7, 1)] ∧
    (∀ p ∈ kernel.loadForms 4 0 2 0 ++ (kernel.storeForms 4 0 2 0).map StoreForm.toMemForm ++ kernel.scForms 4 2 0,
      (kernel.dataAddress p.va).toNat % p.align = 0) ∧
    (∀ k ∈ [Access.load, .store, .fetch], kernel.translate 0x80000000 k = .addressError ∧ kernel.translate 0x2000 k = .refill) ∧
    (∀ k ∈ [Access.load, .store, .fetch],
      ({ tlbN 5 with tlb := (tlbN 5).tlb.set 3 { entryN with even := TlbPage.zero } } : State).translate 0x18000 k = .invalid) ∧
    (tlbN 5).translate 0x1C000 .store = .modified :=
  ⟨by decide +kernel, by decide +kernel, by decide +kernel, by decide +kernel, by decide +kernel⟩

/-- EretReturnsThroughErrorEpcOrEpc. -/
theorem witness_eret : (start 4 []).cp0Usable = true ∧ (start 4 []).delay = .none ∧ (start 4 []).erl = true ∧
    (start 0 []).cp0Usable = true ∧ (start 0 []).delay = .none ∧ (start 0 []).erl = false ∧ (user []).cp0Usable = false := by
  decide +kernel

/-- A state with the timer interrupt pending. -/
def timerPending (status : Word) : State := { start status [] with pending := { Pending.reset with timer := true } }

/-- Nothing but the timer interrupt is pending when the step begins. -/
def onlyTimer (s : State) : Bool :=
  !s.ctm.active && s.tick.pending.coldReset.isNone && !s.tick.pending.softReset && !s.tick.pending.nmi &&
    !s.tick.pending.cacheErr && !s.tick.pending.watch && s.tick.ip == 0x80

/-- InterruptsAreTakenBeforeTheNextInstruction: taken, and masked by IE, EXL, ERL or IM. -/
theorem witness_interrupts :
    (onlyTimer (timerPending 0x8001) = true ∧ (timerPending 0x8001).ie = true ∧ (timerPending 0x8001).exl = false ∧
      (timerPending 0x8001).erl = false ∧ (timerPending 0x8001).im = 0x80) ∧
    (onlyTimer (timerPending 0x8000) = true ∧ (timerPending 0x8000).ie = false) ∧
    (onlyTimer (timerPending 0x8003) = true ∧ (timerPending 0x8003).exl = true) ∧
    (onlyTimer (timerPending 0x8005) = true ∧ (timerPending 0x8005).erl = true) ∧
    (onlyTimer (timerPending 0x0001) = true ∧ (timerPending 0x0001).im = 0) := by decide +kernel

/-- A state with a delayed Watch pending. -/
def watchPending (status : Word) : State := { start status [] with pending := { Pending.reset with watch := true } }

/-- And its premises on time and on the delayed Watch: no hang; an interrupt that has waited as long as InterruptLatency, or not;
a Watch with EXL and ERL clear, or set. -/
theorem witness_latency_and_watch : (timerPending 0x8001).bus.hung = false ∧
    (timerPending 0x8001).params.interruptLatency ≤ (timerPending 0x8001).pending.waited ∧
    ¬ (({ timerPending 0x8001 with params := { Params.default with interruptLatency := 1 } } : State).params.interruptLatency ≤
      (timerPending 0x8001).pending.waited) ∧
    (watchPending 0).pending.watch = true ∧ (watchPending 0).ctm.active = false ∧ (watchPending 0).tick.ip &&& (watchPending 0).im = 0 ∧
    (watchPending 0).exl = false ∧ (watchPending 0).erl = false ∧ (watchPending 2).exl = true ∧ (watchPending 4).erl = true ∧
    (watchPending 0).tick.pending.cacheErr = false := by decide +kernel

/-- UnusableCoprocessorsTakeTheirException, DisabledInstructionSetsTakeReservedInstruction. -/
theorem witness_modes : (user []).mode ≠ .kernel ∧ (user []).cp0.status.getLsbD 28 = false ∧
    (user []).cp0.status.getLsbD 30 = false ∧ (start 0x40000000 []).cp0.status.getLsbD 30 = true ∧
    (start 0 []).cp0Usable = true ∧ (user []).mode = .user ∧ (user []).cp0.status.getLsbD 5 = false ∧
    (user []).cp0.status.getLsbD 31 = false ∧ (start 8 []).mode = .supervisor ∧ (start 8 []).cp0.status.getLsbD 6 = false ∧
    (start 0x18 []).mode = .user ∧ (start 0 []).mode = .kernel ∧ (start 0x10000010 []).cp0Usable = true ∧
    (start 0x10000010 []).mode = .user ∧ (start 0x10000010 []).cp0.status.getLsbD 5 = false ∧
    (start 0x10000008 []).cp0Usable = true ∧ (start 0x10000008 []).mode = .supervisor := by decide +kernel

/-- Mtc0ChangesExactlyTheWritableBits, DoublewordMovesReachTheSixtyFourBitRegisters: in Kernel mode and in User mode with CU0. -/
theorem witness_cp0 : kernel.cp0Usable = true ∧ kernel.mips3 = true ∧ kernel.cp0.reservedZero = true ∧
    (start 0x10000030 []).cp0Usable = true ∧ (start 0x10000030 []).mips3 = true ∧
    (start 0x10000030 []).cp0.reservedZero = true ∧ kernel.params.diag = Params.default.diag ∧
    (13#5 : BitVec 5) ∉ [7#5, 22#5, 23#5, 24#5, 31#5] := by decide +kernel

/-- R113, R1083: MFC0 of Cause shows its fields and the live sources of IP. -/
theorem test_cause : reg { withCp0 kernel (fun c => { c with causeBd := true, causeCe := 1, causeCode := 11, causeIpSw := 2 }) with
    pending := { Pending.reset with timer := true, interrupt := 5 } } 0x40026800 2 = some 0xFFFFFFFF9000962C := by decide +kernel

/-- PerformanceRegistersReadBackWhatWasWritten: its register numbers; counting in each mode, and not with ERL set or the enable
clear; the events 15, 1 and 7; what was no instruction that graduated. -/
theorem witness_performance : kernel.cp0Usable = true ∧ (0#5 : BitVec 5).toNat ≤ 1 ∧ (1#5 : BitVec 5).toNat ≤ 1 ∧
    1 < (2#5 : BitVec 5).toNat ∧ kernel.counting 0x1F8 = true ∧ kernel.counting 0x1F7 = false ∧
    (start 2 []).counting 0x21 = true ∧ (start 4 []).counting 0x2F = false ∧ (start 8 []).counting 0x24 = true ∧
    (user []).cp0Usable = false ∧ (user []).counting 0xE2 = true ∧ (user []).counting 0xED = false ∧ (0x1F8#32).extractLsb' 5 4 = 15#4 ∧
    (0x21#32).extractLsb' 5 4 = 1#4 ∧ (0xE2#32).extractLsb' 5 4 = 7#4 ∧ countKind (.mult 1 2) = .mulDiv ∧
    countKind (.add 1 2 3) ≠ .mulDiv ∧ countKind (.ctc1 2 31) = .fp ∧ (kernel.tlbRefill false 0).note = .excepted true := by decide +kernel

/-- TimerInterruptIsSetByEqualityAndClearedByCompare. -/
theorem witness_timer : kernel.cp0Usable = true ∧ (kernel.gpr 0).extractLsb' 0 32 = kernel.cp0.compare ∧
    (kernel.gpr 1).extractLsb' 0 32 ≠ kernel.cp0.compare ∧ (kernel.gpr 1).extractLsb' 0 32 ≠ kernel.cp0.count := by
  decide +kernel

/-- TlbWritesAndReadsTransferTheEntry: the largest page, and a PageMask outside the table. -/
theorem witness_tlb_write :
    (withCp0 kernel fun c => { c with pageMask := 0x01FFE000 }).cp0Usable = true ∧
    (withCp0 kernel fun c => { c with pageMask := 0x01FFE000 }).cp0.reservedZero = true ∧
    (withCp0 kernel fun c => { c with pageMask := 0x01FFE000 }).cp0.pageMask.extractLsb' 13 12 ∈
      [0x000#12, 0x003#12, 0x00F#12, 0x03F#12, 0x0FF#12, 0x3FF#12, 0xFFF#12] ∧
    (withCp0 kernel fun c => { c with pageMask := 0x2000 }).cp0.reservedZero = true ∧
    (withCp0 kernel fun c => { c with pageMask := 0x2000 }).cp0.pageMask.extractLsb' 13 12 ∉
      [0x000#12, 0x003#12, 0x00F#12, 0x03F#12, 0x0FF#12, 0x3FF#12, 0xFFF#12] := by decide +kernel

/-- And a slot that the entry written clashes with, one it does not, and a dead one. -/
theorem witness_tlb_clash :
    ({ tlbN 5 with cp0 := { (tlbN 5).cp0 with entryHi := 0x18005, pageMask := 0x6000 } } : State).cp0.tlbEntry.overlaps
      ((tlbN 5).tlb.get 3) = true ∧ (tlbN 6).cp0.tlbEntry.overlaps ((tlbN 6).tlb.get 3) = false ∧
    ((tlbN 5).tlb.get 4).dead = true := by decide +kernel

/-- The outcome is a next state. -/
def nexts (o : Out) : Bool :=
  match o with
  | .next _ => true
  | _ => false

/-- Then there is one. -/
theorem nexts_exists {o : Out} (h : nexts o = true) : ∃ t, o = .next t := by
  cases o with
  | next t => exact ⟨t, rfl⟩
  | fault _ => cases h
  | refused _ => cases h

/-- The access succeeds. -/
def succeeds {α : Type} (a : Acc α) : Bool :=
  match a with
  | .ok _ _ => true
  | _ => false

/-- Then it has a value and a state. -/
theorem succeeds_exists {α : Type} {a : Acc α} (h : succeeds a = true) : ∃ v t, a = .ok v t := by
  cases a with
  | ok v t => exact ⟨v, t, rfl⟩
  | trap _ => cases h
  | stop _ => cases h

/-- ProbeFindsTheEntryJustWrittenOrSetsTheProbeBit. -/
theorem witness_probe : (∃ t, kernel.cp0Usable = true ∧ exec .tlbwi kernel = .next t ∧ t.cp0Usable = true) ∧
    (∀ j : Fin 64, (kernel.tlb.get j).hits (kernel.cp0.entryHi.extractLsb' 62 2) (kernel.cp0.entryHi.extractLsb' 13 31)
      kernel.asid = false) := by
  refine ⟨?_, by decide +kernel⟩
  have h : (match exec .tlbwi kernel with | .next t => t.cp0Usable | _ => false) = true := by decide +kernel
  obtain ⟨t, ht⟩ := nexts_exists (o := exec .tlbwi kernel) (by decide +kernel)
  exact ⟨t, by decide +kernel, ht, by rw [ht] at h; exact h⟩

/-- MappedAddressesGoThroughTheMatchingEntry: no match; one match with a valid and writable page (16 Kbytes), and the other cases. -/
theorem witness_mapped : (tlbN 6).segment 0x1A345 = .mapped ∧
    (∀ i : Fin 64, ((tlbN 6).tlb.get i).matchesVa 0x1A345 (tlbN 6).asid = false) ∧
    (tlbN 5).segment 0x1A345 = .mapped ∧ ((tlbN 5).tlb.get 3).matchesVa 0x1A345 (tlbN 5).asid = true ∧
    (∀ i : Fin 64, i ≠ 3 → ((tlbN 5).tlb.get i).matchesVa 0x1A345 (tlbN 5).asid = false) ∧
    ((tlbN 5).tlb.get 3).mask = BitVec.ofNat 12 (2 ^ 2 - 1) ∧ ((tlbN 5).tlb.get 3).even.v = true ∧
    ((tlbN 5).tlb.get 3).even.d = true ∧ ((tlbN 5).tlb.get 3).odd.v = true ∧ ((tlbN 5).tlb.get 3).odd.d = false ∧
    (∀ n ∈ [0, 2, 4, 6, 8, 10, 12],
      ({ entryN with mask := BitVec.ofNat 12 (2 ^ n - 1), even := TlbPage.zero } : TlbEntry).even.v = false) := by
  decide +kernel

/-- SegmentsFixWhatIsMappedAndWhatIsLegal, at both ends of each range. -/
theorem witness_segments : kernel.mode = .kernel ∧ (start 4 []).erl = true ∧ (start 0x10 []).mode = .user ∧
    (start 0x10 []).ux = false ∧ (start 0x30 []).mode = .user ∧ (start 0x30 []).ux = true ∧
    kernel.translate 0xFFFFFFFF80000000 .fetch = .ok ⟨0, 3, 0b11⟩ ∧
    kernel.translate 0xFFFFFFFF9FFFFFFF .load = .ok ⟨0x1FFFFFFF, 3, 0b11⟩ ∧
    kernel.translate 0xFFFFFFFFA0000000 .store = .ok ⟨0, 2, 0b11⟩ ∧
    kernel.translate 0xFFFFFFFFBFFFFFFF .load = .ok ⟨0x1FFFFFFF, 2, 0b11⟩ ∧
    (start 4 []).translate 0x7FFFFFFF .load = .ok ⟨0x7FFFFFFF, 2, 0⟩ ∧
    (start 0x10 []).translate 0x80000000 .load = .addressError ∧
    (start 0x30 []).translate 0x100000000000 .load = .addressError := by decide +kernel

/-- The same: xkphys with its two windows and beyond them, and what is mapped, or illegal, at the ends of the ranges of each mode. -/
theorem witness_segments_64 : (start 0x80 []).kx = true ∧ (start 0x80 []).mode = .kernel ∧
    (start 0x80 []).translate 0xBE000000000000FF .load = .ok ⟨0xFF, 7, 3⟩ ∧
    (start 0x80 []).translate 0xBE01000000000000 .load = .addressError ∧
    (start 0x80 []).translate 0x9A00000000000000 .load = .addressError ∧
    ([((0x10 : Word), (0x7FFFFFFF : DWord)), (0x30, 0xFFFFFFFFFFF), (0x08, 0x7FFFFFFF), (0x08, 0xFFFFFFFFDFFFFFFF), (0x68, 0xFFFFFFFFFFF),
      (0x48, 0x40000FFFFFFFFFFF), (0, 0x7FFFFFFF), (0, 0xFFFFFFFFFFFFFFFF), (0xA0, 0xFFFFFFFFFFF), (0xC0, 0x40000FFFFFFFFFFF),
      (0x80, 0xC0000FFEFFFFFFFF)].all fun p => match (start p.1 []).segment p.2 with | .mapped => true | _ => false) = true ∧
    ([((0x08 : Word), (0x80000000 : DWord)), (0x08, 0xFFFFFFFFE0000000), (0x48, 0x80000000), (0x48, 0x4000100000000000), (0, 0x80000000),
      (0xA4, 0x80000000), (0x80, 0x4000000000000000), (0x80, 0xC0000FFF00000000), (0x80, 0x100000000000)].all
      fun p => match (start p.1 []).segment p.2 with | .illegal => true | _ => false) = true := by decide +kernel

/-- MisalignedAccessesTakeAddressError: r1 is odd; r4 is 2 modulo 4 with offset 2. -/
theorem witness_misaligned : (kernel.dataAddress (kernel.ea 1 0)).toNat % 2 ≠ 0 ∧
    (kernel.dataAddress (kernel.ea 4 2)).toNat % 4 ≠ 0 ∧ (kernel.dataAddress (kernel.ea 4 4)).toNat % 8 ≠ 0 ∧
    (kernel.dataAddress (kernel.eaIndexed 4 1)).toNat % 4 ≠ 0 ∧ kernel.mips3 = true ∧ kernel.mips4 = true ∧ kernel.cu1 = true ∧
    kernel.fr = true ∧ (start 0x20000000 []).fr = false ∧ (start 0x20000000 []).cu1 = true ∧ (3#5 : BitVec 5).getLsbD 0 = true := by
  decide +kernel

/-- A plain access of the last doubleword of kseg1, or of its first. -/
theorem witness_plain (store : Bool) (n : Nat) (h : n = 1 ∨ n = 2 ∨ n = 4 ∨ n = 8) :
    kernel.Plain 0xFFFFFFFFBFFFFFF8 n store ∧ kernel.Plain 0xFFFFFFFFA0000000 n store := by
  cases store <;> rcases h with rfl | rfl | rfl | rfl <;>
    exact ⟨⟨by decide, by decide, by decide, by decide, by decide +kernel, rfl, rfl, rfl, rfl, rfl, rfl⟩,
      ⟨by decide, by decide, by decide, by decide, by decide +kernel, rfl, rfl, rfl, rfl, rfl, rfl⟩⟩

/-- A plain byte access of the last byte of kseg1. -/
theorem witness_plain_byte (store : Bool) : kernel.PlainByte 0xFFFFFFFFBFFFFFFF store := by
  cases store <;> exact ⟨by decide, by decide, by decide, by decide, by decide +kernel, rfl, rfl, rfl, rfl, rfl, rfl⟩

/-- The addresses of the plain accesses as an instruction forms them, memory in its canonical form, and the states of the
floating-point and linked forms. -/
theorem witness_plain_states : kernel.ea 4 0 = 0xFFFFFFFFA0002000 ∧ kernel.eaIndexed 4 0 = 0xFFFFFFFFA0002000 ∧
    Memory.wf kernel.mem = true ∧ kernel.cu1 = true ∧ kernel.mips4 = true ∧ kernel.fr = true ∧
    (start 0x20000000 []).fr = false ∧ (3#5 : BitVec 5).getLsbD 0 = true ∧ (2#5 : BitVec 5).getLsbD 0 = false ∧
    kernel.link.bit = false ∧ (linked kernel).link.bit = true ∧ (linked kernel).link.uncached = false := by decide +kernel

/-- An uncached store as it waits in the FIFO. -/
def waiting (accelerated : Bool) : UncachedStore := ⟨accelerated, 0x2000, 0, some 8, ⟨0x2000, 0xFF, 5⟩⟩

/-- PrefetchAndSyncChangeNoRegister: SYNC with an empty buffer, with an accelerated store in it, with another one, and with
SysGblPerf* negated; a cached address whose tags are not in the refill state, for a hint of either kind. -/
theorem witness_prefetch : ((∀ x ∈ kernel.bus.fifo, x.accelerated = true) ∧ ∀ b ∈ kernel.bus.ready, b.accelerated = true) ∧
    kernel.bus.gblPerf = true ∧ (∀ x ∈ (kernel.setFifo [waiting true]).bus.fifo, x.accelerated = true) ∧
    (∀ b ∈ (kernel.setReady [⟨true, true, 2, 0, []⟩]).bus.ready, b.accelerated = true) ∧
    (∃ x ∈ (kernel.setFifo [waiting false]).bus.fifo, x.accelerated = false) ∧
    (∃ b ∈ (kernel.setReady [⟨false, false, 1, 0, []⟩]).bus.ready, b.accelerated = false) ∧
    (kernel.deliver (.globallyPerformed false)).map (·.bus.gblPerf) = some false ∧ kernel.cu1 = true ∧
    (∀ k ∈ [Access.store, .pref], kernel.translate 0xFFFFFFFF80002000 k = .ok ⟨0x2000, 3, 0b11⟩) ∧
    (∀ w, (kernel.dTagAt (wayKey (dSet 0xFFFFFFFF80002000) w)).mod ≠ 0b100#3) :=
  ⟨by decide +kernel, by decide +kernel, by decide +kernel, by decide +kernel, ⟨waiting false, by decide +kernel, rfl⟩,
    ⟨⟨false, false, 1, 0, []⟩, by decide +kernel, rfl⟩, by decide +kernel, by decide +kernel, by decide +kernel, by decide +kernel⟩

/-- The same: an address that is uncached, and one that cannot be translated. -/
theorem witness_prefetch_uncached : kernel.mips4 = true ∧ kernel.cu1 = true ∧
    (∀ k q, kernel.translate 0xFFFFFFFFA0002000 k = .ok q → algCached q.alg = false) ∧
    (∀ k q, kernel.translate 0x2000 k = .ok q → algCached q.alg = false) := by
  refine ⟨by decide, by decide, fun k q h => ?_, fun k q h => ?_⟩
  · have : kernel.translate 0xFFFFFFFFA0002000 k = .ok ⟨0x2000, 2, 0b11⟩ := by cases k <;> decide +kernel
    rw [this] at h; cases h; decide
  · have : kernel.translate 0x2000 k = .refill := by cases k <;> decide +kernel
    rw [this] at h; cases h

/-- The block at 0x2000 in way 0 of the data cache and of the secondary cache, DirtyExclusive. -/
def hot : State :=
  (kernel.setSTag (kernel.sKey 0x2000 false) (sTagOf 0x2000 2 .dirtyExclusive)).setDTag 512 (dTagOf 2 .dirtyExclusive 0b001#3 false)

/-- AccessesThatSucceedCompleteAndTouchNoRegister: loads and stores of every size succeed, uncached (r4) and through the caches. -/
theorem witness_accesses (n : Nat) (h : n = 1 ∨ n = 2 ∨ n = 4 ∨ n = 8) :
    (∃ v t, kernel.read 0xFFFFFFFFA0002000 n = .ok v t) ∧ (∃ u t, kernel.write 0xFFFFFFFFA0002000 n 5 = .ok u t) ∧
    (∃ v t, hot.read 0xFFFFFFFF80002000 n = .ok v t) ∧ (∃ u t, hot.write 0xFFFFFFFF80002000 n 5 = .ok u t) := by
  rcases h with rfl | rfl | rfl | rfl <;> exact ⟨succeeds_exists (by decide +kernel), succeeds_exists (by decide +kernel),
    succeeds_exists (by decide +kernel), succeeds_exists (by decide +kernel)⟩

/-- The same of the linked, partial and conditional accesses: of a word and of a doubleword, with the link intact and without it. -/
theorem witness_other_accesses (n : Nat) (h : n = 4 ∨ n = 8) (l : Bool) :
    (∃ v t, kernel.readPhys 0xFFFFFFFFA0002000 n = .ok v t) ∧ (∃ v t, kernel.readPart 0xFFFFFFFFA0002003 n l = .ok v t) ∧
    (∃ u t, kernel.writePart 0xFFFFFFFFA0002003 n l 5 = .ok u t) ∧
    (∃ ok t, kernel.writeLinked 0xFFFFFFFFA0002000 n 5 = .ok ok t) ∧
    (∃ ok t, (linked kernel).writeLinked 0xFFFFFFFFA0002000 n 5 = .ok ok t) := by
  rcases h with rfl | rfl <;> cases l <;> exact ⟨succeeds_exists (by decide +kernel), succeeds_exists (by decide +kernel),
    succeeds_exists (by decide +kernel), succeeds_exists (by decide +kernel), succeeds_exists (by decide +kernel)⟩

/-- A watchpoint for loads and stores on the doubleword at r4, in kseg1; CP1 usable. -/
def watched (status : Word) : State :=
  withCp0 (start (0x24000000 ||| status) [(4, 0xFFFFFFFFA0002000)]) fun c => { c with watchLo := 0x2003 }

/-- Every load and store at 0(r4), also indexed by r0, is in kseg1, aligned and watched. -/
def watches (s : State) : Prop :=
  s.mode = .kernel ∧ Memory.wf s.mem = true ∧
    (∀ p ∈ s.loadForms 4 0 2 0, InKseg1 p.va p.align ∧ s.Watched p.va false) ∧ (s.loadForms 4 0 2 0).length = 17 ∧
    (∀ p ∈ s.storeForms 4 0 2 0, InKseg1 p.va p.align ∧ s.Watched p.va true) ∧ (s.storeForms 4 0 2 0).length = 12 ∧
    (∀ p ∈ s.scForms 4 2 0, InKseg1 p.va p.align ∧ s.Watched p.va true)

/-- The external agent answers ERR for the doubleword at r4; the pc is in it. -/
def busError : State := { kernel with pc := 0xFFFFFFFFA0002004, bus := { kernel.bus with errAddrs := [0x2000] } }

/-- Its Watch clauses, with EXL and ERL clear, or one of them set. -/
theorem witness_watch : (watches (watched 0) ∧ (watched 0).exl = false ∧ (watched 0).erl = false) ∧
    (watches (watched 2) ∧ (watched 2).exl = true) ∧ (watches (watched 4) ∧ (watched 4).erl = true) := by
  refine ⟨⟨⟨?_, ?_, ?_, ?_, ?_, ?_, ?_⟩, ?_⟩, ⟨⟨?_, ?_, ?_, ?_, ?_, ?_, ?_⟩, ?_⟩, ⟨?_, ?_, ?_, ?_, ?_, ?_, ?_⟩, ?_⟩ <;> decide +kernel

/-- The bus of those states is quiet. -/
theorem witness_quiet_bus (status : Word) : (watched status).QuietBus ∧ (watched status).bus.errAddrs = [] ∧ busError.QuietBus :=
  ⟨⟨rfl, rfl, rfl, rfl, rfl⟩, rfl, ⟨rfl, rfl, rfl, rfl, rfl⟩⟩

/-- Its Bus Error clauses: every load at 0(r4). -/
theorem witness_bus_error : busError.mode = .kernel ∧ (busError.loadForms 4 0 2 0).length = 17 ∧
    (∀ p ∈ busError.loadForms 4 0 2 0, InKseg1 p.va p.align ∧ ¬ busError.Watched p.va false ∧
      busError.bus.errAddrs.any (· / 8 == kseg1Pa p.va / 8) = true) ∧
    InKseg1 busError.pc 4 ∧ busError.bus.errAddrs.any (· / 8 == kseg1Pa busError.pc / 8) = true := by
  decide +kernel

/-- LoadAfterStoreDeliversWhatWasStored. -/
theorem witness_load_after_store : ∃ t u x, kernel.canonical = true ∧ (∀ a ∈ kernel.bus.replies, ∀ d, a.data = some d → d.word = none) ∧ kernel.write 0xFFFFFFFFA0002000 8 5 = .ok () t ∧
    t.read 0xFFFFFFFFA0002000 8 = .ok x u := by
  obtain ⟨y, t, h⟩ := succeeds_exists (a := kernel.write 0xFFFFFFFFA0002000 8 5) (by decide +kernel)
  have g : succeeds ((kernel.write 0xFFFFFFFFA0002000 8 5).bind fun _ t => t.read 0xFFFFFFFFA0002000 8) = true := by
    decide +kernel
  rw [h] at g
  obtain ⟨x, u, k⟩ := succeeds_exists g
  exact ⟨t, u, x, by decide +kernel, by decide +kernel, h, k⟩

/-- The data and secondary tags of `hot`. -/
theorem hot_dTagAt (k : Nat) : hot.dTagAt k = if k = 512 then dTagOf 2 .dirtyExclusive 0b001#3 false else DTag.default := by
  have e : hot.caches.dTag = Sparse.set DTag.default [] 512 (dTagOf 2 .dirtyExclusive 0b001#3 false) := by decide +kernel
  unfold State.dTagAt
  rw [e]; exact Sparse.get_set rfl 512 k _

theorem hot_sTagAt (k : Nat) : hot.sTagAt k = if k = 256 then sTagOf 0x2000 2 .dirtyExclusive else STag.default := by
  have e : hot.caches.sTag = Sparse.set STag.default [] 256 (sTagOf 0x2000 2 .dirtyExclusive) := by decide +kernel
  unfold State.sTagAt
  rw [e]; exact Sparse.get_set rfl 256 k _

/-- A secondary cache of the smallest size: any tag with any address lies in the set of that address. -/
theorem hot_sPlace (tag : BitVec 22) (pa : PAddr) (w : Bool) : hot.sKey (hot.sBlockAddr tag pa) w = hot.sKey pa w := by
  have e : hot.sBlkBits = 6 ∧ hot.scSize = 0 := by decide +kernel
  unfold State.sKey State.sSet State.sBlockAddr State.blockBase
  rw [e.1, e.2]
  congr 1
  simp only [BitVec.toNat_shiftLeft, BitVec.toNat_ushiftRight, BitVec.toNat_append, BitVec.extractLsb'_toNat, Nat.shiftRight_eq_div_pow,
    Nat.shiftLeft_eq]
  rw [← Nat.shiftLeft_eq tag.toNat, ← Nat.shiftLeft_add_eq_or_of_lt (Nat.mod_lt _ (by decide)), Nat.shiftLeft_eq]
  omega

/-- The caches of `hot` are coherent. -/
theorem hot_coherent : hot.Coherent := by
  have key : ∀ k, (hot.dTagAt k).state ≠ .invalid → k = 512 := fun k c => by
    rw [hot_dTagAt] at c; split at c <;> first | assumption | exact absurd rfl c
  have way : ∀ pa, hot.sTagAt (hot.sKey pa true) = STag.default := fun pa => by
    rw [hot_sTagAt, if_neg]; unfold State.sKey wayKey; simp; omega
  refine ⟨fun k _ => ?_, fun k _ c => ?_, fun j _ k _ c d _ => (key j c).trans (key k d).symm, fun k => ⟨?_, fun q => rfl⟩,
    fun pa => by rw [way]; simp [STag.holds, STag.default], fun pa w c => ?_, fun o c => absurd c (List.not_mem_nil), fun pa w c d => ?_⟩
  · rw [hot_dTagAt]; split <;> decide
  · rw [key k c]; unfold State.DataInSecondary; decide +kernel
  · rw [hot_sTagAt]; split <;> rfl
  · exact hot_sPlace _ pa w
  · rw [hot_sTagAt] at c d
    split at c
    · next h => rw [if_pos h] at d; exact absurd rfl d
    · cases c

/-- And its other clauses: where the accesses go, past the caches and through them; -/
theorem witness_other_addresses : hot.Coherent ∧ hot.canonical = true ∧ hot.reverseEndian = false ∧ hot.bus.replies = [] ∧
    hot.bus.errAddrs = [] ∧
    (hot.GoesTo 0xFFFFFFFFA0002000 .store false 0x2000 ∧ hot.GoesTo 0xFFFFFFFFA0002008 .load false 0x2008) ∧
    (hot.GoesTo 0xFFFFFFFF80002000 .store true 0x2000 ∧ hot.GoesTo 0xFFFFFFFF80002008 .load true 0x2008) :=
  ⟨hot_coherent, by decide +kernel, by decide +kernel, rfl, rfl,
    ⟨⟨⟨0x2000, 2, 0b11⟩, by decide +kernel, rfl, rfl⟩, ⟨⟨0x2008, 2, 0b11⟩, by decide +kernel, rfl, rfl⟩⟩,
    ⟨⟨⟨0x2000, 3, 0b11⟩, by decide +kernel, rfl, rfl⟩, ⟨⟨0x2008, 3, 0b11⟩, by decide +kernel, rfl, rfl⟩⟩⟩

/-- accesses that succeed one after the other. -/
theorem witness_accesses_in_turn : ([0xFFFFFFFFA0002000, 0xFFFFFFFF80002000].all fun a =>
    succeeds ((hot.write a 8 5).bind fun _ t => t.read (a + 8) 8) && succeeds (hot.read (a + 8) 8) &&
      succeeds ((hot.read a 8).bind fun _ t => t.read (a + 8) 8) &&
      succeeds ((hot.prefetch a 1).bind fun _ t => t.read (a + 8) 8)) = true := by decide +kernel

/-- Floating-point operands: the least normal number, the greatest, zero and infinity are neither denormalized nor NaN. -/
def floats : State :=
  withFloats kernel 0x800 [(2, 0x0010000000000000), (4, 0x7FEFFFFFFFFFFFFF), (6, 0x7FF0000000000000), (8, 0x7FF8000000000000),
    (10, 0x00800000), (12, 0x7F7FFFFF), (14, 0x7FC00000)]

/-- The arithmetic, the conversions, the compares and MADD; and the NaN operands of UnorderedComparesRaiseInvalidOperation. -/
theorem witness_fp_operands : floats.cu1 = true ∧ floats.mips3 = true ∧ floats.mips4 = true ∧
    (∀ n ∈ [(0 : BitVec 5), 2, 4, 6], Fmt.special .d (floats.operand .d n) = false) ∧
    (∀ n ∈ [(0 : BitVec 5), 10, 12], Fmt.special .s (floats.operand .s n) = false) ∧
    Fmt.compare .d (floats.operand .d 2) (floats.operand .d 4) = some .lt ∧
    Fmt.compare .d (floats.operand .d 4) (floats.operand .d 4) = some .eq ∧
    (Fmt.special .d 1 = true ∧ Fmt.compare .d 1 (floats.operand .d 4) = some .lt) ∧
    Fmt.compare .d (floats.operand .d 8) (floats.operand .d 4) = none ∧ Fmt.isSignalling .d (floats.operand .d 8) = true ∧
    Fmt.compare .s (floats.operand .s 14) (floats.operand .s 12) = none ∧ Fmt.isSignalling .s (floats.operand .s 14) = true ∧
    floats.fp.fsr.getLsbD 11 = true ∧ (∀ f : Fin 2, ∀ n : Fin 16,
      ((compares (if f = 0 then .s else .d) 4 2 0)[n.val]?).isSome = true) := by decide +kernel

/-- The same in User mode outside MIPS III and MIPS IV: CP1 usable, and operands of 0. -/
theorem witness_fp_user : userFp.cu1 = true ∧ userFp.mips3 = false ∧ userFp.mips4 = false ∧ userFp.fr = false ∧
    Fmt.special .d (userFp.operand .d 2) = false ∧ Fmt.special .s (userFp.operand .s 2) = false ∧
    Fmt.compare .d (userFp.operand .d 2) (userFp.operand .d 4) = some .eq := by decide +kernel

/-- UnorderedComparesRaiseInvalidOperation: V clear, and a quiet NaN; MultiplyAddRoundsTwiceOrOnce: MaddFused off. -/
theorem witness_quiet_nan : (withFloats kernel 0 [(8, 0x7FF7FFFFFFFFFFFF)]).fp.fsr.getLsbD 11 = false ∧
    Fmt.isSignalling .d 0x7FF7FFFFFFFFFFFF = false ∧ Fmt.compare .d 0x7FF7FFFFFFFFFFFF 0 = none ∧
    kernel.params.maddFused = false := by decide +kernel

/-- MaddFused on; 1, 3, -3, the largest number, an infinity and NaNs in the registers. -/
def fusing : State :=
  { withFloats kernel 0 [(2, 0x3F800000), (4, 0x40400000), (6, 0xC0400000), (8, 0x7F7FFFFF), (10, 0xFF800000), (12, 0x7FC00000),
      (14, 0x7FBFFFFF)] with params.maddFused := true }

/-- MultiplyAddRoundsTwiceOrOnce, with MaddFused on: factors that are finite and one that is not; an addend of each kind; a sum that
is zero, one that is not and one that overflows. -/
theorem witness_fused : fusing.cu1 = true ∧ fusing.mips4 = true ∧ fusing.params.maddFused = true ∧
    Fmt.unpack .s (fusing.operand .s 2) = .fin false (2 ^ 23) (-23) ∧ Fmt.unpack .s (fusing.operand .s 4) = .fin false (3 * 2 ^ 22) (-22) ∧
    Fmt.unpack .s (fusing.operand .s 6) = .fin true (3 * 2 ^ 22) (-22) ∧
    Fmt.unpack .s (fusing.operand .s 8) = .fin false (2 ^ 24 - 1) 104 ∧ Fmt.unpack .s (fusing.operand .s 10) = .inf true ∧
    Fmt.isSignalling .s (fusing.operand .s 12) = true ∧ Fmt.unpack .s (fusing.operand .s 14) = .nan false ∧
    finiteValue false (2 ^ 23) (-23) * finiteValue false (3 * 2 ^ 22) (-22) + finiteValue true (3 * 2 ^ 22) (-22) = 0 ∧
    ¬ Fmt.Overflows .s 0#2 (finiteValue false (2 ^ 23) (-23) * finiteValue false (2 ^ 23) (-23) + finiteValue false (2 ^ 23) (-23) : ℚ) ∧
    Fmt.Overflows .s 0#2 (finiteValue false (2 ^ 24 - 1) 104 * finiteValue false (3 * 2 ^ 22) (-22) + finiteValue false 0 (-149) : ℚ) := by
  refine ⟨by decide +kernel, by decide +kernel, rfl, by decide +kernel, by decide +kernel, by decide +kernel, by decide +kernel,
    by decide +kernel, by decide +kernel, by decide +kernel, by norm_num [finiteValue], ?_, ?_⟩ <;>
    norm_num [finiteValue, Fmt.Overflows, Fmt.RoundsTo, abs_of_pos]

/-- FloatingPointArithmeticCompletesOrRaisesItsStatus: NaN operands of either kind in either format, and numbers, zeros and infinities
of either sign; the reciprocals of 1 do not overflow. ComparesWriteOneConditionBit: the same operands. -/
theorem witness_fp_values : (Fmt.Signals .s 0x7FC00000 ∧ Fmt.Signals .d 0x7FF8000000000000) ∧
    (Fmt.NotANumber .s 0x7FBFFFFF ∧ ¬ Fmt.Signals .s 0x7FBFFFFF) ∧ (Fmt.NotANumber .d 0xFFF0000000000001 ∧ ¬ Fmt.Signals .d 0xFFF0000000000001) ∧
    (¬ Fmt.NotANumber .d 0x7FF0000000000000 ∧ ¬ Fmt.NotANumber .s 0x3F800000) ∧
    Fmt.unpack .d 0x3FF0000000000000 = .fin false (2 ^ 52) (-52) ∧ Fmt.unpack .s 0xBF800000 = .fin true (2 ^ 23) (-23) ∧
    (∀ n : Bool, Fmt.unpack .d (Fmt.zero .d n) = .fin n 0 (-1074) ∧ Fmt.unpack .s (Fmt.infinite .s n) = .inf n) ∧
    (Fmt.div .d 0 false (Fmt.one .d) 0x3FF0000000000000).status.getLsbD 2 = false ∧
    (Fmt.value .d 0x3FF0000000000000 ≠ .none ∧ Fmt.value .s 0 ≠ .none) :=
  ⟨⟨⟨⟨by decide, by decide⟩, by decide⟩, ⟨by decide, by decide⟩, by decide⟩, ⟨⟨by decide, by decide⟩, fun h => absurd h.2 (by decide)⟩,
    ⟨⟨by decide, by decide⟩, fun h => absurd h.2 (by decide)⟩, ⟨fun h => absurd h.2 (by decide), fun h => absurd h.1 (by decide)⟩,
    by decide +kernel, by decide +kernel, by decide +kernel, by decide +kernel, nofun, nofun⟩

/-- Its clause on what becomes of a result: one that is denormalized (2^-1022 by 1/2), and one that is not. -/
theorem witness_settle : (Fmt.mul .d 0 true 0x0010000000000000 0x3FE0000000000000).denorm = true ∧
    Fmt.Denormalized .d (Fmt.mul .d 0 true 0x0010000000000000 0x3FE0000000000000).value ∧
    (Fmt.mul .d 0 true 0x3FF0000000000000 0x3FE0000000000000).denorm = false ∧
    ¬ Fmt.Denormalized .s 0x80000000 ∧ Fmt.Denormalized .s 0x807FFFFF :=
  ⟨by decide +kernel, ⟨by decide +kernel, by decide +kernel⟩, by decide +kernel, fun h => h.2 (by decide), ⟨by decide, by decide⟩⟩

/-- FloatingPointMovesCopyBits: the cases of CTC1, at the bits that decide. -/
theorem witness_ctc1 :
    ((0x7C0000#32 &&& 0xFF83FFFF#32).getLsbD 17 = false ∧
      (0x7C0000#32 &&& 0xFF83FFFF#32).extractLsb' 12 5 &&& (0x7C0000#32 &&& 0xFF83FFFF#32).extractLsb' 7 5 = 0#5) ∧
    (0x20000#32 &&& 0xFF83FFFF#32).getLsbD 17 = true ∧
    (0x1080#32 &&& 0xFF83FFFF#32).extractLsb' 12 5 &&& (0x1080#32 &&& 0xFF83FFFF#32).extractLsb' 7 5 ≠ 0#5 ∧
    (0#5 : BitVec 5) ≠ 31#5 := by decide

/-- SumsProductsAndConversionsAreCorrectlyRounded: 1 and 3 in both formats; nothing overflows. -/
theorem witness_rounding :
    Fmt.unpack .d 0x3FF0000000000000 = .fin false (2 ^ 52) (-52) ∧ Fmt.unpack .d 0x4008000000000000 = .fin false (3 * 2 ^ 51) (-51) ∧
    Fmt.unpack .s 0x3F800000 = .fin false (2 ^ 23) (-23) ∧
    (Fmt.add .d 0 true 0x3FF0000000000000 0x4008000000000000).status.getLsbD 2 = false ∧
    (Fmt.sub .d 0 true 0x3FF0000000000000 0x4008000000000000).status.getLsbD 2 = false ∧
    (Fmt.mul .d 0 true 0x3FF0000000000000 0x4008000000000000).status.getLsbD 2 = false ∧
    (Fmt.ofInt .d 0 3).status.getLsbD 2 = false ∧ (Fmt.div .d 0 true 0x3FF0000000000000 0x4008000000000000).status.getLsbD 2 = false ∧
    (Fmt.sqrt .d 0 0x4008000000000000).status.getLsbD 2 = false ∧ (Fmt.convert .d .s 0 0 0x4008000000000000).status.getLsbD 2 = false ∧
    (Params.default.cvtLLimit : Int) ≤ 2 ^ 63 := by decide +kernel

/-- And its other clauses: results that overflow and that do not, at the bounds of each rounding mode; zeros and infinities. -/
theorem witness_overflow : Fmt.Overflows .s 0#2 (2 ^ 128 - 2 ^ 103) ∧ ¬ Fmt.Overflows .s 1#2 (2 ^ 128 - 2 ^ 103) ∧
    Fmt.Overflows .s 2#2 (2 ^ 128 - 2 ^ 103) ∧ ¬ Fmt.Overflows .s 3#2 (2 ^ 128 - 2 ^ 103) ∧ Fmt.Overflows .s 1#2 (-2 ^ 128) ∧
    ¬ Fmt.Overflows .s 0#2 1 ∧
    (∀ n : Bool, Fmt.unpack .d (Fmt.zeroOf .d n) = .fin n 0 (-1074) ∧ Fmt.unpack .d (Fmt.infinite .d n) = .inf n ∧
      Fmt.unpack .s (Fmt.zeroOf .s n) = .fin n 0 (-149) ∧ Fmt.unpack .s (Fmt.infinite .s n) = .inf n) := by
  refine ⟨?_, ?_, ?_, ?_, ?_, ?_, by decide +kernel⟩ <;> simp [Fmt.Overflows, Fmt.RoundsTo] <;> norm_num [abs_of_pos, abs_of_neg]

/-- The clauses of Rounded: exact results that are tiny and that are not, at the bound, which the modes draw differently; a sign. -/
theorem witness_tiny : Fmt.Tiny .s 1#2 (2 ^ (-126 : Int) - 2 ^ (-151 : Int)) ∧ ¬ Fmt.Tiny .s 0#2 (2 ^ (-126 : Int) - 2 ^ (-151 : Int)) ∧
    ¬ Fmt.Tiny .s 2#2 (2 ^ (-126 : Int) - 2 ^ (-151 : Int)) ∧ Fmt.Tiny .s 0#2 (-2 ^ (-127 : Int)) ∧ ¬ Fmt.Tiny .s 3#2 (2 ^ (-126 : Int)) ∧
    (true = true ↔ (-2 ^ (-127 : Int) : ℝ) < 0) := by
  refine ⟨?_, ?_, ?_, ?_, ?_, ?_⟩ <;> simp [Fmt.Tiny, Fmt.RoundsTo] <;> norm_num [abs_of_pos, abs_of_neg]

/-- R650, as notes/assumptions/20.md has tininess: 2^-126 - 2^-150 is tiny, and rounds up to the least normal number or down; a tiny product
rounds to a zero of its sign, or away from it. -/
theorem test_underflow : Fmt.mul .s 0 true 0x00800000 0x3F7FFFFF = ⟨0x00800000, 0b000011, false⟩ ∧
    Fmt.mul .s 1 true 0x00800000 0x3F7FFFFF = ⟨0x007FFFFF, 0b000011, true⟩ ∧
    Fmt.mul .s 0 true 0x80000001 0x00000001 = ⟨0x80000000, 0b000011, false⟩ ∧
    Fmt.mul .s 3 true 0x80000001 0x00000001 = ⟨0x80000001, 0b000011, true⟩ ∧
    Fmt.mul .s 0 true 0x00800000 0x3F000000 = ⟨0x00400000, 0, true⟩ := by decide +kernel

/-- A kseg0 address in r4, with Config.K0 = 3. -/
def cached : State := cacheState 0xFFFFFFFF80002000 0 0

/-- The CACHE statements: the operation reaches the caches, with either way. -/
theorem witness_reaches_caches : cached.canonical = true ∧ cached.ReachesCaches (cached.ea 4 0) 0x2000 ∧
    cached.ReachesCaches (cached.ea 4 1) 0x2001 ∧ (cached.dataAddress (cached.ea 4 0)).getLsbD 0 = false := by
  refine ⟨by decide +kernel, ⟨by decide +kernel, by decide +kernel, ⟨⟨0x2000, 3, 0b11⟩, by decide +kernel, rfl, rfl⟩, rfl⟩,
    ⟨by decide +kernel, by decide +kernel, ⟨⟨0x2001, 3, 0b11⟩, by decide +kernel, rfl, rfl⟩, rfl⟩, by decide +kernel⟩

/-- An Inconsistent block for Index WriteBack Invalidate (D); tags without error that do not both hit, for the Hit operations. -/
theorem witness_cache_tags :
    ((cached.setDTag 512 (dTagOf 2 .dirtyExclusive 0b010#3 true)).dTagAt 512).inconsistent = true ∧
    (∀ w, (cached.iTagAt (wayKey 128 w)).bad = false) ∧ (∀ w, (cached.dTagAt (wayKey 256 w)).bad = false) ∧
    (∀ w, (cached.sTagAt (cached.sKey 0x2000 w)).checked.bad = false) ∧
    ((cached.sTagRead (cached.sKey 0x2000 false)).holds 0x2000 && (cached.sTagRead (cached.sKey 0x2000 true)).holds 0x2000) = false ∧
    ((cached.dTagAt (wayKey 256 false)).hitBy 0x2000 && (cached.dTagAt (wayKey 256 true)).hitBy 0x2000) = false ∧
    ((cached.iTagAt (wayKey 128 false)).holds 0x2000 && (cached.iTagAt (wayKey 128 true)).holds 0x2000) = false := by
  decide +kernel

/-- HitOperationsLeaveTheBlockInNeitherWay: the block in both ways of a cache; an Inconsistent data block that is hit. -/
theorem witness_hits :
    (let s := (cached.setITag 256 ⟨2, true, parityBit 2#28, true⟩).setITag 257 ⟨2, true, parityBit 2#28, true⟩
     ∀ w, (s.iTagAt (wayKey 128 w)).bad = false ∧ (s.iTagAt (wayKey 128 w)).holds 0x2000 = true) ∧
    (let s := (cached.setDTag 512 (dTagOf 2 .shared 1 false)).setDTag 513 (dTagOf 2 .shared 1 false)
     ∀ w, (s.dTagAt (wayKey 256 w)).bad = false ∧ (s.dTagAt (wayKey 256 w)).hitBy 0x2000 = true) ∧
    (let s := (cached.setSTag (cached.sKey 0x2000 false) (sTagOf 0x2000 0 .shared)).setSTag (cached.sKey 0x2000 true) (sTagOf 0x2000 0 .shared)
     ∀ w, (s.sTagAt (s.sKey 0x2000 w)).checked.bad = false ∧ (s.sTagRead (s.sKey 0x2000 w)).holds 0x2000 = true) ∧
    (let s := cached.setDTag 512 (dTagOf 2 .dirtyExclusive 0b010#3 true)
     (s.dTagAt 512).hitBy 0x2000 = true ∧ (s.dTagAt 512).inconsistent = true ∧ (s.dTagAt 513).hitBy 0x2000 = false ∧
     ∀ w, (s.dTagAt (wayKey 256 w)).bad = false) := by decide +kernel

/-- A secondary block, DirtyExclusive, with a block of either primary cache in it. -/
def nested (ready : Bool) : State :=
  ((dirtyBlock ready).setDTag 512 (dTagOf 2 .dirtyExclusive 0b001#3 false)).setITag 256 ⟨2, true, parityBit 2#28, true⟩

/-- R266, R301: a data tag stored with StateMod 000 has a mod error, Invalid or not, and with 001 none; R1165: the parities of one stored with
TagLo and TagHi 0 are right, and with the parameter all of it. -/
theorem test_stored_tag :
    ((after (cacheState 0xFFFFFFFF80002000 0 0) 0xBC890000).map fun t => ((t.dTagAt 512).mod, (t.dTagAt 512).errors)) =
      some (0, false, false, true) ∧
    ((after (cacheState 0xFFFFFFFF80002000 0x40 0) 0xBC890000).map fun t => (t.dTagAt 512).errors.2.2) = some true ∧
    ((after (cacheState 0xFFFFFFFF80002000 0 0x20000000) 0xBC890000).map fun t => (t.dTagAt 512).bad) = some false ∧
    (let s (lo : Word) : State := { cacheState 0xFFFFFFFF80002000 lo 0 with params.storeTagNormal := true }
     ((after (s 0) 0xBC890000).map fun t => (t.dTagAt 512).bad) = some false ∧
       ((after (s 0x40) 0xBC890000).map fun t => (t.dTagAt 512).errors.2.2) = some true) := by
  decide +kernel

/-- The same with the data block Inconsistent. -/
def merging : State :=
  ((nested true).setDTag 512 (dTagOf 2 .dirtyExclusive 0b010#3 false)).setDWord 512 1 ⟨0x33333333, 0⟩

/-- PrimaryDataMerged: the block that both operations write back, alone in its set; and a quadword that no block names. -/
theorem witness_merging :
    let p := (merging.sTagRead (merging.sKey 0x2000 false)).pidx
    (∀ dirty, merging.WritesInto dirty p (merging.sBlockAddr (merging.sTagRead (merging.sKey 0x2000 false)).tag 0x2000) 512 ∧
      merging.WritesInto dirty p (merging.blockBase 0x2000) 512) ∧
    (∀ j, j / 2 = 512 / 2 → j ≠ 512 → (merging.dTagAt j).state = .invalid) ∧
    2 < merging.sQuads ∧ merging.sQuadIndex (merging.dAddr 512) = 0 := by
  refine ⟨fun dirty => ⟨⟨?_, ?_, ?_, ?_, ?_, fun _ => ?_⟩, ⟨?_, ?_, ?_, ?_, ?_, fun _ => ?_⟩⟩, fun j h n => ?_, ?_, ?_⟩
  case refine_13 =>
    obtain rfl : j = 513 := by omega
    decide +kernel
  all_goals decide +kernel

/-- R536, R547, R553: a purge of its set writes its words to the secondary cache, in place of those that it held, and Hit Invalidate (S),
which drops them, does not. -/
theorem test_merging : ∀ m, ((merging.dPurgeSet m 256 0x2000).sQuadAt (merging.sKey 0x2000 false) 0).data =
    if m = .drop then BitVec.allOnes 128 else 0x00000000333333330000000000000000 := by
  intro m
  cases m <;> decide +kernel

/-- PrimariesEmptied, WrittenBack: the blocks of `nested` lie in the secondary block, with SysWrRdy* asserted and negated. -/
theorem witness_nested (ready : Bool) : (nested ready).bus.wrRdy = ready ∧
    (let s := nested ready
     let t := s.sTagRead (s.sKey 0x2000 false)
     t.state = .dirtyExclusive ∧ t.holds 0x2000 = true ∧ (s.dTagAt 512).state ≠ .invalid ∧ 512 / 256 = t.pidx.toNat ∧
       s.blockBase (s.dAddr 512) = s.blockBase 0x2000 ∧ (s.iTagAt 256).valid = true ∧ 256 / 128 = t.pidx.toNat ∧
       s.blockBase (s.iAddr 256) = s.blockBase 0x2000 ∧ s.blockBase 0x2000 = s.sBlockAddr t.tag 0x2000 ∧
       (s.sTagRead (s.sKey 0x2000 true)).state = .invalid) := by
  revert ready; decide +kernel

/-- R547: Index WriteBack Invalidate (S) of it empties the primary blocks too. -/
theorem test_nested : ((after (nested true) 0xBC830000).map fun t =>
    ((t.dTagAt 512).state, (t.iTagAt 256).valid, (t.sTagRead (t.sKey 0x2000 false)).state, Memory.read t.mem 0x2000)) =
    some (.invalid, false, .invalid, 0xFF) := by decide +kernel

/-- CacheOperationsTrapOrStopWhereTheAddressIsUnusable: each of its cases. -/
theorem witness_cache_traps : cached.cp0Usable = true ∧ (start 0x80 []).cp0Usable = true ∧
    cached.translate 0x80000000 .cacheOp = .addressError ∧ cached.translate 0x2000 .cacheOp = .refill ∧
    ({ tlbN 5 with tlb := (tlbN 5).tlb.set 3 { entryN with even := TlbPage.zero } } : State).translate 0x1A344 .cacheOp = .invalid ∧
    (start 0x80 []).translate 0x9000000000002000 .cacheOp = .ok ⟨0x2000, 2, 0⟩ ∧
    (start 0x80 []).translate 0xB800000000002000 .cacheOp = .ok ⟨0x2000, 7, 0⟩ ∧
    (start 0x80 []).translate 0x8000000000002000 .cacheOp = .ok ⟨0x2000, 0, 0⟩ ∧
    (start 0x80 []).translate 0xB000000000002000 .cacheOp = .ok ⟨0x2000, 6, 0⟩ := by decide +kernel

/-- Its wait: a cached address, and a block in the outgoing buffer. -/
theorem witness_cache_waits : cached.translate 0xFFFFFFFF80002000 .cacheOp = .ok ⟨0x2000, 3, 0b11⟩ ∧ algCached 3#3 = true ∧
    ((after (dirtyBlock false) 0xBC970000).map fun t => t.bus.outgoing.isEmpty) = some false := by decide +kernel

/-- Its Address Errors: bit 1 of the address, and bit 0 for an operation that is no Index operation. -/
theorem witness_cache_address_errors : (cached.dataAddress (cached.ea 4 2)).getLsbD 1 = true ∧
    (cached.dataAddress (cached.ea 4 1)).getLsbD 0 = true ∧ (cached.dataAddress (cached.ea 4 1)).getLsbD 1 = false := by decide +kernel

/-- A hang with an error of the System interface: a reset alone ends it (ResetsNmiAndCacheErrorsComeFirst). -/
def hanging : State := kernel.postResponse.setHung

/-- WrittenBack: a DirtyExclusive block without errors, under no Inconsistent data block. -/
theorem witness_written_back :
    ∀ s : State, s = cached.setSTag (cached.sKey 0x2000 false) (sTagOf 0x2000 0 .dirtyExclusive) →
      (s.sTagRead (s.sKey 0x2000 false)).state = .dirtyExclusive ∧ (s.sTagRead (s.sKey 0x2000 false)).holds 0x2000 = true ∧
      (∀ q : Fin 8, (s.sQuadAt (s.sKey 0x2000 false) q.val).check = .good) ∧ s.caches.dTag = [] := by
  intro s e; subst e; decide +kernel

/-- ResetsNmiAndCacheErrorsComeFirst: each event alone. -/
theorem witness_resets : running.ctm.active = false ∧
    ((running.deliver (.coldReset Config.resetModeBits)).map (·.pending.coldReset)) = some (some Config.resetModeBits) ∧
    ((running.deliver (.softReset [])).map fun t => (t.pending.coldReset, t.pending.softReset)) = some (none, true) ∧
    ((running.deliver .nmi).map fun t => (t.pending.coldReset, t.pending.softReset, t.pending.nmi)) = some (none, false, true) ∧
    ((running.deliver (.systemError .address)).map fun t =>
      (t.pending.coldReset, t.pending.softReset, t.pending.nmi, t.pending.cacheErr, t.erl, t.de)) =
      some (none, false, false, true, false, false) ∧
    hanging.ctm.active = false ∧ hanging.bus.hung = true ∧ hanging.pending.coldReset = none ∧
    (hanging.deliver (.softReset [])).map (·.pending.softReset) = some true := by decide +kernel

/-- Its Cache Error clause: errors of two units posted at once, of which the first is taken and the other stays posted. -/
theorem witness_two_errors :
    (((running.deliver (.systemError .address)).map fun t => t.postD 0).map fun t =>
      (t.pending.cacheErr, t.pending.dErr.posted, t.pending.siErr.posted, t.pending.iErr.posted)) = some (true, true, true, false) ∧
    (((running.deliver (.systemError .address)).map fun t => t.postD 0).bind fun t => match step t with
      | .next u => some (u.pending.cacheErr, u.pending.dErr.posted, u.pending.siErr.posted)
      | _ => none) = some (true, false, true) := by decide +kernel

/-- StepRunsTheDecodedInstruction, FetchReadsTheWordAtThePc: a fetch that delivers a word, one that traps (a misaligned pc)
and one that stops (a reserved cache algorithm); an instruction that is held. -/
theorem witness_step : (State.reset.ctm.active = false ∧ State.reset.tick.pendingEvent = none) ∧
    (({ State.reset with held := some 0x0F } : State).tick.pendingEvent = none ∧ decode 0x0F = .instr .sync) ∧
    (∃ w t, State.reset.tick.fetch = .ok w t) ∧ decode 0 = .instr (.sll 0 0 0) ∧
    (∃ t, ({ kernel with pc := 0xFFFFFFFFA0002002 } : State).tick.fetch = .trap t) ∧
    (∃ f, ({ start 0x80 [] with pc := 0x8000000000002000 } : State).tick.fetch = .stop f) ∧
    (State.reset.mode = .kernel ∧ 0xFFFFFFFFA0000000 ≤ State.reset.pc.toNat ∧ State.reset.pc.toNat < 0xFFFFFFFFC0000000 ∧
      State.reset.pc.toNat % 4 = 0 ∧ State.reset.bus.errAddrs = []) ∧
    ({ kernel with pc := 0xFFFFFFFFA0002002 } : State).pc.toNat % 4 ≠ 0 :=
  ⟨by decide +kernel, by decide +kernel, succeeds_exists (by decide +kernel), by decide +kernel, ⟨_, rfl⟩, ⟨_, rfl⟩, by decide +kernel,
    by decide +kernel⟩

/-- `hot`, about to fetch from kseg0. -/
def fetching (pc : DWord) : State := { hot with pc := pc }

/-- The same with the instruction block of 0x2000 in way 0. -/
def fetchingHit : State := (fetching 0xFFFFFFFF80002000).setITag 256 ⟨2, true, parityBit 2#28, true⟩

/-- FetchReadsTheWordAtThePc: an uncached address outside kseg1, and a cached one that hits. -/
theorem witness_fetch :
    (({ start 0x80 [] with pc := 0x9000000000002000 } : State).translate 0x9000000000002000 .fetch = .ok ⟨0x2000, 2, 0⟩ ∧
      (0x9000000000002000 : DWord).toNat % 4 = 0 ∧ (start 0x80 []).bus.errAddrs = [] ∧ (start 0x80 []).bus.replies = []) ∧
    fetchingHit.translate fetchingHit.pc .fetch = .ok ⟨0x2000, 3, 0b11⟩ ∧
    (∀ w, (fetchingHit.iTagAt (wayKey (iSet fetchingHit.pc) w)).bad = false ∧
      (fetchingHit.iTagAt (wayKey (iSet fetchingHit.pc) w)).holds 0x2000 = !w) ∧
    fetchingHit.iWordAt (wayKey (iSet fetchingHit.pc) false) (iIndex fetchingHit.pc) = ⟨.plain 0, none⟩ ∧
    fetchingHit.bus.errAddrs = [] ∧ fetchingHit.bus.replies = [] := by decide +kernel

/-- The access below translation succeeds. -/
def answers {α : Type} (x : Res α) : Bool :=
  match x with
  | .ok _ _ => true
  | _ => false

/-- What succeeds for either value of a choice succeeds for the one made. -/
theorem answers_bind {α β : Type} {x : Res α} {g : Bool → α → State → Res β} (choice : State → Bool)
    (h : ∀ v, answers (x.bind (g v)) = true) : answers (x.bind fun a s => g (choice s) a s) = true := by
  cases x with
  | ok a s => exact h (choice s)
  | _ => exact h false

/-- What a cached fetch does once way w holds its block. -/
def delivers (pc : DWord) (w : Bool) (s : State) : Res Word :=
  let x := s.iWordAt (wayKey (iSet pc) w) (iIndex pc)
  (if x.parityOk then .ok () s else (s.postI (s.iErrInfo (pc.extractLsb' 6 8) (wayBit w true) 0 0)).goOn ()).bind fun _ s =>
    match s.instructionOf x.bits with
    | some i => .ok i s
    | .none => .stop .unknownPredecode

/-- A fetch that misses in the instruction cache succeeds if it does whichever way it fills. -/
theorem fetch_misses (s : State) (pa : PAddr) (u : BitVec 2) (a : s.pc.toNat % 4 = 0)
    (t : s.translate s.pc .fetch = .ok ⟨pa, 3, u⟩) (hva : s.fetchVa s.pc = s.pc)
    (bad : ∀ w, (s.iTagAt (wayKey (iSet s.pc) w)).bad = false ∧ (s.iTagAt (wayKey (iSet s.pc) w)).holds pa = false)
    (h : ∀ v, answers ((s.sEnsure s.pc pa 3 false).bind fun r t =>
      ((t.iFill s.pc pa v r.1).bind fun w t => .ok w (t.setILru (iSet s.pc) (!w))).bind (delivers s.pc)) = true) :
    ∃ x t, s.fetch = .ok x t := by
  have e := answers_bind (fun t => t.iLruAt (iSet s.pc) != Config.iVictim t.ctr) h
  have i : s.iLoad s.pc pa 3 = (s.sEnsure s.pc pa 3 false).bind fun r t =>
      ((t.iFill s.pc pa (t.iLruAt (iSet s.pc) != Config.iVictim t.ctr) r.1).bind fun w t => .ok w (t.setILru (iSet s.pc) (!w))).bind
        (delivers s.pc) := by
    unfold State.iLoad State.iEnsure State.iTags
    simp only [(bad false).1, (bad true).1, Bool.or_self, Bool.false_eq_true, if_false, Res.bind, (bad false).2, (bad true).2, hitWay]
    cases s.sEnsure s.pc pa 3 false <;> rfl
  have f : s.fetch = (s.iLoad s.pc pa 3).acc excIbe := by
    have r : algReserved 3 = false := by decide
    have c : algCached 3 = true := by decide
    unfold State.fetch
    rw [if_pos a, t, hva]
    simp only [State.fetchPhys, r, c, Bool.false_eq_true, if_false, if_true]
  rw [f, i]
  revert e
  generalize (s.sEnsure s.pc pa 3 false).bind _ = x
  intro e
  cases x with
  | ok a t => exact ⟨a, t, rfl⟩
  | _ => cases e

/-- And cached ones that miss: the secondary cache holds the block, or misses too. -/
theorem witness_fetch_misses : (∃ x t, (fetching 0xFFFFFFFF80002000).fetch = .ok x t) ∧
    (∃ x t, (fetching 0xFFFFFFFF80004000).fetch = .ok x t) ∧ (∀ pc, (fetching pc).Coherent) ∧
    (fetching 0xFFFFFFFF80004000).canonical = true ∧
    (∀ w, ((fetching 0xFFFFFFFF80002000).sTagAt ((fetching 0xFFFFFFFF80002000).sKey 0x2000 w)).holds 0x2000 = !w) ∧
    (∀ w, ((fetching 0xFFFFFFFF80004000).sTagAt ((fetching 0xFFFFFFFF80004000).sKey 0x4000 w)).holds 0x4000 = false) := by
  refine ⟨fetch_misses _ 0x2000 3 (by decide) (by decide +kernel) (by decide +kernel) (by decide +kernel) (by decide +kernel),
    fetch_misses _ 0x4000 3 (by decide) (by decide +kernel) (by decide +kernel) (by decide +kernel) fun v => ?_,
    fun _ => ⟨hot_coherent.1, hot_coherent.2, hot_coherent.3, hot_coherent.4, hot_coherent.5, hot_coherent.6, hot_coherent.7,
      hot_coherent.8⟩, by decide +kernel, by decide +kernel, by decide +kernel⟩
  have tags : (fetching 0xFFFFFFFF80004000).sTags 0x4000 = .ok (STag.default, STag.default) (fetching 0xFFFFFFFF80004000) := rfl
  have miss : hitWay (Config.bothWays (fetching 0xFFFFFFFF80004000).ctr) (STag.default.holds 0x4000) (STag.default.holds 0x4000) =
    none := rfl
  unfold State.sEnsure
  rw [show (fetching 0xFFFFFFFF80004000).pc = 0xFFFFFFFF80004000 from rfl, tags]
  dsimp only [Res.bind]
  rw [miss]
  dsimp only
  unfold State.sMiss
  dsimp only
  generalize State.sVictim _ _ _ = w
  have ask (t : State) (h : t.bus.replies = []) (e : t.bus.errAddrs = []) : t.askBlock true 0x4000 = (.ack (some .plain), t.setReplies []) := by
    simp [State.askBlock, h, State.answerBlock, defaultAnswer, State.errBlock, e]
  rw [ask _ (by cases w <;> decide +kernel) (by cases w <;> decide +kernel)]
  dsimp only
  generalize State.filledState _ _ _ = st
  cases st <;> revert v w <;> decide +kernel

/-- LoadAfterStoreDeliversWhatWasStored: a load after a fetch. -/
theorem witness_load_after_fetch : succeeds (fetchingHit.fetch.bind fun _ t => t.read 0xFFFFFFFF80002008 8) = true := by decide +kernel

/-- The word a step of this state fetches. -/
def fetched (s : State) : Option Word :=
  match s.tick.fetch with
  | .ok w _ => some w
  | _ => none

/-- Its clauses on words that are no instruction, one word for each, fetched at the reset vector. -/
theorem witness_undefined_words : ([0x70000000, 0xEC000000, 0x00000005, 0x0000003D, 0x04040000, 0x041F0000, 0x44600000, 0x45E00000,
    0x46400000, 0x47E00000, 0x46800022, 0x46000020, 0x46200021, 0x4600002F, 0x4C000002, 0x4C00003F, 0x41040000, 0x411F0000,
    0x40400000, 0x41E00000, 0x42000000, 0x4200003F, 0x42000041, 0x43E00008, 0x40200001, 0x40A00400, 0x40000040, 0x40801801,
    0xBC020000, 0xBC1E0000, 0x00000060, 0x000007EB].all
    fun w => fetched (State.reset.withFetchWord 32 w) == some (BitVec.ofNat 32 w)) = true := by decide +kernel

/-- Its clause on must-be-zero fields: each field, with all its bits set. -/
theorem witness_zero_fields : ((zeroFieldsInteger ++ zeroFieldsFloat).all fun z => (z.value ||| z.field) &&& z.mask == z.value &&
    z.field != 0 && match decode (z.value ||| z.field) with | .mustBeZero _ => true | _ => false) = true := by decide +kernel

/-- R109, R477, R478, R470: a COP1 word with a must-be-zero field not zero takes Coprocessor Unusable with CU1 = 0, a COP3 word
Reserved Instruction with MIPS IV off, and a DADD Reserved Instruction with MIPS III off; else the model stops. -/
theorem test_zero_field_checks : takes (start 0 []) 0x46010004 11 ∧ takes (user []) 0x4C000800 10 ∧ takes (user []) 0x0000006C 10 ∧
    faults (start 0x20000000 []) 0x46010004 = some .mustBeZeroField ∧ faults (start 0 []) 0x0000006C = some .mustBeZeroField ∧
    faults (user []) 0x00000060 = some .mustBeZeroField := by decide +kernel

/-- And the words of its other clauses are no instructions. -/
theorem witness_undefined_decode :
    ([0x46000020#32, 0x46200021].all fun w => match decode w with | .cop1Unimplemented => true | _ => false) = true ∧
    ([0x42000000#32, 0x4200003F, 0x42000041, 0x43E00008, 0x40200001, 0x40A00400, 0x40000040, 0x40801801, 0x40400000].all
      fun w => match decode w with | .cop0Undefined => true | _ => false) = true := by decide +kernel

/-- DecodingInvertsEncoding. -/
theorem witness_encoding : (Instr.maddD 31 30 29 28).wellFormed = true ∧ decode 0x4FFEEF21 = .instr (.maddD 31 30 29 28) := by
  decide +kernel

/-- StepKeepsInv, ExternalEventsKeepInv: from the state after reset. -/
theorem witness_inv : State.reset.Inv ∧ (∃ t, step State.reset = .next t) ∧ (∃ t, State.reset.deliver .nmi = some t) :=
  ⟨by unfold State.Inv; decide +kernel, nexts_exists (by decide +kernel), ⟨_, rfl⟩⟩

/-- UserModeLeavesTheSystemStateAlone: an instruction that completes in User mode, and one that takes an exception. -/
theorem witness_user : (user []).mode = .user ∧ (user []).cu0 = false ∧ (∃ t, exec (.addu 1 2 3) (user []) = .next t) ∧
    (∃ t, exec (.syscall 0) (user []) = .next t) :=
  ⟨by decide +kernel, by decide +kernel, ⟨_, rfl⟩, ⟨_, rfl⟩⟩

end Sys2Proof.Tests

end
end

section
/-! PROOFS. Registers, moves and reset: the general registers and `advance` (R31, R860, R861), the reset state (R70, R1150) and its
invariant, and where floating-point values stand and how the moves between the register files carry them (R622, R623, R642, R923 to
R928, R936, R955 to R958). -/

namespace Sys2Proof.Machine

/-! ## General registers and falling through -/

theorem State.gpr_setGpr_same (s : State) {r : BitVec 5} (v : DWord) (hr : r ≠ 0#5) : (s.setGpr r v).gpr r = v := by
  rw [State.gpr_setGpr, if_pos ⟨rfl, hr⟩]

theorem State.gpr_setGpr_ne (s : State) {r x : BitVec 5} (v : DWord) (hx : x ≠ r) : (s.setGpr r v).gpr x = s.gpr x := by
  rw [State.gpr_setGpr, if_neg fun h => hx h.1]

/-- A write of a general register reaches the register file alone. -/
theorem State.setGpr_frame (s : State) (r : BitVec 5) (v : DWord) :
    s.setGpr r v = { s with int := { s.int with gpr := (s.setGpr r v).int.gpr } } := by
  rw [State.setGpr_eq]

/-- In the slot of a branch that is not taken. -/
theorem State.advance_pc_slot_none {s : State} (h : s.delay = .slot none) : s.advance.pc = s.pc + 4#64 := by
  simp [State.advance, h]

/-- Settles O1, from what a read returns after a write and from the three values of the branch-delay state. -/
theorem registerZeroIsConstantAndFallingThroughAdvances : Obligations.RegisterZeroIsConstantAndFallingThroughAdvances := by
  refine ⟨fun s r v => ⟨s.gpr_zero, s.setGpr_zero v, fun hr => ⟨s.gpr_setGpr_same v hr, fun _ hx => s.gpr_setGpr_ne v hx,
    s.setGpr_frame r v⟩⟩, fun s => ⟨fun h => ?none, fun h => ?notTaken, fun t h => ?taken⟩⟩
  case none => rw [State.advance_eq, State.advance_pc_none h]
  case notTaken => rw [State.advance_eq, State.advance_pc_slot_none h]
  case taken => rw [State.advance_eq, State.advance_pc_slot h]

/-! ## The reset state -/

/-- R70, R1160: Config after reset shows the mode bits, and the fixed fields IC = DC = 3 above them. -/
theorem State.reset_config : State.reset.config.extractLsb' 0 25 = State.reset.bus.modeBits.extractLsb' 0 25 ∧
    State.reset.config.extractLsb' 26 6 = 0b011011#6 := by
  decide

/-- R110: ERL = 1 makes it Kernel mode. -/
theorem State.mode_of_erl {s : State} (h : s.erl = true) : s.mode = .kernel := by
  simp [State.mode, h]

theorem State.reset_erl : State.reset.erl = true := by decide

/-- Settles O51: each field of `State.reset` at the value of R70 and R1150, Config by `State.reset_config`, the mode by ERL. -/
theorem resetLeavesWhatColdResetStates : Obligations.ResetLeavesWhatColdResetStates := by
  obtain ⟨modeBits, fixed⟩ := State.reset_config
  have bev : State.reset.bev = true := by decide
  obtain ⟨sr, ts⟩ : State.reset.cp0.status.getLsbD 20 = false ∧ State.reset.cp0.status.getLsbD 21 = false := by decide
  have cacheErr : State.reset.cp0.cacheErr.getLsbD 29 = false := by decide
  obtain ⟨event0, event1⟩ : State.reset.perf.ctl0.extractLsb' 5 4 = 0#4 ∧ State.reset.perf.ctl1.extractLsb' 5 4 = 0#4 := by decide
  exact ⟨rfl, rfl, State.reset_erl, bev, sr, ts, rfl, rfl, rfl, cacheErr, rfl, rfl, event0, event1, rfl, rfl, rfl,
    rfl, rfl, rfl, modeBits, fixed, State.mode_of_erl State.reset_erl, rfl⟩

/-- Memory, the cache arrays and the prediction table list nothing after reset. -/
theorem State.reset_canonical : State.reset.canonical = true := rfl

theorem Cp0.reset_reservedZero : Cp0.reset.reservedZero = true := by
  rw [Cp0.reservedZero_iff]
  decide

/-- Random is 63 and Wired 0 (R70). -/
theorem Cp0.reset_randomInRange : Cp0.reset.randomInRange = true := by decide

theorem State.reset_controlReservedZero : State.reset.controlReservedZero = true := by decide

/-- Settles O57, one part of the invariant at a time. -/
theorem invHoldsAtReset : Obligations.InvHoldsAtReset :=
  ⟨State.reset_canonical, Cp0.reset_reservedZero, Cp0.reset_randomInRange, State.reset_controlReservedZero⟩

/-! ## The checks that come first (R474, R478) -/

theorem State.requireCp1_of_usable {s : State} (h : s.cu1 = true) (k : Out) : s.requireCp1 k = k := if_pos h

theorem State.requireFp4_of_enabled {s : State} (h : s.mips4 = true) (k : Out) : s.requireFp4 k = k := if_pos h

theorem State.requireMips3_of_enabled {s : State} (h : s.mips3 = true) (k : Out) : s.requireMips3 k = k := if_pos h

theorem State.fpr64Ok_iff (s : State) (n : BitVec 5) : s.fpr64Ok n = true ↔ s.fr = true ∨ n.getLsbD 0 = false := by
  simp [State.fpr64Ok]

theorem State.requireFpr64_of_valid {s : State} {n : BitVec 5} (h : s.fr = true ∨ n.getLsbD 0 = false) (k : Out) :
    s.requireFpr64 n k = k := if_pos ((s.fpr64Ok_iff n).2 h)

/-- R622, I40: a doubleword access to an odd register with FR = 0. -/
theorem State.requireFpr64_of_odd {s : State} {n : BitVec 5} (hfr : s.fr = false) (hn : n.getLsbD 0 = true) (k : Out) :
    s.requireFpr64 n k = .fault .fpOddDoubleword :=
  if_neg fun h => by simp only [State.fpr64Ok_iff, hfr, hn, Bool.false_eq_true, Bool.true_eq_false, or_self] at h

/-- DMFC1 and DMTC1 past their checks. -/
theorem State.requireDoublewordMove_of_valid {s : State} {n : BitVec 5} (hcu1 : s.cu1 = true) (h3 : s.mips3 = true)
    (hn : s.fr = true ∨ n.getLsbD 0 = false) (k : Out) : s.requireCp1 (s.requireMips3 (s.requireFpr64 n k)) = k := by
  rw [State.requireCp1_of_usable hcu1, State.requireMips3_of_enabled h3, State.requireFpr64_of_valid hn]

theorem State.requireDoublewordMove_of_odd {s : State} {n : BitVec 5} (hcu1 : s.cu1 = true) (h3 : s.mips3 = true)
    (hfr : s.fr = false) (hn : n.getLsbD 0 = true) (k : Out) :
    s.requireCp1 (s.requireMips3 (s.requireFpr64 n k)) = .fault .fpOddDoubleword := by
  rw [State.requireCp1_of_usable hcu1, State.requireMips3_of_enabled h3, State.requireFpr64_of_odd hfr hn]

/-! ## Where floating-point values stand (R622, R623) -/

/-- The floating-point register file, by number. -/
def State.fprFile (s : State) (k : Nat) : DWord := s.fp.fpr.toArray.getD k 0#64

theorem State.fprFile_toNat (s : State) (n : BitVec 5) : s.fprFile n.toNat = s.fpr n := by
  simp [State.fprFile, State.fpr, n.isLt]

theorem State.fprFile_setFpr (s : State) (n : BitVec 5) (v : DWord) {k : Nat} (hk : k < 32) :
    (s.setFpr n v).fprFile k = if k = n.toNat then v else s.fprFile k := by
  simp [State.fprFile, hk, Array.getElem_set, eq_comm]

theorem State.fprFile_advance (s : State) (k : Nat) : s.advance.fprFile k = s.fprFile k := by
  simp [State.fprFile]

/-- With FR = 0 arithmetic names the even register of a pair. -/
theorem State.fpReg_toNat (s : State) (n : BitVec 5) : (s.fpReg n).toNat = if s.fr then n.toNat else n.toNat / 2 * 2 := by
  have pair : ∀ n : BitVec 5, (n &&& 0b11110#5).toNat = n.toNat / 2 * 2 := by decide
  unfold State.fpReg
  split
  · rfl
  · exact pair n

theorem getLsbD_zero_iff_odd (n : BitVec 5) : n.getLsbD 0 = true ↔ n.toNat % 2 = 1 := by
  simp [BitVec.getLsbD, Nat.testBit_zero]

/-- A word is read from the low half of its register, or with FR = 0 and an odd number from the high half of the even one. -/
theorem State.fpr32_eq (s : State) (n : BitVec 5) :
    s.fpr32 n = (s.fpr (s.fpReg n)).extractLsb' (if s.fr = false ∧ n.toNat % 2 = 1 then 32 else 0) 32 := by
  have even : ∀ n : BitVec 5, n.getLsbD 0 = false → n &&& 0b11110#5 = n := by decide
  simp only [State.fpr32, State.fpReg, low32, high32, ← getLsbD_zero_iff_odd]
  cases s.fr
  · cases hn : n.getLsbD 0
    · simp [even n hn]
    · simp
  · simp

/-- What the register that takes a word holds afterwards. -/
def State.wordInFpr (s : State) (n : BitVec 5) (w : Word) : DWord :=
  let old := s.fpr (s.fpReg n)
  if s.fr then w.setWidth 64 else if n.toNat % 2 = 1 then w ++ old.extractLsb' 0 32 else old.extractLsb' 32 32 ++ w

theorem State.setFpr32_eq (s : State) (n : BitVec 5) (w : Word) :
    s.setFpr32 n w = s.setFpr (s.fpReg n) (s.wordInFpr n w) := by
  simp only [State.setFpr32, State.fpReg, State.wordInFpr, low32, high32, zext32, ← getLsbD_zero_iff_odd]
  cases s.fr <;> cases n.getLsbD 0 <;> rfl

/-- A word result fills its register, the upper half cleared. -/
theorem State.resultS_zext32 (s : State) (n : BitVec 5) (w : Word) :
    s.resultS n (zext32 w) = s.setFpr (s.fpReg n) (zext32 w) := by
  have low : low32 (zext32 w) = w := by
    ext i hi
    simp [low32, zext32, hi, show i < 64 by omega]
  rw [State.resultS, low]

/-- What arithmetic and the word moves read, by its number. -/
theorem State.fpr_fpReg (s : State) (n : BitVec 5) :
    s.fpr (s.fpReg n) = s.fprFile (if s.fr then n.toNat else n.toNat / 2 * 2) := by
  rw [← State.fpReg_toNat, State.fprFile_toNat]

/-! ## The moves -/

/-- A completed write of one floating-point register: what it puts there, and that every other register keeps its value. -/
theorem State.fprFile_setFpr_advance (s : State) (n : BitVec 5) (v : DWord) :
    ∀ k < 32, (s.setFpr (s.fpReg n) v).advance.fprFile k =
      if k = (if s.fr then n.toNat else n.toNat / 2 * 2) then v else s.fprFile k := by
  intro k hk
  rw [State.fprFile_advance, State.fprFile_setFpr _ _ _ hk, State.fpReg_toNat]

/-- R955: a conditional move is a move of fs, or of fd itself. -/
theorem State.fpCondMove_eq {s : State} (hcu1 : s.cu1 = true) (h4 : s.mips4 = true) (f : Fmt) {c : Bool} {p : Prop} [Decidable p]
    (hc : c = true ↔ p) (fs fd : BitVec 5) :
    s.fpCondMove f c fs fd = .next (s.result f fd (if p then s.operand f fs else s.operand f fd)).advance := by
  rw [State.fpCondMove, State.requireCp1_of_usable hcu1, State.requireFp4_of_enabled h4, State.fpMove]
  by_cases h : p
  · rw [if_pos h, if_pos (hc.2 h)]
  · rw [if_neg h, if_neg (mt hc.1 h)]

/-- R46: FCR0 as CFC1 delivers it. -/
theorem sext32_fcr0 : sext32 fcr0 = 0x00000000000009#56 ++ Config.fcr0Rev := by
  have positive : ∀ r : BitVec 8, (0x09#24 ++ r : BitVec (24 + 8)).signExtend 64 = 0x00000000000009#56 ++ r := by decide
  exact positive Config.fcr0Rev

/-- R928: the word that CTC1 writes to FCR31, the reserved bits cleared. -/
theorem putField_reserved_fsr (w : Word) : putField w 18 0#5 = w &&& 0xFF83FFFF#32 := by
  simp [putField, mergeMask]

/-- R638: the Cause bits in FCR31 itself raise the exception where E or an enabled one is set. -/
theorem fpTraps_own_cause (v : Word) : fpTraps v (v.extractLsb' 12 6) = true ↔
    v.getLsbD 17 = true ∨ v.extractLsb' 12 5 &&& v.extractLsb' 7 5 ≠ 0#5 := by
  have cause : (v.extractLsb' 12 6).extractLsb' 0 5 = v.extractLsb' 12 5 := by
    ext i hi
    simp [BitVec.getElem_extractLsb', show i < 6 by omega]
  simp [fpTraps, cause]

/-- R928: CTC1 of FCR31. -/
theorem execCtc1_fsr {s : State} (hcu1 : s.cu1 = true) (rt : BitVec 5) :
    let v := (s.gpr rt).extractLsb' 0 32 &&& 0xFF83FFFF#32
    execCtc1 rt 31#5 s =
      if fpTraps v (v.extractLsb' 12 6) then .next ((s.setFsr v).takeException 15#5) else .next (s.setFsr v).advance := by
  simp only [execCtc1, State.requireCp1_of_usable hcu1, putField_reserved_fsr, low32, if_true]
  rfl

/-- R925: CFC1 always writes rt. -/
theorem execCfc1_put {s : State} (hcu1 : s.cu1 = true) (rt fs : BitVec 5) : ∃ w, execCfc1 rt fs s = s.put rt w := by
  rw [execCfc1, State.requireCp1_of_usable hcu1]
  split
  · exact ⟨_, rfl⟩
  · split <;> exact ⟨_, rfl⟩

/-- MFC1 (R923). -/
theorem exec_mfc1 {s : State} (hcu1 : s.cu1 = true) (rt fs : BitVec 5) :
    exec (.mfc1 rt fs) s = .next (s.setGpr rt ((s.fpr32 fs).signExtend 64)).advance :=
  State.requireCp1_of_usable hcu1 _

/-- MTC1 (R926). -/
theorem exec_mtc1 {s : State} (hcu1 : s.cu1 = true) (rt fs : BitVec 5) :
    exec (.mtc1 rt fs) s = .next (s.setFpr32 fs ((s.gpr rt).extractLsb' 0 32)).advance :=
  State.requireCp1_of_usable hcu1 _

/-- MOV.S (R936). -/
theorem exec_movS {s : State} (hcu1 : s.cu1 = true) (fs fd : BitVec 5) :
    exec (.movS fs fd) s = .next (s.result .s fd (s.operand .s fs)).advance :=
  State.requireCp1_of_usable hcu1 _

/-- MOV.D (R936). -/
theorem exec_movD {s : State} (hcu1 : s.cu1 = true) (fs fd : BitVec 5) :
    exec (.movD fs fd) s = .next (s.result .d fd (s.operand .d fs)).advance :=
  State.requireCp1_of_usable hcu1 _

/-- Settles O44: past its checks each move is one write of a register, whose place and value `fprFile_setFpr_advance`, `fpr_fpReg`,
`fpr32_eq` and `setFpr32_eq` give. -/
theorem floatingPointMovesCopyBits : Obligations.FloatingPointMovesCopyBits := by
  intro s rt fs fd cc f hcu1 i move bit v
  have usable (k : Out) : s.requireCp1 k = k := State.requireCp1_of_usable hcu1 k
  refine ⟨?mov, ?condMove, exec_mfc1 hcu1 rt fs, exec_mtc1 hcu1 rt fs, ?dmove, ?dmoveOdd, usable _, ?cfc1Rev, execCfc1_put hcu1 rt fs,
    ?ctc1, ?ctc1Traps, fun hfs => (usable _).trans (if_neg hfs), ?mtc1Place, ?mfc1Place, ?movSPlace, ?movDPlace⟩
  case mov =>
    cases f
    · exact exec_movS hcu1 fs fd
    · exact exec_movD hcu1 fs fd
  case condMove =>
    intro h4
    have run {c : Bool} {p : Prop} [Decidable p] (hc : c = true ↔ p) : s.fpCondMove f c fs fd = move p :=
      State.fpCondMove_eq hcu1 h4 f hc fs fd
    have movf := run (c := !s.condition cc) (p := bit = false) (by rw [Bool.not_eq_true']; rfl)
    have movt := run (c := s.condition cc) (p := bit = true) Iff.rfl
    have movz := run (c := s.gpr rt == 0#64) beq_iff_eq
    have movn := run (c := s.gpr rt != 0#64) bne_iff_ne
    cases f <;> exact ⟨movf, movt, movz, movn⟩
  case dmove =>
    intro h3 hfs
    have valid := State.requireDoublewordMove_of_valid hcu1 h3 hfs
    exact ⟨valid _, valid _⟩
  case dmoveOdd =>
    intro h3 hfr hfs
    have odd := State.requireDoublewordMove_of_odd hcu1 h3 hfr hfs
    exact ⟨odd _, odd _⟩
  case cfc1Rev =>
    rw [← sext32_fcr0]
    exact usable _
  case ctc1 =>
    intro hE hEnabled
    have quiet : ¬ fpTraps v (v.extractLsb' 12 6) = true := by
      rw [fpTraps_own_cause, hE, hEnabled]
      simp
    exact (execCtc1_fsr hcu1 rt).trans (if_neg quiet)
  case ctc1Traps =>
    intro h
    exact (execCtc1_fsr hcu1 rt).trans (if_pos ((fpTraps_own_cause v).2 h))
  case mtc1Place =>
    refine ⟨_, exec_mtc1 hcu1 rt fs, ?_⟩
    rw [State.setFpr32_eq, State.wordInFpr, State.fpr_fpReg]
    exact s.fprFile_setFpr_advance fs _
  case mfc1Place =>
    rw [exec_mfc1 hcu1, State.fpr32_eq, State.fpr_fpReg]
    rfl
  case movSPlace =>
    refine ⟨_, exec_movS hcu1 fs fd, ?_⟩
    rw [State.result, State.operand, State.operandS, State.resultS_zext32, State.fpr_fpReg]
    exact s.fprFile_setFpr_advance fd _
  case movDPlace =>
    refine ⟨_, exec_movD hcu1 fs fd, ?_⟩
    rw [State.operand, State.operandD, State.fpr_fpReg]
    exact s.fprFile_setFpr_advance fd _

end Sys2Proof.Machine

end

section
/-! PROOFS. Address translation: the fixed segments and the mapped ranges (R185 to R191), the matching TLB entry and its pages (R196 to
R202). -/

namespace Sys2Proof.Machine

/-! ## Matching (R197) -/

/-- Under a mask two VPN2s agree just when they agree in the bits that MASK leaves. -/
theorem maskVpn_eq_iff (m : BitVec 12) (x y : BitVec 31) : x &&& ~~~(maskVpn m) = y &&& ~~~(maskVpn m) ↔
    ∀ i < 31, m.getLsbD i = false → x.getLsbD i = y.getLsbD i := by
  have bit (z : BitVec 31) (i : Nat) (hi : i < 31) : (z &&& ~~~(maskVpn m)).getLsbD i = (z.getLsbD i && !m.getLsbD i) := by
    simp [maskVpn, hi]
  constructor
  · intro h i hi hm
    have := congrArg (fun z => z.getLsbD i) h
    simpa [bit _ i hi, hm] using this
  · intro h
    apply BitVec.eq_of_getLsbD_eq
    intro i hi
    rw [bit x i hi, bit y i hi]
    cases hm : m.getLsbD i
    · rw [h i hi hm]
    · simp

theorem TlbEntry.matchesVa_iff (e : TlbEntry) (va : DWord) (asid : BitVec 8) : e.matchesVa va asid = true ↔
    e.dead = false ∧ e.r = va.extractLsb' 62 2 ∧
    (∀ i < 31, e.mask.getLsbD i = false → e.vpn2.getLsbD i = va.getLsbD (13 + i)) ∧ (e.g = true ∨ e.asid = asid) := by
  have vpn : (∀ i < 31, e.mask.getLsbD i = false → e.vpn2.getLsbD i = (va.extractLsb' 13 31).getLsbD i) ↔
      ∀ i < 31, e.mask.getLsbD i = false → e.vpn2.getLsbD i = va.getLsbD (13 + i) :=
    forall₂_congr fun i hi => by rw [BitVec.getLsbD_extractLsb']; simp [hi]
  rw [← vpn, ← maskVpn_eq_iff]
  simp [TlbEntry.matchesVa, TlbEntry.hits, and_assoc]

/-! ## The lookup (R200) -/

theorem vector_toList_eq_map_get {α : Type} {n : Nat} (v : Vector α n) : v.toList = (List.finRange n).map v.get := by
  apply List.ext_getElem
  · simp
  · intro i h1 h2
    simp [Vector.get]

/-- A test that one slot alone meets selects it. -/
theorem filter_finRange_eq_singleton {n : Nat} {p : Fin n → Bool} {j : Fin n} (hj : p j = true) (h : ∀ i, i ≠ j → p i = false) :
    (List.finRange n).filter p = [j] := by
  have hp : p = fun i => i == j := by
    funext i
    by_cases e : i = j
    · subst e; simpa using hj
    · rw [h i e, beq_false_of_ne e]
  rw [hp, List.filter_beq, List.count_eq_one_of_mem (List.nodup_finRange n) (List.mem_finRange j)]
  rfl

theorem State.tlbLookup_none {s : State} {va : DWord} (h : ∀ i : Fin 64, (s.tlb.get i).matchesVa va s.asid = false) :
    s.tlbLookup va = .none := by
  have : (s.tlb.toList.filter fun e => e.matchesVa va s.asid) = [] := by
    rw [vector_toList_eq_map_get, List.filter_eq_nil_iff]
    simpa using h
  rw [State.tlbLookup, this]
  rfl

theorem State.tlbLookup_unique {s : State} {va : DWord} {j : Fin 64} (hj : (s.tlb.get j).matchesVa va s.asid = true)
    (h : ∀ i, i ≠ j → (s.tlb.get i).matchesVa va s.asid = false) : s.tlbLookup va = some (s.tlb.get j) := by
  have : (s.tlb.toList.filter fun e => e.matchesVa va s.asid) = [s.tlb.get j] := by
    rw [vector_toList_eq_map_get, List.filter_map,
      filter_finRange_eq_singleton (p := (fun e : TlbEntry => e.matchesVa va s.asid) ∘ s.tlb.get) hj h]
    rfl
  rw [State.tlbLookup, this]
  rfl

theorem State.translate_of_no_match {s : State} {va : DWord} (h : s.segment va = .mapped) (hl : s.tlbLookup va = .none) (kind : Access) :
    s.translate va kind = .refill := by
  simp only [State.translate, h, hl]

theorem State.translate_of_match {s : State} {va : DWord} {e : TlbEntry} (h : s.segment va = .mapped) (hl : s.tlbLookup va = some e)
    (kind : Access) : s.translate va kind = e.translate va kind := by
  simp only [State.translate, h, hl]

/-! ## Translation through an entry (R196, R200, R201) -/

/-- The masks of R92 have n ones. -/
theorem popCount_mask {n : Nat} (hn : n ∈ [0, 2, 4, 6, 8, 10, 12]) : popCount (BitVec.ofNat 12 (2 ^ n - 1)) = n := by
  simp only [List.mem_cons, List.not_mem_nil, or_false] at hn
  rcases hn with rfl | rfl | rfl | rfl | rfl | rfl | rfl <;> decide

/-- PFN[27:n] above the low 12 + n bits of the address, as a number. -/
theorem TlbEntry.physAddr_eq {e : TlbEntry} {n : Nat} (hn : n ≤ 28) (hc : popCount e.mask = n) (p : TlbPage) (va : DWord) :
    e.physAddr p va = BitVec.ofNat 40 (p.pfn.toNat / 2 ^ n * 2 ^ (12 + n) + va.toNat % 2 ^ (12 + n)) := by
  apply BitVec.eq_of_getLsbD_eq
  intro i hi
  have low : va.toNat % 2 ^ (12 + n) < 2 ^ (12 + n) := Nat.mod_lt _ (Nat.two_pow_pos _)
  rw [TlbEntry.physAddr, hc, getLsbD_mergeMask, BitVec.getLsbD_ofNat, BitVec.getLsbD_ofNat, Nat.mul_comm (p.pfn.toNat / 2 ^ n),
    Nat.testBit_two_pow_mul_add _ low, Nat.testBit_two_pow_sub_one, BitVec.getLsbD_append]
  by_cases hin : i < 12 + n
  · simp [hin, hi, BitVec.testBit_toNat]
  · have e : i - (12 + n) + n = i - 12 := by omega
    simp [hin, hi, BitVec.testBit_toNat, e, show ¬ i < 12 by omega, Nat.testBit_div_two_pow]

/-- What an entry makes of an address, by its page: the three outcomes of R200. -/
theorem TlbEntry.translate_cases (e : TlbEntry) (va : DWord) (kind : Access) :
    ((e.page va).v = false → e.translate va kind = .invalid) ∧
    ((e.page va).v = true → kind = .store → (e.page va).d = false → e.translate va kind = .modified) ∧
    ((e.page va).v = true → (kind = .store → (e.page va).d = true) →
      e.translate va kind = .ok ⟨e.physAddr (e.page va) va, (e.page va).c, (e.page va).uc⟩) := by
  refine ⟨fun hv => ?_, fun hv hk hd => ?_, fun hv hd => ?_⟩
  · simp [TlbEntry.translate, hv]
  · subst hk; simp [TlbEntry.translate, hv, hd]
  · by_cases hk : kind = .store
    · subst hk; simp [TlbEntry.translate, hv, hd rfl]
    · simp [TlbEntry.translate, hv, hk]

/-- Settles O27, by the lookup with no match or one, and the page that bit 12 + n selects. -/
theorem mappedAddressesGoThroughTheMatchingEntry : Obligations.MappedAddressesGoThroughTheMatchingEntry := by
  refine ⟨TlbEntry.matchesVa_iff, fun s va kind j hseg => ⟨fun h => ?_, fun hj h n hn hm => ?_⟩⟩
  · exact State.translate_of_no_match hseg (State.tlbLookup_none h) kind
  · have ones : popCount (s.tlb.get j).mask = n := by rw [hm]; exact popCount_mask hn
    have small : n ≤ 28 := by
      simp only [List.mem_cons, List.not_mem_nil, or_false] at hn
      omega
    rw [State.translate_of_match hseg (State.tlbLookup_unique hj h)]
    have cases := (s.tlb.get j).translate_cases va kind
    rw [TlbEntry.physAddr_eq small ones, TlbEntry.page, ones] at cases
    exact cases

/-! ## Segments (R185 to R191) -/

theorem State.translate_unmapped {s : State} {va : DWord} {p : Phys} (h : s.segment va = .unmapped p) (kind : Access) :
    s.translate va kind = .ok p := by
  rw [State.translate, h]

theorem State.translate_illegal {s : State} {va : DWord} (h : s.segment va = .illegal) (kind : Access) :
    s.translate va kind = .addressError := by
  rw [State.translate, h]

theorem State.translate_legal_or_not {s : State} {va : DWord} {legal : Prop} [Decidable legal] {p : Phys}
    (h : s.segment va = if legal then .unmapped p else .illegal) (kind : Access) :
    s.translate va kind = if legal then .ok p else .addressError := by
  by_cases hl : legal
  · rw [if_pos hl] at h ⊢
    exact State.translate_unmapped h kind
  · rw [if_neg hl] at h ⊢
    exact State.translate_illegal h kind

theorem physSegment_eq {va : DWord} {base : Nat} (hb : base % 2 ^ 29 = 0) (low : base ≤ va.toNat) (high : va.toNat < base + 2 ^ 29)
    (attr : Option (BitVec 2)) (alg : BitVec 3) :
    physSegment attr va alg = .unmapped ⟨BitVec.ofNat 40 (va.toNat - base), alg, attr.getD (va.extractLsb' 57 2)⟩ := by
  have : (va.extractLsb' 0 29).setWidth 40 = BitVec.ofNat 40 (va.toNat - base) := by
    apply BitVec.eq_of_toNat_eq
    simp only [BitVec.toNat_setWidth, BitVec.extractLsb'_toNat, BitVec.toNat_ofNat, Nat.shiftRight_zero]
    omega
  rw [physSegment, this]
  rfl

theorem erlSegment_eq {va : DWord} (high : va.toNat < 0x80000000) :
    erlSegment va = .unmapped ⟨BitVec.ofNat 40 va.toNat, 2#3, 0#2⟩ := by
  have pa : (va.extractLsb' 0 31).setWidth 40 = BitVec.ofNat 40 va.toNat := by
    apply BitVec.eq_of_toNat_eq
    simp only [BitVec.toNat_setWidth, BitVec.extractLsb'_toNat, BitVec.toNat_ofNat, Nat.shiftRight_zero]
    omega
  have attr : unmappedAttr va = 0#2 := by
    apply BitVec.eq_of_toNat_eq
    simp only [unmappedAttr, BitVec.extractLsb'_toNat, Nat.shiftRight_eq_div_pow, BitVec.toNat_ofNat]
    omega
  rw [erlSegment, pa, attr]
  rfl

/-- Bits 30:29 choose among the four compatibility segments. -/
theorem compatSegment_eq {va : DWord} (low : 0xFFFFFFFF80000000 ≤ va.toNat) (attr : Option (BitVec 2)) (k0 : BitVec 3) :
    compatSegment attr k0 va = if va.toNat < 0xFFFFFFFFA0000000 then physSegment attr va k0
      else if va.toNat < 0xFFFFFFFFC0000000 then physSegment attr va algUncached else .mapped := by
  have top := va.isLt
  have field : (va.extractLsb' 29 2).toNat = va.toNat / 2 ^ 29 % 4 := by
    simp [BitVec.extractLsb'_toNat, Nat.shiftRight_eq_div_pow]
  unfold compatSegment
  rw [field]
  split_ifs with h0 h1
  · rw [show va.toNat / 2 ^ 29 % 4 = 0 by omega]
    rfl
  · rw [show va.toNat / 2 ^ 29 % 4 = 1 by omega]
    rfl
  · split
    · omega
    · omega
    · rfl

/-- The upper two bits choose the region in 64-bit addressing. -/
theorem region_eq (va : DWord) : (va.extractLsb' 62 2).toNat = va.toNat / 2 ^ 62 := by
  have := va.isLt
  simp only [BitVec.extractLsb'_toNat, Nat.shiftRight_eq_div_pow]
  omega

/-- Kernel mode, 64-bit addressing, by ranges of addresses instead of regions. -/
theorem kernel64_eq (attr : Option (BitVec 2)) (k0 : BitVec 3) (erl ux xks : Bool) (va : DWord) :
    kernel64 attr k0 erl ux xks va =
      if va.toNat < 0x80000000 then (if erl then erlSegment va else .mapped)
      else if va.toNat < 0x4000000000000000 then (if va.toNat < 0x100000000000 ∧ ux = true ∧ erl = false then .mapped else .illegal)
      else if va.toNat < 0x8000000000000000 then (if va.toNat < 0x4000100000000000 ∧ xks = true then .mapped else .illegal)
      else if va.toNat < 0xC000000000000000 then xkphys va
      else if 0xFFFFFFFF80000000 ≤ va.toNat then compatSegment attr k0 va
      else if va.toNat < 0xC0000FFF00000000 then .mapped else .illegal := by
  have top := va.isLt
  unfold kernel64
  rw [region_eq]
  split
  case h_1 h =>
    rw [if_pos (show va.toNat < 0x4000000000000000 by omega)]
    by_cases hu : va.toNat < 0x100000000000 <;> cases ux <;> cases erl <;> simp [hu]
  case h_2 h =>
    rw [if_neg (show ¬ va.toNat < 0x80000000 by omega), if_neg (show ¬ va.toNat < 0x4000000000000000 by omega),
      if_pos (show va.toNat < 0x8000000000000000 by omega)]
    simp
  case h_3 h =>
    rw [if_neg (show ¬ va.toNat < 0x80000000 by omega), if_neg (show ¬ va.toNat < 0x4000000000000000 by omega),
      if_neg (show ¬ va.toNat < 0x8000000000000000 by omega), if_pos (show va.toNat < 0xC000000000000000 by omega)]
  case h_4 h0 h1 h2 =>
    simp only [imp_false] at h0 h1 h2
    rw [if_neg (show ¬ va.toNat < 0x80000000 by omega), if_neg (show ¬ va.toNat < 0x4000000000000000 by omega),
      if_neg (show ¬ va.toNat < 0x8000000000000000 by omega), if_neg (show ¬ va.toNat < 0xC000000000000000 by omega)]

theorem State.segment_kernel {s : State} (h : s.mode = .kernel) (va : DWord) : s.segment va =
    if s.kx then kernel64 s.params.compatAttr s.cp0.k0 s.erl s.ux s.xkssegMapped va
    else kernel32 s.params.compatAttr s.cp0.k0 s.erl va := by
  rw [State.segment, h]

/-- The compatibility segments are those of both address sizes. -/
theorem State.segment_compat {s : State} (h : s.mode = .kernel) {va : DWord} (low : 0xFFFFFFFF80000000 ≤ va.toNat) :
    s.segment va = compatSegment s.params.compatAttr s.cp0.k0 va := by
  rw [State.segment_kernel h, kernel64_eq, kernel32]
  by_cases hk : s.kx = true
  · rw [if_pos hk, if_neg (by omega), if_neg (by omega), if_neg (by omega), if_neg (by omega), if_pos low]
  · rw [if_neg hk, if_neg (by omega), if_pos low]

/-- kseg1 (R187). -/
theorem State.segment_kseg1 {s : State} (h : s.mode = .kernel) {va : DWord} (low : 0xFFFFFFFFA0000000 ≤ va.toNat)
    (high : va.toNat < 0xFFFFFFFFC0000000) :
    s.segment va = .unmapped ⟨BitVec.ofNat 40 (kseg1Pa va), 2#3, s.params.compatAttr.getD (va.extractLsb' 57 2)⟩ := by
  rw [State.segment_compat h (by omega), compatSegment_eq (by omega), if_neg (by omega), if_pos (by omega),
    physSegment_eq (base := 0xFFFFFFFFA0000000) (by decide) low (by omega)]
  rfl

/-- kseg0 (R187). -/
theorem State.segment_kseg0 {s : State} (h : s.mode = .kernel) {va : DWord} (low : 0xFFFFFFFF80000000 ≤ va.toNat)
    (high : va.toNat < 0xFFFFFFFFA0000000) : s.segment va =
      .unmapped ⟨BitVec.ofNat 40 (va.toNat - 0xFFFFFFFF80000000), s.cp0.k0, s.params.compatAttr.getD (va.extractLsb' 57 2)⟩ := by
  rw [State.segment_compat h low, compatSegment_eq low, if_pos (by omega), physSegment_eq (base := 0xFFFFFFFF80000000) (by decide) low
    (by omega)]

/-- kuseg with ERL = 1 (R191). -/
theorem State.segment_erl {s : State} (h : s.erl = true) {va : DWord} (high : va.toNat < 0x80000000) :
    s.segment va = .unmapped ⟨BitVec.ofNat 40 va.toNat, 2#3, 0#2⟩ := by
  rw [State.segment_kernel (State.mode_of_erl h), kernel64_eq, kernel32, if_pos high, if_pos high, h, if_pos rfl, ite_self,
    erlSegment_eq high]

/-- xkphys (R189). -/
theorem State.segment_xkphys {s : State} (h : s.mode = .kernel) (hk : s.kx = true) {va : DWord} (low : 0x8000000000000000 ≤ va.toNat)
    (high : va.toNat < 0xC000000000000000) : s.segment va = xkphys va := by
  rw [State.segment_kernel h, if_pos hk, kernel64_eq, if_neg (by omega), if_neg (by omega), if_neg (by omega), if_pos high]

theorem xkphys_eq (va : DWord) : xkphys va =
    if (if va.extractLsb' 59 3 = 2#3 ∨ va.extractLsb' 59 3 = 7#3 then va.extractLsb' 40 17 = 0#17 else va.extractLsb' 40 19 = 0#19) then
      .unmapped ⟨va.extractLsb' 0 40, va.extractLsb' 59 3, va.extractLsb' 57 2⟩
    else .illegal := by
  simp only [xkphys, algUncached, algAccelerated, unmappedAttr, Bool.or_eq_true, beq_iff_eq]
  split_ifs <;> simp_all

theorem xkphys_ne_mapped (va : DWord) : xkphys va ≠ .mapped := by
  rw [xkphys_eq]
  split_ifs <;> exact Segment.noConfusion

theorem physSegment_ne_mapped (attr : Option (BitVec 2)) (va : DWord) (alg : BitVec 3) : physSegment attr va alg ≠ .mapped :=
  Segment.noConfusion

theorem erlSegment_ne_mapped (va : DWord) : erlSegment va ≠ .mapped := Segment.noConfusion

/-- The mapped ranges of Kernel mode (R187, R188, R191). -/
def State.KernelMapped (s : State) (n : Nat) : Prop :=
  (s.erl = false ∧ n < 0x80000000) ∨ 0xFFFFFFFFC0000000 ≤ n ∨
    (s.kx = true ∧ ((s.ux = true ∧ s.erl = false ∧ n < 0x100000000000) ∨
      ((s.sx = true ∨ s.params.xkssegRefill = true) ∧ 0x4000000000000000 ≤ n ∧ n < 0x4000100000000000) ∨
      (0xC000000000000000 ≤ n ∧ n < 0xC0000FFF00000000)))

/-- The unmapped ranges of Kernel mode (R187, R189, R191). -/
def State.KernelFixed (s : State) (n : Nat) : Prop :=
  (s.erl = true ∧ n < 0x80000000) ∨ (0xFFFFFFFF80000000 ≤ n ∧ n < 0xFFFFFFFFC0000000) ∨
    (s.kx = true ∧ 0x8000000000000000 ≤ n ∧ n < 0xC000000000000000)

theorem xkssegMapped_iff (s : State) : s.xkssegMapped = true ↔ s.sx = true ∨ s.params.xkssegRefill = true := by
  simp [State.xkssegMapped]

theorem State.kernel_mapped_iff {s : State} (h : s.mode = .kernel) (va : DWord) : s.segment va = .mapped ↔ s.KernelMapped va.toNat := by
  have top := va.isLt
  by_cases hc : 0xFFFFFFFF80000000 ≤ va.toNat
  case pos =>
    rw [State.segment_compat h hc, compatSegment_eq hc, State.KernelMapped]
    split_ifs <;> simp [physSegment_ne_mapped] <;> omega
  rw [State.segment_kernel h]
  by_cases hk : s.kx = true
  case pos =>
    rw [if_pos hk, kernel64_eq, State.KernelMapped, ← xkssegMapped_iff]
    split_ifs with h1 h2 h3 h4 h5 h6 h7 h8 <;> simp [xkphys_ne_mapped, erlSegment_ne_mapped, *] <;> grind
  case neg =>
    rw [if_neg hk, kernel32, State.KernelMapped]
    split_ifs with h1 h2 <;> simp [erlSegment_ne_mapped, *] <;> omega


theorem State.kernel_illegal {s : State} (h : s.mode = .kernel) {va : DWord} (hm : ¬ s.KernelMapped va.toNat)
    (hf : ¬ s.KernelFixed va.toNat) : s.segment va = .illegal := by
  rw [State.KernelFixed] at hf
  rw [State.KernelMapped, ← xkssegMapped_iff] at hm
  rw [State.segment_kernel h, kernel64_eq, kernel32]
  split_ifs <;> grind

theorem State.supervisor_mapped_iff {s : State} (h : s.mode = .supervisor) (va : DWord) : s.segment va = .mapped ↔
    (va.toNat < 0x80000000 ∨ (0xFFFFFFFFC0000000 ≤ va.toNat ∧ va.toNat < 0xFFFFFFFFE0000000) ∨
      (s.sx = true ∧ s.ux = true ∧ va.toNat < 0x100000000000) ∨
      (s.sx = true ∧ 0x4000000000000000 ≤ va.toNat ∧ va.toNat < 0x4000100000000000)) := by
  rw [State.segment, h]
  unfold supervisorSegment supervisorHigh
  dsimp only
  split_ifs <;> grind

theorem State.user_mapped_iff {s : State} (h : s.mode = .user) (va : DWord) :
    s.segment va = .mapped ↔ va.toNat < (if s.ux then 0x100000000000 else 0x80000000) := by
  rw [State.segment, h]
  unfold userSegment
  dsimp only
  split_ifs <;> simp [*]

/-- Outside Kernel mode no segment is fixed. -/
theorem State.illegal_of_not_mapped {s : State} (h : s.mode ≠ .kernel) {va : DWord} (hm : s.segment va ≠ .mapped) :
    s.segment va = .illegal := by
  revert hm
  rw [State.segment]
  split
  · contradiction
  · unfold supervisorSegment
    split_ifs <;> simp
  · unfold userSegment
    split_ifs <;> simp

/-- Settles O28: the four fixed segments, and by the mode which ranges are mapped and that no other address is legal. -/
theorem segmentsFixWhatIsMappedAndWhatIsLegal : Obligations.SegmentsFixWhatIsMappedAndWhatIsLegal := by
  intro s va kind
  refine ⟨fun h low high => State.translate_unmapped (State.segment_kseg0 h low high) kind,
    fun h low high => State.translate_unmapped (State.segment_kseg1 h low high) kind,
    fun h high => State.translate_unmapped (State.segment_erl h high) kind, fun h hk low high => ?xkphys, ?mapped, ?illegal⟩
  case xkphys =>
    exact State.translate_legal_or_not ((State.segment_xkphys h hk low high).trans (xkphys_eq va)) kind
  case mapped =>
    cases hm : s.mode
    case kernel =>
      rw [State.kernel_mapped_iff hm va]
      simp only [reduceCtorEq, false_and, true_and, false_or]
      rfl
    case supervisor =>
      rw [State.supervisor_mapped_iff hm va]
      simp only [reduceCtorEq, false_and, true_and, false_or, or_false]
    case user =>
      rw [State.user_mapped_iff hm va]
      simp only [reduceCtorEq, false_and, true_and, or_false]
  case illegal =>
    intro notMapped notFixed
    refine State.translate_illegal ?_ kind
    cases hm : s.mode
    case kernel => exact State.kernel_illegal hm (fun h => notMapped (.inr (.inr ⟨hm, h⟩))) fun h => notFixed ⟨hm, h⟩
    case supervisor =>
      exact State.illegal_of_not_mapped (by simp [hm]) fun h => notMapped (.inr (.inl ⟨hm, (State.supervisor_mapped_iff hm va).1 h⟩))
    case user =>
      exact State.illegal_of_not_mapped (by simp [hm]) fun h => notMapped (.inl ⟨hm, (State.user_mapped_iff hm va).1 h⟩)

end Sys2Proof.Machine

end

section
/-! PROOFS. Misaligned loads and stores (R232, R801, R1031). -/

namespace Sys2Proof.Machine

/-- What an Address Error writes before the exception entry: BadVAddr, and free values in the VPN fields (log entry 60). -/
theorem State.addressError_eq (s : State) (store : Bool) (va : DWord) : ∃ c x h,
    s.addressError store va = ({ s with cp0 := { s.cp0 with badVAddr := va, context := c, xContext := x, entryHi := h } } :
      State).takeException (if store then 5#5 else 4#5) ∧
    c.extractLsb' 23 41 = s.cp0.context.extractLsb' 23 41 ∧ c.extractLsb' 0 4 = s.cp0.context.extractLsb' 0 4 ∧
    x.extractLsb' 37 27 = s.cp0.xContext.extractLsb' 37 27 ∧ x.extractLsb' 0 4 = s.cp0.xContext.extractLsb' 0 4 ∧
    h.extractLsb' 44 18 = s.cp0.entryHi.extractLsb' 44 18 ∧ h.extractLsb' 0 13 = s.cp0.entryHi.extractLsb' 0 13 := by
  refine ⟨_, _, _, rfl, extract_putField_ne _ _ _ _ _ (by omega), extract_putField_ne _ _ _ _ _ (by omega),
    extract_putField_ne _ _ _ _ _ (by omega), extract_putField_ne _ _ _ _ _ (by omega), ?_, ?_⟩ <;>
  rw [extract_putField_ne _ _ _ _ _ (by omega), extract_putField_ne _ _ _ _ _ (by omega)]

theorem State.aligned_of_misaligned {α : Type} {s : State} {va : DWord} {n : Nat} (h : (s.dataAddress va).toNat % n ≠ 0) (store : Bool)
    (k : DWord → Acc α) : s.aligned va n store k = .trap (s.addressError store (s.dataAddress va)) := if_neg h

theorem State.aligned_of_aligned {α : Type} {s : State} {va : DWord} {n : Nat} (h : (s.dataAddress va).toNat % n = 0) (store : Bool)
    (k : DWord → Acc α) : s.aligned va n store k = k (s.dataAddress va) := if_pos h

section
variable {s : State} {va : DWord} {n : Nat} (h : (s.dataAddress va).toNat % n ≠ 0)
include h

theorem State.loadLinked_misaligned (rt : BitVec 5) : s.loadLinked va n rt = .next (s.addressError false (s.dataAddress va)) := by
  rw [State.loadLinked, State.readPhys, State.aligned_of_misaligned h]
  rfl

theorem State.read_misaligned : s.read va n = .trap (s.addressError false (s.dataAddress va)) := by
  rw [State.read, State.readPhys, State.aligned_of_misaligned h]
  rfl

/-- However the load would go on. -/
theorem State.read_done_misaligned (f : DWord → State → Out) :
    (s.read va n).done f = .next (s.addressError false (s.dataAddress va)) := by
  rw [State.read_misaligned h]
  rfl

theorem State.storeValue_misaligned (v : DWord) : s.storeValue va n v = .next (s.addressError true (s.dataAddress va)) := by
  rw [State.storeValue, State.write, State.aligned_of_misaligned h]
  rfl

theorem State.storeConditional_misaligned (rt : BitVec 5) :
    s.storeConditional va n rt = .next (s.addressError true (s.dataAddress va)) := by
  rw [State.storeConditional, State.writeLinked, State.aligned_of_misaligned h]
  rfl
end

theorem State.requireMips4_of_enabled {s : State} (h : s.mips4 = true) (k : Out) : s.requireMips4 k = k := if_pos h

/-- Settles O29: past the checks each form runs a shared load or store, which the alignment test ends. -/
theorem misalignedAccessesTakeAddressError : Obligations.MisalignedAccessesTakeAddressError := by
  intro s base rt index off
  refine ⟨s.addressError_eq, ?loads, ?stores, fun h3 => ⟨?loads64, ?stores64⟩, fun hcu1 => ⟨fun h => ?fp32, fun h4 h => ?fp32Indexed,
    fun hreg => ⟨fun h => ?fp64, fun h4 h => ?fp64Indexed⟩⟩⟩
  case loads =>
    simp only [List.forall_mem_cons, List.not_mem_nil, false_implies, implies_true, and_true]
    exact ⟨fun h => State.read_done_misaligned h _, fun h => State.read_done_misaligned h _,
      fun h => State.read_done_misaligned h _, fun h => State.loadLinked_misaligned h rt⟩
  case stores =>
    simp only [List.forall_mem_cons, List.not_mem_nil, false_implies, implies_true, and_true]
    exact ⟨fun h => State.storeValue_misaligned h _, fun h => State.storeValue_misaligned h _,
      fun h => State.storeConditional_misaligned h rt⟩
  case loads64 =>
    simp only [List.forall_mem_cons, List.not_mem_nil, false_implies, implies_true, and_true]
    have enabled (k : Out) : s.requireMips3 k = k := State.requireMips3_of_enabled h3 k
    exact ⟨fun h => (enabled _).trans (State.read_done_misaligned h _), fun h => (enabled _).trans (State.read_done_misaligned h _),
      fun h => (enabled _).trans (State.loadLinked_misaligned h rt)⟩
  case stores64 =>
    simp only [List.forall_mem_cons, List.not_mem_nil, false_implies, implies_true, and_true]
    have enabled (k : Out) : s.requireMips3 k = k := State.requireMips3_of_enabled h3 k
    exact ⟨fun h => (enabled _).trans (State.storeValue_misaligned h _), fun h => (enabled _).trans (State.storeConditional_misaligned h rt)⟩
  all_goals have usable (k : Out) : s.requireCp1 k = k := State.requireCp1_of_usable hcu1 k
  case fp32 => exact ⟨(usable _).trans (State.read_done_misaligned h _), (usable _).trans (State.storeValue_misaligned h _)⟩
  case fp32Indexed =>
    exact ⟨(State.requireMips4_of_enabled h4 _).trans ((usable _).trans (State.read_done_misaligned h _)),
      (State.requireMips4_of_enabled h4 _).trans ((usable _).trans (State.storeValue_misaligned h _))⟩
  all_goals have valid (k : Out) : s.requireFpr64 rt k = k := State.requireFpr64_of_valid hreg k
  case fp64 =>
    exact ⟨(usable _).trans ((valid _).trans (State.read_done_misaligned h _)),
      (usable _).trans ((valid _).trans (State.storeValue_misaligned h _))⟩
  case fp64Indexed => 
    exact ⟨(State.requireMips4_of_enabled h4 _).trans ((usable _).trans ((valid _).trans (State.read_done_misaligned h _))),
      (State.requireMips4_of_enabled h4 _).trans ((usable _).trans ((valid _).trans (State.storeValue_misaligned h _)))⟩

end Sys2Proof.Machine

end

section
/-! PROOFS. Byte lanes and memory: the doubleword of a memory bit by bit, the bytes an access selects in either byte order (R230), and
what loads deliver of a doubleword and stores put into it. -/

namespace Sys2Proof.Machine

/-! ## Lane masks -/

theorem getLsbD_laneByte (b : Bool) {i : Nat} (hi : i < 8) : (laneByte b).getLsbD i = b := by
  cases b
  · simp [laneByte]
  · have : (0xFF#8 : Byte) = BitVec.allOnes 8 := by decide
    simp only [laneByte, if_true, this, BitVec.getLsbD_allOnes, hi, decide_true]

/-- A bit of eight bytes put side by side. -/
theorem getLsbD_append_bytes (b : Nat → Byte) {i : Nat} (hi : i < 64) :
    (b 7 ++ b 6 ++ b 5 ++ b 4 ++ b 3 ++ b 2 ++ b 1 ++ b 0).getLsbD i = (b (i / 8)).getLsbD (i % 8) := by
  have h : i / 8 = 0 ∨ i / 8 = 1 ∨ i / 8 = 2 ∨ i / 8 = 3 ∨ i / 8 = 4 ∨ i / 8 = 5 ∨ i / 8 = 6 ∨ i / 8 = 7 := by omega
  simp only [BitVec.getLsbD_append]
  rcases h with h | h | h | h | h | h | h | h <;> rw [h] <;> split_ifs <;> grind

theorem getLsbD_laneMask (l : BitVec 8) {i : Nat} (hi : i < 64) : (laneMask l).getLsbD i = l.getLsbD (i / 8) := by
  rw [laneMask, getLsbD_append_bytes (fun k => laneByte (l.getLsbD k)) hi, getLsbD_laneByte _ (Nat.mod_lt _ (by omega))]

theorem getLsbD_lanesFrom (k n : Nat) {j : Nat} (hj : j < 8) : (lanesFrom k n).getLsbD j = decide (k ≤ j ∧ j < k + n) := by
  rw [lanesFrom, BitVec.getLsbD_ofNat, Nat.mul_comm, Nat.testBit_two_pow_mul, Nat.testBit_two_pow_sub_one]
  by_cases h : k ≤ j <;> simp [h, hj]; omega

theorem getLsbD_lowBytes (n : Nat) (d : DWord) (i : Nat) : (lowBytes n d).getLsbD i = (decide (i < 8 * n) && d.getLsbD i) := by
  rw [lowBytes, BitVec.getLsbD_and]
  by_cases hi : i < 64
  · rw [getLsbD_laneMask _ hi, getLsbD_lanesFrom _ _ (by omega), Bool.and_comm]
    congr 1
    simp only [decide_eq_decide]
    omega
  · simp [BitVec.getLsbD_of_ge _ i (Nat.le_of_not_lt hi)]

/-- A bit of the low n bytes of a doubleword with some lanes replaced, the lowest of the n bytes on lane k. -/
theorem getLsbD_lowBytes_mergeMask {n k : Nat} (hk : k + n ≤ 8) (l : BitVec 8) (old d : DWord) (i : Nat) :
    (lowBytes n (mergeMask (laneMask l) old d >>> (8 * k))).getLsbD i =
      (decide (i < 8 * n) && if l.getLsbD (k + i / 8) then d.getLsbD (8 * k + i) else old.getLsbD (8 * k + i)) := by
  rw [getLsbD_lowBytes, BitVec.getLsbD_ushiftRight, getLsbD_mergeMask]
  by_cases hi : i < 8 * n
  · rw [getLsbD_laneMask _ (by omega), show (8 * k + i) / 8 = k + i / 8 by omega]
  · simp [hi]

/-- What a store of n bytes put on lanes k to k + n - 1, a load of these lanes delivers. -/
theorem lowBytes_mergeMask_same {n k : Nat} (hk : k + n ≤ 8) (old v : DWord) :
    (lowBytes n (mergeMask (laneMask (lanesFrom k n)) old (v <<< (8 * k)) >>> (8 * k))).toNat = v.toNat % 256 ^ n := by
  apply Nat.eq_of_testBit_eq
  intro i
  rw [BitVec.testBit_toNat, getLsbD_lowBytes_mergeMask hk, show 256 ^ n = 2 ^ (8 * n) by rw [Nat.pow_mul], Nat.testBit_mod_two_pow,
    BitVec.testBit_toNat]
  by_cases hi : i < 8 * n
  · rw [getLsbD_lanesFrom _ _ (by omega), BitVec.getLsbD_shiftLeft]
    simp [hi, show i / 8 < n by omega, show 8 * k + i < 64 by omega]
  · simp [hi]

/-- Other lanes than those of the load do not matter to it. -/
theorem lowBytes_mergeMask_apart {n k : Nat} (hk : k + n ≤ 8) {l : BitVec 8} (h : ∀ j, k ≤ j → j < k + n → l.getLsbD j = false)
    (old d : DWord) : lowBytes n (mergeMask (laneMask l) old d >>> (8 * k)) = lowBytes n (old >>> (8 * k)) := by
  apply BitVec.eq_of_getLsbD_eq
  intro i _
  rw [getLsbD_lowBytes_mergeMask hk, getLsbD_lowBytes, BitVec.getLsbD_ushiftRight]
  by_cases hi : i < 8 * n
  · rw [h _ (by omega) (by omega)]
    simp
  · simp [hi]

/-! ## Memory by bits and bytes -/

theorem Memory.getLsbD_readDouble (be : Bool) (m : List Host.Cell) (base : Nat) {i : Nat} (hi : i < 64) :
    (Memory.readDouble be m base).getLsbD i = (Memory.read m (base + laneAddress be (i / 8))).getLsbD (i % 8) :=
  getLsbD_append_bytes (fun k => Memory.read m (base + laneAddress be k)) hi

/-- Bit i of the number in n bytes of memory. -/
theorem testBit_bytesAt (be : Bool) (m : List Host.Cell) (a n i : Nat) : (bytesAt be m a n).testBit i =
    (decide (i < 8 * n) && (Memory.read m (a + if be then n - 1 - i / 8 else i / 8)).getLsbD (i % 8)) := by
  have bound : ∀ n, bytesAt be m a n < 2 ^ (8 * n) := by
    intro n
    induction n with
    | zero => simp [bytesAt]
    | succ n ih =>
      have byte := (Memory.read m (a + n)).isLt
      have e1 : 2 ^ (8 * (n + 1)) = 2 ^ (8 * n) * 256 := by rw [Nat.mul_succ, Nat.pow_add]
      have e2 : 256 ^ n = 2 ^ (8 * n) := by rw [Nat.pow_mul]
      rw [bytesAt, e1, e2]
      split
      · omega
      · nlinarith
  induction n generalizing i with
  | zero => simp [bytesAt]
  | succ n ih =>
    rw [bytesAt]
    cases be with
    | true =>
      rw [if_pos rfl, show 256 = 2 ^ 8 by rfl, Nat.mul_comm, Nat.testBit_two_pow_mul_add _ (Memory.read m (a + n)).isLt, ih]
      by_cases hi : i < 8
      · simp [hi, show i < 8 * (n + 1) by omega, show i / 8 = 0 by omega, show i % 8 = i by omega, BitVec.testBit_toNat]
      · simp [hi, show i - 8 < 8 * n ↔ i < 8 * (n + 1) by omega, show (i - 8) / 8 = i / 8 - 1 by omega, show (i - 8) % 8 = i % 8 by omega,
          show n - 1 - (i / 8 - 1) = n - i / 8 by omega]
    | false =>
      rw [if_neg Bool.false_ne_true, Nat.add_comm, Nat.mul_comm, show 256 ^ n = 2 ^ (8 * n) by rw [Nat.pow_mul],
        Nat.testBit_two_pow_mul_add _ (bound n), ih]
      by_cases hi : i < 8 * n
      · simp [hi, show i < 8 * (n + 1) by omega]
      · by_cases hi' : i < 8 * (n + 1)
        · simp [hi, hi', show i / 8 = n by omega, show i - 8 * n = i % 8 by omega, BitVec.testBit_toNat]
        · rw [if_neg hi, BitVec.testBit_toNat, BitVec.getLsbD_of_ge _ _ (by omega)]
          simp [hi']

theorem bytesAt_lt (be : Bool) (m : List Host.Cell) (a n : Nat) : bytesAt be m a n < 2 ^ (8 * n) := by
  apply Nat.lt_pow_two_of_testBit
  intro i hi
  rw [testBit_bytesAt]
  simp [Nat.not_lt.2 hi]

/-- Reading a doubleword back after some of its lanes were written. -/
theorem Memory.readDouble_writeDouble_same {m : List Host.Cell} (h : Memory.wf m = true) (be : Bool) (base : Nat) (l : BitVec 8) (d : DWord) :
    Memory.readDouble be (Memory.writeDouble be m base l d) base = mergeMask (laneMask l) (Memory.readDouble be m base) d := by
  apply BitVec.eq_of_getLsbD_eq
  intro i hi
  have lane : laneFor be (laneAddress be (i / 8)) = i / 8 := by cases be <;> simp [laneFor, laneAddress]; omega
  have inside : laneAddress be (i / 8) < 8 := by cases be <;> simp [laneAddress] <;> omega
  rw [Memory.getLsbD_readDouble _ _ _ hi, Memory.read_writeDouble h, getLsbD_mergeMask, getLsbD_laneMask _ hi, Nat.add_sub_cancel_left, lane]
  by_cases hl : l.getLsbD (i / 8)
  · rw [if_pos ⟨by omega, by omega, hl⟩, if_pos hl, laneOf, BitVec.getLsbD_extractLsb', Nat.div_add_mod]
    simp [Nat.mod_lt]
  · rw [if_neg (by simp [hl]), if_neg hl, Memory.getLsbD_readDouble _ _ _ hi]

/-- A doubleword is read byte by byte. -/
theorem Memory.readDouble_congr {be : Bool} {m m' : List Host.Cell} {base : Nat}
    (h : ∀ x, base ≤ x → x < base + 8 → Memory.read m' x = Memory.read m x) :
    Memory.readDouble be m' base = Memory.readDouble be m base := by
  have e (k : Nat) (hk : k < 8) : Memory.read m' (base + laneAddress be k) = Memory.read m (base + laneAddress be k) :=
    h _ (Nat.le_add_right _ _) (by unfold laneAddress; split <;> omega)
  simp only [Memory.readDouble, e 0 (by omega), e 1 (by omega), e 2 (by omega), e 3 (by omega), e 4 (by omega), e 5 (by omega),
    e 6 (by omega), e 7 (by omega)]

/-- A write of one doubleword leaves the others. -/
theorem Memory.readDouble_writeDouble_ne {m : List Host.Cell} (h : Memory.wf m = true) (be : Bool) {base base' : Nat}
    (apart : base' + 8 ≤ base ∨ base + 8 ≤ base') (l : BitVec 8) (d : DWord) :
    Memory.readDouble be (Memory.writeDouble be m base l d) base' = Memory.readDouble be m base' :=
  Memory.readDouble_congr fun x h1 h2 => by rw [Memory.read_writeDouble h, if_neg (by omega)]

/-! ## An access of n bytes -/

/-- The sizes of the aligned accesses. -/
abbrev AccessSize (n : Nat) : Prop := n = 1 ∨ n = 2 ∨ n = 4 ∨ n = 8

theorem laneShift_eq (be : Bool) (va : DWord) (n : Nat) :
    laneShift be va n = if be then 8 - n - va.toNat % 8 else va.toNat % 8 := by
  simp [laneShift, BitVec.extractLsb'_toNat]

/-- An aligned access stays in its doubleword. -/
theorem offset_add_size_le {n a : Nat} (hn : AccessSize n) (ha : a % n = 0) : a % 8 + n ≤ 8 := by
  rcases hn with rfl | rfl | rfl | rfl <;> omega

theorem laneShift_add_le {n : Nat} {va : DWord} (hn : AccessSize n) (ha : va.toNat % n = 0) (be : Bool) : laneShift be va n + n ≤ 8 := by
  have := offset_add_size_le hn ha
  rw [laneShift_eq]
  split <;> omega

theorem toNat_doubleBase (pa : PAddr) : (doubleBase pa).toNat = pa.toNat / 8 * 8 := by
  have := pa.isLt
  simp only [doubleBase, BitVec.toNat_shiftLeft, BitVec.toNat_ushiftRight, Nat.shiftRight_eq_div_pow, Nat.shiftLeft_eq]
  omega

/-- Which lanes an access selects, by addresses (R230): those of the bytes at va and the n - 1 after it. -/
theorem getLsbD_lanesFrom_laneShift {n : Nat} {va : DWord} (hn : AccessSize n) (ha : va.toNat % n = 0) (be : Bool) {i : Nat} (hi : i < 8) :
    (lanesFrom (laneShift be va n) n).getLsbD (laneFor be i) = decide (va.toNat % 8 ≤ i ∧ i < va.toNat % 8 + n) := by
  have := offset_add_size_le hn ha
  have lane : laneFor be i < 8 := by unfold laneFor; split <;> omega
  rw [getLsbD_lanesFrom _ _ lane, laneShift_eq, decide_eq_decide, laneFor]
  split <;> omega

/-- What a load delivers of a doubleword of memory: the bytes at its address. -/
theorem lowBytes_readDouble {n : Nat} {va : DWord} (hn : AccessSize n) (ha : va.toNat % n = 0) (be : Bool) (m : List Host.Cell) (base : Nat) :
    (lowBytes n (Memory.readDouble be m base >>> (8 * laneShift be va n))).toNat = bytesAt be m (base + va.toNat % 8) n := by
  have off := offset_add_size_le hn ha
  have shift := laneShift_add_le hn ha be
  apply Nat.eq_of_testBit_eq
  intro i
  rw [BitVec.testBit_toNat, getLsbD_lowBytes, testBit_bytesAt, BitVec.getLsbD_ushiftRight]
  by_cases hi : i < 8 * n
  · have address : base + laneAddress be ((8 * laneShift be va n + i) / 8) = base + va.toNat % 8 + if be then n - 1 - i / 8 else i / 8 := by
      rw [laneShift_eq, laneAddress]
      split <;> omega
    rw [Memory.getLsbD_readDouble _ _ _ (by omega), address, show (8 * laneShift be va n + i) % 8 = i % 8 by omega]
  · simp [hi]

/-- Byte i, in address order, of a number of n bytes. -/
theorem ofNat_byteOf {n i : Nat} (be : Bool) (v : DWord) (hi : i < n) :
    BitVec.ofNat 8 (byteOf be (v.toNat % 256 ^ n) n i) = laneOf v (if be then n - 1 - i else i) := by
  apply BitVec.eq_of_getLsbD_eq
  intro j hj
  generalize hk : (if be then n - 1 - i else i) = k
  have hkn : k < n := by split at hk <;> omega
  rw [byteOf, hk, laneOf, BitVec.getLsbD_extractLsb', BitVec.getLsbD_ofNat, show (256 : Nat) = 2 ^ 8 by rfl, ← Nat.pow_mul, ← Nat.pow_mul,
    Nat.testBit_mod_two_pow, Nat.testBit_div_two_pow, Nat.testBit_mod_two_pow, BitVec.testBit_toNat]
  simp [hj, show j + 8 * k < 8 * n by omega, Nat.add_comm]

theorem laneOf_shiftLeft (v : DWord) {k j : Nat} (hj : k ≤ j) (hj' : j < 8) : laneOf (v <<< (8 * k)) j = laneOf v (j - k) := by
  apply BitVec.eq_of_getLsbD_eq
  intro i hi
  rw [laneOf, laneOf, BitVec.getLsbD_extractLsb', BitVec.getLsbD_extractLsb', BitVec.getLsbD_shiftLeft,
    show 8 * j + i - 8 * k = 8 * (j - k) + i by omega]
  simp [hi, show 8 * j + i < 64 by omega, show ¬ 8 * j + i < 8 * k by omega]

/-- What a store does to memory, byte by byte. -/
theorem Memory.read_store {m : List Host.Cell} (h : Memory.wf m = true) {n : Nat} {va : DWord} (hn : AccessSize n) (ha : va.toNat % n = 0)
    (be : Bool) (v : DWord) {base : Nat} (x : Nat) :
    Memory.read (Memory.writeDouble be m base (lanesFrom (laneShift be va n) n) (v <<< (8 * laneShift be va n))) x =
      if base + va.toNat % 8 ≤ x ∧ x < base + va.toNat % 8 + n then
        BitVec.ofNat 8 (byteOf be (v.toNat % 256 ^ n) n (x - (base + va.toNat % 8)))
      else Memory.read m x := by
  have off := offset_add_size_le hn ha
  rw [Memory.read_writeDouble h]
  by_cases hx : base ≤ x ∧ x < base + 8
  · have lanes := getLsbD_lanesFrom_laneShift hn ha be (i := x - base) (by omega)
    rw [lanes]
    by_cases hin : va.toNat % 8 ≤ x - base ∧ x - base < va.toNat % 8 + n
    · have lane : laneShift be va n ≤ laneFor be (x - base) ∧ laneFor be (x - base) < 8 ∧ laneFor be (x - base) - laneShift be va n =
          if be then n - 1 - (x - (base + va.toNat % 8)) else x - (base + va.toNat % 8) := by
        rw [laneShift_eq, laneFor]
        split <;> omega
      rw [if_pos ⟨hx.1, hx.2, by simp [hin]⟩, if_pos (by omega), laneOf_shiftLeft _ lane.1 lane.2.1, lane.2.2,
        ofNat_byteOf _ _ (by omega)]
    · rw [if_neg (by simp [hin]), if_neg (by omega)]
  · rw [if_neg (by omega), if_neg (by omega)]

/-- The byte address of a request: the lowest of its lanes (R377, R378) is the address of the access. -/
theorem lowestLane_laneShift {n : Nat} {va : DWord} {pa : PAddr} (hn : AccessSize n) (ha : va.toNat % n = 0)
    (hp : pa.toNat % 8 = va.toNat % 8) (be : Bool) : lowestLane be (doubleBase pa) (lanesFrom (laneShift be va n) n) = pa := by
  have find : ∀ be : Bool, ∀ n ∈ [1, 2, 4, 8], ∀ o < 8, o + n ≤ 8 → (List.range 8).find? (fun j =>
      (lanesFrom (if be then 8 - n - o else o) n).getLsbD (laneAddress be j)) = some o := by decide
  have size : n ∈ [1, 2, 4, 8] := by simpa [AccessSize] using hn
  rw [lowestLane, laneShift_eq, find be n size _ (Nat.mod_lt _ (by omega)) (offset_add_size_le hn ha), Option.getD_some, ← hp]
  apply BitVec.eq_of_toNat_eq
  have := pa.isLt
  rw [BitVec.toNat_add, toNat_doubleBase, BitVec.toNat_ofNat]
  omega

theorem laneCount_lanesFrom {n k : Nat} (hn : AccessSize n) (hk : k + n ≤ 8) : laneCount (lanesFrom k n) = n := by
  have count : ∀ n ∈ [1, 2, 4, 8], ∀ k < 8, k + n ≤ 8 → laneCount (lanesFrom k n) = n := by decide
  exact count n (by simpa [AccessSize] using hn) k (by rcases hn with rfl | rfl | rfl | rfl <;> omega) hk

end Sys2Proof.Machine

end

section
/-! PROOFS. Uncached accesses with an empty uncached buffer and a ready external agent: one request each (R345, R350, R359, R440). The
aligned integer loads and stores in kseg1 (R187, R230, R806 to R816). -/

namespace Sys2Proof.Machine

/-! ## Writing what is there already -/

theorem State.setReady_self {s : State} {l : List Buffered} (h : s.bus.ready = l) : s.setReady l = s := by subst h; rfl

theorem State.setFifo_self {s : State} {l : List UncachedStore} (h : s.bus.fifo = l) : s.setFifo l = s := by subst h; rfl

theorem State.setReplies_self {s : State} {l : List Reply} (h : s.bus.replies = l) : s.setReplies l = s := by subst h; rfl

/-! ## The empty uncached buffer -/

theorem State.sendReady_of_empty {s : State} (h : s.bus.ready = []) : s.sendReady = s := by
  rw [State.sendReady, h]
  exact State.setReady_self h

theorem State.flushBuffer_of_empty {s : State} (hr : s.bus.ready = []) (hf : s.bus.fifo = []) : s.flushBuffer = s := by
  rw [State.flushBuffer, State.sendReady_of_empty hr, hf, State.setFifo_self hf]
  rfl

theorem State.terminate_of_idle {s : State} (h : s.bus.gather = .idle) : s.terminate = s := by
  rw [State.terminate, h]

/-! ## One request -/

/-- An agent that says nothing answers a read with what memory holds. -/
theorem State.readSingle_unanswered {s : State} (hr : s.bus.replies = []) (he : s.bus.errAddrs = []) (pa : PAddr) (l : BitVec 8)
    (attr : BitVec 2) : s.readSingle pa l attr = .ok (Memory.readDouble s.memEnd s.mem (doubleBase pa).toNat)
      (s.record (.read (lowestLane s.memEnd (doubleBase pa) l) (laneCount l) attr)) := by
  have replies (e : BusEvent) : (s.record e).bus.replies = [] := hr
  have noErr (e : BusEvent) : (s.record e).errBlock 3 pa = false := by
    rw [State.errBlock, State.record_bus, he]
    rfl
  rw [State.readSingle, State.readAnswer, replies, noErr, State.answerSingle, State.setReplies_self (replies _)]
  rfl

/-- A write request that is ready goes out at once. -/
theorem State.issue_single {s : State} (hw : s.bus.wrRdy = true) (hr : s.bus.ready = []) (a : Bool) (c attr : BitVec 2) (g : Gathered) :
    s.issue ⟨a, false, c, attr, [g]⟩ = (s.setMem (Memory.writeDouble s.memEnd s.mem g.base.toNat g.lanes g.data)).record
      (.single (g.pa s.memEnd) c attr g) := by
  rw [State.issue, hr, if_pos hw]
  exact State.setReady_self (s := (s.setMem (Memory.writeDouble s.memEnd s.mem g.base.toNat g.lanes g.data)).record
    (.single (g.pa s.memEnd) c attr g)) hr

/-- An uncached store that is not accelerated, past an empty buffer: one write request, of cause 1 (R359, R371). -/
theorem State.accept_uncached {s : State} (hw : s.bus.wrRdy = true) (hg : s.bus.gather = .idle) (hr : s.bus.ready = [])
    (hf : s.bus.fifo = []) (pa : PAddr) (attr : BitVec 2) (n : Option Nat) (g : Gathered) :
    s.accept ⟨false, pa, attr, n, g⟩ = some ((s.setMem (Memory.writeDouble s.memEnd s.mem g.base.toNat g.lanes g.data)).record
      (.single (g.pa s.memEnd) 1#2 attr g)) := by
  rw [State.accept, if_pos hw, State.flushBuffer_of_empty hr hf, State.admitOne, State.terminate_of_idle hg]
  exact congrArg some (State.issue_single hw hr _ _ _ _)

/-! ## References -/

theorem State.dataAddress_of_kernel {s : State} (h : s.mode = .kernel) (va : DWord) : s.dataAddress va = va := by
  simp [State.dataAddress, h]

theorem State.bigEndianCpu_of_kernel {s : State} (h : s.mode = .kernel) : s.bigEndianCpu = s.memEnd := by
  have : s.reverseEndian = false := by
    rw [State.reverseEndian, h]
    exact Bool.and_false _
  rw [State.bigEndianCpu, this, Bool.bne_false]

/-- Bits 58:57 of an address in kseg1 are ones. -/
theorem kseg1_attr {va : DWord} (low : 0xFFFFFFFFA0000000 ≤ va.toNat) : va.extractLsb' 57 2 = 3#2 := by
  have := va.isLt
  apply BitVec.eq_of_toNat_eq
  simp only [BitVec.extractLsb'_toNat, Nat.shiftRight_eq_div_pow, BitVec.toNat_ofNat]
  omega

theorem State.translate_kseg1 {s : State} (h : s.mode = .kernel) {va : DWord} (low : 0xFFFFFFFFA0000000 ≤ va.toNat)
    (high : va.toNat < 0xFFFFFFFFC0000000) (kind : Access) :
    s.translate va kind = .ok ⟨BitVec.ofNat 40 (kseg1Pa va), 2#3, s.kseg1Attr⟩ := by
  have := State.translate_unmapped (State.segment_kseg1 h low high) kind
  rwa [kseg1_attr low] at this

theorem toNat_kseg1Pa {va : DWord} (high : va.toNat < 0xFFFFFFFFC0000000) :
    (BitVec.ofNat 40 (kseg1Pa va)).toNat = kseg1Pa va := by
  have : kseg1Pa va < 2 ^ 40 := by
    unfold kseg1Pa
    omega
  rw [BitVec.toNat_ofNat, Nat.mod_eq_of_lt this]

theorem kseg1Pa_mod {va : DWord} (low : 0xFFFFFFFFA0000000 ≤ va.toNat) : kseg1Pa va % 8 = va.toNat % 8 := by
  unfold kseg1Pa
  omega

/-- The doubleword that an address of kseg1 lies in, and the place in it. -/
theorem doubleBase_kseg1 {va : DWord} (low : 0xFFFFFFFFA0000000 ≤ va.toNat) (high : va.toNat < 0xFFFFFFFFC0000000) :
    (doubleBase (BitVec.ofNat 40 (kseg1Pa va))).toNat + va.toNat % 8 = kseg1Pa va := by
  rw [toNat_doubleBase, toNat_kseg1Pa high, ← kseg1Pa_mod low]
  omega

theorem State.reference_of_unwatched {s : State} {va : DWord} {store : Bool} {p : Phys} {made : Bool}
    (ht : s.translate va (if store then .store else .load) = .ok p) (hw : s.watchMatch p.pa store = false)
    (ha : algReserved p.alg = false) : s.reference va store made = .ok p s := by
  simp [State.reference, ht, hw, ha]

theorem State.Plain.reference {s : State} {va : DWord} {n : Nat} {store : Bool} (h : s.Plain va n store) (made : Bool := true) :
    s.reference va store made = .ok ⟨BitVec.ofNat 40 (kseg1Pa va), 2#3, s.kseg1Attr⟩ s :=
  State.reference_of_unwatched (State.translate_kseg1 h.kernel h.low h.high _) h.watch rfl

/-- The lanes of an access in kseg1, as the request names them. -/
theorem lowestLane_kseg1 {va : DWord} {n : Nat} (hn : AccessSize n) (ha : va.toNat % n = 0) (low : 0xFFFFFFFFA0000000 ≤ va.toNat)
    (high : va.toNat < 0xFFFFFFFFC0000000) (be : Bool) :
    lowestLane be (doubleBase (BitVec.ofNat 40 (kseg1Pa va))) (lanesFrom (laneShift be va n) n) = BitVec.ofNat 40 (kseg1Pa va) :=
  lowestLane_laneShift hn ha (by rw [toNat_kseg1Pa high, kseg1Pa_mod low]) be

/-! ## Loads -/

/-- A load in kseg1 of lanes of a doubleword. -/
theorem State.Plain.loadAt {s : State} {va : DWord} {n : Nat} (h : s.Plain va n false) (l : BitVec 8) :
    s.loadAt va l = .ok (⟨BitVec.ofNat 40 (kseg1Pa va), 2#3, s.kseg1Attr⟩,
        Memory.readDouble s.memEnd s.mem (doubleBase (BitVec.ofNat 40 (kseg1Pa va))).toNat)
      (s.breakLink.record (.read (lowestLane s.memEnd (doubleBase (BitVec.ofNat 40 (kseg1Pa va))) l) (laneCount l) s.kseg1Attr)) := by
  have empty : s.breakLink.flushBuffer.terminate = s.breakLink := by
    rw [State.flushBuffer_of_empty (s := s.breakLink) h.ready h.fifo, State.terminate_of_idle (s := s.breakLink) h.gather]
  have accepts : (s.breakLink.bus.wrRdy || s.breakLink.bufferEmpty) = true := by
    rw [State.breakLink_bus, h.wrRdy]
    rfl
  rw [State.loadAt, h.reference]
  show ((s.breakLink.loadPhys va _ l).acc excDbe).bind _ = _
  rw [State.loadPhys, if_neg (by decide : ¬ algCached 2#3 = true), if_pos accepts, empty,
    State.readSingle_unanswered (s := s.breakLink) h.replies h.noError]
  rfl

/-- A load in kseg1: the bytes at its address, by one read request. -/
theorem State.Plain.readPhys {s : State} {va : DWord} {n : Nat} (h : s.Plain va n false) (hn : AccessSize n) :
    s.readPhys va n = .ok (⟨BitVec.ofNat 40 (kseg1Pa va), 2#3, s.kseg1Attr⟩,
      BitVec.ofNat 64 (bytesAt s.memEnd s.mem (kseg1Pa va) n)) (s.breakLink.afterRead (kseg1Pa va) n) := by
  have address := State.dataAddress_of_kernel h.kernel va
  have aligned : (s.dataAddress va).toNat % n = 0 := by rw [address, h.aligned]
  have value := lowBytes_readDouble hn h.aligned s.memEnd s.mem (doubleBase (BitVec.ofNat 40 (kseg1Pa va))).toNat
  rw [doubleBase_kseg1 h.low h.high] at value
  rw [State.readPhys, State.aligned_of_aligned aligned, address, State.bigEndianCpu_of_kernel h.kernel]
  dsimp only
  rw [h.loadAt, lowestLane_kseg1 hn h.aligned h.low h.high, laneCount_lanesFrom hn (laneShift_add_le hn h.aligned _), ← value, BitVec.ofNat_toNat,
    BitVec.setWidth_eq]
  rfl

theorem State.Plain.read {s : State} {va : DWord} {n : Nat} (h : s.Plain va n false) (hn : AccessSize n) :
    s.read va n = .ok (BitVec.ofNat 64 (bytesAt s.memEnd s.mem (kseg1Pa va) n)) (s.breakLink.afterRead (kseg1Pa va) n) := by
  rw [State.read, h.readPhys hn]
  rfl

/-- Sign extension of the low bits of a register, as a number. -/
theorem signExtend_low {k : Nat} {x : Nat} (hk : k ≤ 64) (hx : x < 2 ^ k) :
    ((BitVec.ofNat 64 x).extractLsb' 0 k).signExtend 64 = reg64 (Int.bmod x (2 ^ k)) := by
  have low : ((BitVec.ofNat 64 x).extractLsb' 0 k).toNat = x := by
    have : x < 2 ^ 64 := Nat.lt_of_lt_of_le hx (Nat.pow_le_pow_right (by omega) hk)
    rw [BitVec.extractLsb'_toNat, Nat.shiftRight_zero, BitVec.toNat_ofNat, Nat.mod_eq_of_lt this, Nat.mod_eq_of_lt hx]
  rw [BitVec.signExtend, BitVec.toInt_eq_toNat_bmod, low]
  rfl

theorem reg64_natCast (x : Nat) : reg64 x = BitVec.ofNat 64 x := BitVec.ofInt_natCast 64 x

/-- A load into a general register, once the access has succeeded. -/
theorem State.loadGpr_of_read {s t : State} {va v : DWord} {n : Nat} (h : s.read va n = .ok v t) (rt : BitVec 5) (ext : DWord → DWord) :
    s.loadGpr va n rt ext = .next (t.setGpr rt (ext v)).advance := by
  rw [State.loadGpr, h]
  rfl

theorem State.mips3_of_kernel {s : State} (h : s.mode = .kernel) : s.mips3 = true := by
  rw [State.mips3, h]

/-- Settles O30: what the load reads by `State.Plain.read`, extended. -/
theorem loadsDeliverTheBytesOfMemoryExtended : Obligations.LoadsDeliverTheBytesOfMemoryExtended := by
  intro s base rt off va n loaded
  have lt (k : Nat) : n k < 2 ^ (8 * k) := bytesAt_lt _ _ _ _
  refine ⟨fun h => ?byte, fun h => ?half, fun h => ?word, fun h => ?double⟩
  case byte =>
    have read := h.read (.inl rfl)
    refine ⟨(State.loadGpr_of_read read rt _).trans ?_, (State.loadGpr_of_read read rt _).trans ?_⟩
    · rw [sextByte, signExtend_low (by omega) (lt 1)]
    · rw [← reg64_natCast]
      rfl
  case half =>
    have read := h.read (.inr (.inl rfl))
    refine ⟨(State.loadGpr_of_read read rt _).trans ?_, (State.loadGpr_of_read read rt _).trans ?_⟩
    · rw [sextHalf, signExtend_low (by omega) (lt 2)]
    · rw [← reg64_natCast]
      rfl
  case word =>
    have read := h.read (.inr (.inr (.inl rfl)))
    refine ⟨(State.loadGpr_of_read read rt _).trans ?_,
      (State.requireMips3_of_enabled (State.mips3_of_kernel h.kernel) _).trans ((State.loadGpr_of_read read rt _).trans ?_)⟩
    · rw [sextWord, sext32, low32, signExtend_low (by omega) (lt 4)]
      rfl
    · rw [← reg64_natCast]
      rfl
  case double =>
    have read := h.read (.inr (.inr (.inr rfl)))
    refine (State.requireMips3_of_enabled (State.mips3_of_kernel h.kernel) _).trans ((State.loadGpr_of_read read rt _).trans ?_)
    rw [← reg64_natCast]
    rfl

/-! ## Stores -/

/-- A store in kseg1 of lanes of a doubleword. -/
theorem State.Plain.storeAt {s : State} {va : DWord} {n : Nat} (h : s.Plain va n true) (l : BitVec 8) (size : Option Nat) (d : DWord) :
    s.storeAt va l size d = .ok () ((s.breakLink.setMem
        (Memory.writeDouble s.memEnd s.mem (doubleBase (BitVec.ofNat 40 (kseg1Pa va))).toNat l d)).record
      (.single (lowestLane s.memEnd (doubleBase (BitVec.ofNat 40 (kseg1Pa va))) l) 1#2 s.kseg1Attr
        ⟨doubleBase (BitVec.ofNat 40 (kseg1Pa va)), l, d⟩)) := by
  rw [State.storeAt, h.reference]
  show (s.breakLink.storePhys va _ l size d).acc excDbe = _
  rw [State.storePhys, if_neg (by decide : ¬ algCached 2#3 = true), show (2#3 == algAccelerated) = false by decide,
    State.accept_uncached (s := s.breakLink) h.wrRdy h.gather h.ready h.fifo]
  rfl

/-- A store in kseg1: its bytes change, by one write request. -/
theorem State.Plain.storeValue {s : State} {va : DWord} {n : Nat} (h : s.Plain va n true) (hn : AccessSize n) (hm : Memory.wf s.mem = true)
    (v : DWord) : ∃ t, s.storeValue va n v = .next t ∧ t = { s.breakLink with mem := t.mem, bus := t.bus }.advance ∧
      s.WroteOnce t (kseg1Pa va) n ∧ ∀ a, Memory.read t.mem a =
        if kseg1Pa va ≤ a ∧ a < kseg1Pa va + n then BitVec.ofNat 8 (byteOf s.memEnd (v.toNat % 256 ^ n) n (a - kseg1Pa va))
        else Memory.read s.mem a := by
  have address := State.dataAddress_of_kernel h.kernel va
  have aligned : (s.dataAddress va).toNat % n = 0 := by rw [address, h.aligned]
  have write : s.write va n v = .ok () ((s.breakLink.setMem (Memory.writeDouble s.memEnd s.mem
      (doubleBase (BitVec.ofNat 40 (kseg1Pa va))).toNat (lanesFrom (laneShift s.memEnd va n) n) (v <<< (8 * laneShift s.memEnd va n)))).record
      (.single (BitVec.ofNat 40 (kseg1Pa va)) 1#2 s.kseg1Attr ⟨doubleBase (BitVec.ofNat 40 (kseg1Pa va)),
        lanesFrom (laneShift s.memEnd va n) n, v <<< (8 * laneShift s.memEnd va n)⟩)) := by
    rw [State.write, State.aligned_of_aligned aligned, address, State.bigEndianCpu_of_kernel h.kernel, h.storeAt,
      lowestLane_kseg1 hn h.aligned h.low h.high]
  rw [State.storeValue, write]
  refine ⟨_, rfl, ?frame, ⟨⟨doubleBase (BitVec.ofNat 40 (kseg1Pa va)), lanesFrom (laneShift s.memEnd va n) n,
    v <<< (8 * laneShift s.memEnd va n)⟩, ?request, laneCount_lanesFrom hn (laneShift_add_le hn h.aligned _)⟩, fun a => ?bytes⟩
  case frame =>
    simp only [State.advance_mem, State.advance_bus]
    rfl
  case request =>
    rw [State.advance_bus]
    rfl
  case bytes =>
    have read := Memory.read_store hm hn h.aligned s.memEnd v (base := (doubleBase (BitVec.ofNat 40 (kseg1Pa va))).toNat) a
    rw [doubleBase_kseg1 h.low h.high] at read
    rw [State.advance_mem]
    exact read

/-- Settles O31, by `State.Plain.storeValue` for each size. -/
theorem storesChangeExactlyTheirBytes : Obligations.StoresChangeExactlyTheirBytes := by
  intro s base rt off hm va pa stored
  refine ⟨fun h => h.storeValue (.inl rfl) hm _, fun h => h.storeValue (.inr (.inl rfl)) hm _,
    fun h => h.storeValue (.inr (.inr (.inl rfl))) hm _, fun h => ?double⟩
  case double =>
    obtain ⟨t, run, rest⟩ := h.storeValue (.inr (.inr (.inr rfl))) hm (s.gpr rt)
    exact ⟨t, (State.requireMips3_of_enabled (State.mips3_of_kernel h.kernel) _).trans run, rest⟩

end Sys2Proof.Machine

end

section
/-! PROOFS. What the operations of the secondary cache can do to the link and the data tags: the link stays, and no data tag comes to hold a
block that it did not hold (R266, R276, R278, R290). -/

namespace Sys2Proof.Machine

/-! ## What a result leaves -/

/-- What succeeds meets Q, and the state that any other outcome leaves meets P. -/
def Res.Meets {α : Type} (P : State → Prop) (Q : α → State → Prop) : Res α → Prop
  | .ok a t => Q a t
  | .busError t => P t
  | .cacheError t => P t
  | .wait t => P t
  | .stop _ => True

section
variable {α β : Type} {P P' : State → Prop} {Q Q' : α → State → Prop} {x : Res α}

theorem Res.Meets.imp (h : x.Meets P Q) (hp : ∀ t, P t → P' t) (hq : ∀ a t, Q a t → Q' a t) : x.Meets P' Q' := by
  cases x with
  | ok a t => exact hq a t h
  | busError t => exact hp t h
  | cacheError t => exact hp t h
  | wait t => exact hp t h
  | stop => exact trivial

theorem Res.Meets.bind {R : β → State → Prop} {f : α → State → Res β} (h : x.Meets P Q) (k : ∀ a t, Q a t → (f a t).Meets P R) :
    (x.bind f).Meets P R := by
  cases x with
  | ok a t => exact k a t h
  | busError t => exact h
  | cacheError t => exact h
  | wait t => exact h
  | stop => exact trivial

theorem Res.Meets.of_ok (h : x.Meets P Q) {a : α} {t : State} (e : x = .ok a t) : Q a t := by
  subst e
  exact h

/-- Whatever came of it, if success leaves such a state too. -/
theorem Res.Meets.stateOr (h : x.Meets P fun _ => P) {s : State} (hs : P s) : P (x.stateOr s) := by
  cases x with
  | stop => exact hs
  | _ => exact h

theorem State.goOn_meets {s : State} {a : α} (hp : P s) (hq : Q a s) : (s.goOn a).Meets P Q := by
  unfold State.goOn
  split
  · exact hp
  · exact hq
end

/-! ## Reading the data tags after a write -/

theorem State.canonical_dTag {s : State} (h : s.canonical = true) : Sparse.wf DTag.default s.caches.dTag = true := by
  obtain ⟨_, _, _, _, _, h, _⟩ := (State.canonical_iff s).1 h
  exact h

theorem State.dTagAt_setDTag {s : State} (h : s.canonical = true) (k j : Nat) (t : DTag) :
    (s.setDTag k t).dTagAt j = if j = k then t else s.dTagAt j := Sparse.get_set (State.canonical_dTag h) k j t

theorem State.dTagAt_congr {s t : State} (h : t.caches.dTag = s.caches.dTag) (k : Nat) : t.dTagAt k = s.dTagAt k := by
  rw [State.dTagAt, h]
  rfl

/-! ## Moves -/

/-- From s to t only storage moved, the link stands, and no data tag holds a block that it did not hold before. -/
structure State.Moves (s t : State) : Prop where
  keeps : s.Keeps t
  link : t.link = s.link
  holds : s.canonical = true → ∀ k pa, (t.dTagAt k).holds pa = true → (s.dTagAt k).holds pa = true

theorem State.Moves.of_dTag {s t : State} (h : s.Keeps t) (hl : t.link = s.link) (hd : t.caches.dTag = s.caches.dTag) : s.Moves t :=
  ⟨h, hl, fun _ k pa => by rw [State.dTagAt_congr hd]; exact id⟩

theorem State.Moves.refl (s : State) : s.Moves s := .of_dTag (.refl s) rfl rfl

theorem State.Moves.trans {s t u : State} (h : s.Moves t) (k : t.Moves u) : s.Moves u :=
  ⟨h.keeps.trans k.keeps, k.link.trans h.link, fun hc j pa hj => h.holds hc j pa (k.holds (h.keeps.wf hc) j pa hj)⟩

theorem State.Moves.ite {s t u : State} {c : Prop} [Decidable c] (h : s.Moves t) (k : s.Moves u) : s.Moves (if c then t else u) := by
  split <;> assumption

/-- One data tag is rewritten, to hold no block that it did not hold. -/
theorem State.setDTag_moves {s : State} {k : Nat} {t : DTag} (h : ∀ pa, t.holds pa = true → (s.dTagAt k).holds pa = true) :
    s.Moves (s.setDTag k t) := by
  refine ⟨s.setDTag_keeps k t, rfl, fun hc j pa hj => ?_⟩
  rw [State.dTagAt_setDTag hc] at hj
  split at hj
  · next e => subst e; exact h pa hj
  · exact hj

/-! ## Errors, data words, the secondary arrays -/

theorem State.setSTag_moves (s : State) (k : Nat) (t : STag) : s.Moves (s.setSTag k t) := .of_dTag (s.setSTag_keeps k t) rfl rfl

theorem State.setSQuad_moves (s : State) (k q : Nat) (d : SQuad) : s.Moves (s.setSQuad k q d) :=
  .of_dTag (s.setSQuad_keeps k q d) rfl rfl

theorem State.setMru_moves (s : State) (i : Nat) (b : Bool) : s.Moves (s.setMru i b) := .of_dTag (s.setMru_keeps i b) rfl rfl

theorem State.pulseCor_moves (s : State) (b : Bool) : s.Moves (s.pulseCor b) := .of_dTag (s.pulseCor_keeps b) rfl rfl

theorem State.pulseUnc_moves (s : State) (b : Bool) : s.Moves (s.pulseUnc b) := .of_dTag (s.pulseUnc_keeps b) rfl rfl

theorem State.setReplies_moves (s : State) (l : List Reply) : s.Moves (s.setReplies l) := .of_dTag (s.setReplies_keeps l) rfl rfl

theorem State.setHung_moves (s : State) : s.Moves s.setHung := .of_dTag s.setHung_keeps rfl rfl

theorem State.record_moves (s : State) (w : BusEvent) : s.Moves (s.record w) := .of_dTag (s.record_keeps w) rfl rfl

theorem State.postI_moves (s : State) (w : Word) : s.Moves (s.postI w) :=
  .of_dTag (s.postI_keeps w) (by unfold State.postI; split <;> rfl) (by unfold State.postI; split <;> rfl)

theorem State.postD_moves (s : State) (w : Word) : s.Moves (s.postD w) :=
  .of_dTag (s.postD_keeps w) (by unfold State.postD; split <;> rfl) (by unfold State.postD; split <;> rfl)

theorem State.postS_moves (s : State) (w : Word) : s.Moves (s.postS w) :=
  .of_dTag (s.postS_keeps w) (by unfold State.postS; split <;> rfl) (by unfold State.postS; split <;> rfl)

theorem State.postSi_moves (s : State) (w : Word) : s.Moves (s.postSi w) :=
  .of_dTag (s.postSi_keeps w) (by unfold State.postSi; split <;> rfl) (by unfold State.postSi; split <;> rfl)

theorem State.reportSData_moves {α : Type} (s : State) (pa : PAddr) (w : Bool) (r : Checked α) : s.Moves (s.reportSData pa w r) :=
  (s.pulseCor_moves r.fixed).trans (.ite (State.postS_moves _ _) (.refl _))

theorem State.checkDTags_moves (s : State) (i : Nat) (x : BitVec 11) : s.Moves (s.checkDTags i x) := by
  unfold State.checkDTags
  exact .ite ((s.pulseUnc_moves true).trans (State.postD_moves _ _)) (.refl s)

theorem State.checkITags_moves (s : State) (i : Nat) : s.Moves (s.checkITags i) := by
  unfold State.checkITags
  exact .ite ((s.pulseUnc_moves true).trans (State.postI_moves _ _)) (.refl s)

/-! ## Write back and purge -/

theorem DTag.holds_iff (t : DTag) (pa : PAddr) : t.holds pa = true ↔ (t.state ≠ .invalid ∨ t.mod = 0b100#3) ∧ t.tag = pageOf pa := by
  simp [DTag.holds]

theorem State.dInvalidate_moves (s : State) (k : Nat) : s.Moves (s.dInvalidate k) := State.setDTag_moves fun pa h => by
  simp [DTag.holds_iff] at h

theorem State.dWriteBack_moves (s : State) (i : Nat) (w : Bool) : s.Moves (s.dWriteBack i w) := by
  unfold State.dWriteBack
  exact .ite (((State.Moves.ite (.refl s) (s.postD_moves _)).trans (State.setSQuad_moves _ _ _ _)).trans
    (State.setSQuad_moves _ _ _ _)) (.refl s)

theorem State.dPurge_moves (s : State) (m : Purge) (i : Nat) (pa : PAddr) (w : Bool) : s.Moves (s.dPurge m i pa w) :=
  .ite ((State.Moves.ite (s.dWriteBack_moves i w) (.refl s)).trans (State.dInvalidate_moves _ _)) (.refl s)

theorem State.iPurge_moves (s : State) (i : Nat) (pa : PAddr) (w : Bool) : s.Moves (s.iPurge i pa w) :=
  .ite (.of_dTag (s.iInvalidate_keeps _) rfl rfl) (.refl s)

theorem State.dPurgeSet_moves (s : State) (m : Purge) (i : Nat) (pa : PAddr) : s.Moves (s.dPurgeSet m i pa) :=
  ((s.checkDTags_moves _ _).trans (State.dPurge_moves _ _ _ _ _)).trans (State.dPurge_moves _ _ _ _ _)

theorem State.iPurgeSet_moves (s : State) (i : Nat) (pa : PAddr) : s.Moves (s.iPurgeSet i pa) :=
  ((s.checkITags_moves _).trans (State.iPurge_moves _ _ _ _)).trans (State.iPurge_moves _ _ _ _)

theorem State.purgeFrom_moves (n : Nat) (s : State) (m : Purge) (p : BitVec 2) (pa : PAddr) : s.Moves (s.purgeFrom m p pa n) := by
  induction n generalizing s pa with
  | zero => exact .refl s
  | succ n ih => exact ((s.dPurgeSet_moves _ _ _).trans (.ite (.refl _) (State.iPurgeSet_moves _ _ _))).trans (ih _ _)

theorem State.purge_moves (s : State) (m : Purge) (p : BitVec 2) (pa : PAddr) : s.Moves (s.purge m p pa) :=
  State.purgeFrom_moves _ _ _ _ _

theorem State.writeQuads_moves (l : List QWord) (s : State) (a : Nat) : s.Moves (s.writeQuads a l) := by
  induction l generalizing s a with
  | nil => exact .refl s
  | cons q l ih =>
    exact .trans (.of_dTag (s.setMem_keeps _ fun h => Memory.wf_writeDouble (Memory.wf_writeDouble h _ _ _ _) _ _ _ _) rfl rfl) (ih _ _)

theorem State.issueOutgoing_moves (l : List Outgoing) (s : State) : s.Moves (s.issueOutgoing l) := by
  induction l generalizing s with
  | nil => exact .refl s
  | cons o l ih => exact ((State.writeQuads_moves _ s _).trans (State.record_moves _ _)).trans (ih _)

theorem State.setOutgoing_moves (s : State) (l : List Outgoing) : s.Moves (s.setOutgoing l) := .of_dTag (s.setOutgoing_keeps l) rfl rfl

theorem State.sendOutgoing_moves (s : State) : s.Moves s.sendOutgoing :=
  (State.issueOutgoing_moves _ s).trans (State.setOutgoing_moves _ _)

theorem State.castOut_moves (s : State) (k : OutgoingKind) (f : List Bool) (pa : PAddr) (w : Bool) : s.Moves (s.castOut k f pa w) :=
  (s.reportSData_moves _ _ _).trans ((State.setOutgoing_moves _ _).trans (.ite (State.sendOutgoing_moves _) (.refl _)))

theorem State.sEvict_moves (s : State) (m : Purge) (pa : PAddr) (w : Bool) : s.Moves (s.sEvict m pa w) := by
  unfold State.sEvict
  exact .ite (.refl s) (((s.purge_moves _ _ _).trans (.ite (State.castOut_moves _ _ _ _ _) (.refl _))).trans (State.setSTag_moves _ _ _))

theorem State.sLoadQuads_moves (n : Nat) (s : State) (k q a : Nat) (b : BitVec 16) : s.Moves (s.sLoadQuads k q a b n) := by
  induction n generalizing s q a with
  | zero => exact .refl s
  | succ n ih => exact (s.setSQuad_moves _ _ _).trans (ih _ _ _)

/-! ## Taking a state -/

/-- A data tag that takes a state, with the tag parity it had. -/
def DTag.taking (t : DTag) (st : BlockState) : DTag := { dTagOf t.tag st t.mod t.scWay with tagParity := t.tagParity }

/-- What taking a state does to the tag of way w of data set i, of entry k. -/
theorem State.dTagAt_dMatch {s : State} (h : s.canonical = true) (i : Nat) (pa : PAddr) (st : BlockState) (w : Bool) (k : Nat) :
    (s.dMatch i pa st w).dTagAt k = s.dTagAt k ∨ (k = wayKey i w ∧ (s.dTagAt k).state ≠ .invalid ∧ (s.dTagAt k).tag = pageOf pa ∧
      (s.dMatch i pa st w).dTagAt k = (s.dTagAt k).taking st) := by
  unfold State.dMatch
  dsimp only
  split
  · next c =>
    simp only [Bool.and_eq_true, bne_iff_ne, beq_iff_eq] at c
    rw [State.dTagAt_setDTag h]
    split
    · next e => subst e; exact .inr ⟨rfl, c.1.1, c.1.2, rfl⟩
    · exact .inl rfl
  · exact .inl rfl

theorem State.dMatch_moves (s : State) (i : Nat) (pa : PAddr) (st : BlockState) (w : Bool) : s.Moves (s.dMatch i pa st w) := by
  refine ⟨s.dMatch_keeps i pa st w, by unfold State.dMatch; dsimp only; split <;> rfl, fun hc k a hk => ?_⟩
  rcases State.dTagAt_dMatch hc i pa st w k with e | ⟨_, valid, _, e⟩
  · rwa [e] at hk
  · rw [e, DTag.holds_iff] at hk
    exact (DTag.holds_iff _ _).2 ⟨.inl valid, hk.2⟩

theorem State.dMatchFrom_moves (n : Nat) (s : State) (p : BitVec 2) (pa : PAddr) (st : BlockState) : s.Moves (s.dMatchFrom p pa st n) := by
  induction n generalizing s pa with
  | zero => exact .refl s
  | succ n ih => exact ((s.dMatch_moves _ _ _ _).trans (State.dMatch_moves _ _ _ _ _)).trans (ih _ _)

theorem State.own_moves (s : State) (va : DWord) (pa : PAddr) (w : Bool) : s.Moves (s.own va pa w) :=
  (s.setSTag_moves _ _).trans (State.dMatchFrom_moves _ _ _ _ _)

/-! ## Answers -/

theorem State.postResponse_moves (s : State) : s.Moves s.postResponse := (s.pulseUnc_moves true).trans (State.postSi_moves _ _)

theorem State.pulseData_moves (s : State) (r : Reply) : s.Moves (s.pulseData r) := s.pulseCor_moves _

theorem State.answerBlock_moves (l : List Reply) (s : State) (r e : Bool) (d : Option DataResponse) :
    s.Moves (s.answerBlock r e d l).2 := by
  induction l generalizing s d with
  | nil => exact s.setReplies_moves _
  | cons a l ih =>
    have pulsed := s.pulseData_moves a
    have done := pulsed.trans (State.setReplies_moves _ l)
    unfold State.answerBlock
    dsimp only
    split
    · split
      · exact pulsed.trans (ih _ _)
      · exact done
    · exact pulsed.trans (ih _ _)
    · exact done
    · exact (pulsed.trans (State.postResponse_moves _)).trans (ih _ _)
    · exact pulsed.trans (ih _ _)

theorem State.askBlock_moves (s : State) (r : Bool) (pa : PAddr) : s.Moves (s.askBlock r pa).2 := State.answerBlock_moves _ s _ _ _

theorem State.answerSingle_moves (l : List Reply) (s : State) (e : Bool) (d : Option DataResponse) : s.Moves (s.answerSingle e d l).2 := by
  induction l generalizing s d with
  | nil => exact s.setReplies_moves _
  | cons a l ih =>
    have pulsed := s.pulseData_moves a
    have done := pulsed.trans (State.setReplies_moves _ l)
    unfold State.answerSingle
    dsimp only
    split
    · split
      · exact pulsed.trans (ih _ _)
      · exact done
    · exact pulsed.trans (ih _ _)
    · exact done
    · exact ((pulsed.trans (State.postResponse_moves _)).trans (State.setReplies_moves _ l)).trans (State.setHung_moves _)
    · exact pulsed.trans (ih _ _)

/-! ## The secondary cache -/

/-- Whatever came of it, the state it leaves is such a one. -/
abbrev Res.Moves {α : Type} (s : State) (x : Res α) : Prop := x.Meets s.Moves fun _ => s.Moves

/-- And a block state it answers is not Invalid. -/
abbrev Res.MovesValid {α : Type} (s : State) (state : α → BlockState) (x : Res α) : Prop :=
  x.Meets s.Moves fun a t => s.Moves t ∧ state a ≠ .invalid

theorem Res.Meets.after {α : Type} {s t : State} {x : Res α} {R : α → Prop} (h : s.Moves t)
    (k : x.Meets t.Moves fun a u => t.Moves u ∧ R a) : x.Meets s.Moves fun a u => s.Moves u ∧ R a :=
  k.imp (fun _ => h.trans) fun _ _ m => ⟨h.trans m.1, m.2⟩

theorem State.sTags_moves (s : State) (pa : PAddr) : (s.sTags pa).Moves s := by
  unfold State.sTags
  dsimp only
  split
  · have := ((s.pulseCor_moves ((s.sTagAt (s.sKey pa false)).checked.fixed || (s.sTagAt (s.sKey pa true)).checked.fixed)).trans
      (State.pulseUnc_moves _ true)).trans (State.postS_moves _ (s.sErrInfo pa 0 (wayPair (s.sTagAt (s.sKey pa true)).checked.bad
        (s.sTagAt (s.sKey pa false)).checked.bad)))
    exact State.goOn_meets this this
  · exact s.pulseCor_moves _

theorem State.filledState_ne_invalid (s : State) (e : Bool) (a : Option (BitVec 2)) : s.filledState e a ≠ .invalid := by
  unfold State.filledState
  dsimp only
  generalize BlockState.ofBits _ = st
  cases st <;> cases e <;> exact BlockState.noConfusion

theorem State.install_moves (s : State) (va : DWord) (pa : PAddr) (w : Bool) {st : BlockState} (hst : st ≠ .invalid) (b : BitVec 16) :
    (s.install va pa w st b).MovesValid s Prod.snd := by
  have h := ((State.sLoadQuads_moves s.sQuads s (s.sKey pa w) 0 (s.blockBase pa).toNat b).trans
    (State.setSTag_moves _ (s.sKey pa w) (sTagOf pa (pidxOf va) st))).trans (State.setMru_moves _ (s.mruIndex pa) w)
  unfold State.install
  dsimp only
  split
  · exact ⟨h, hst⟩
  · have posted := h.trans (State.postSi_moves _ ((((s.sLoadQuads (s.sKey pa w) 0 (s.blockBase pa).toNat b s.sQuads).setSTag (s.sKey pa w)
      (sTagOf pa (pidxOf va) st)).setMru (s.mruIndex pa) w).siDataInfo pa (st != .shared) (wayBit w true)))
    exact State.goOn_meets posted ⟨posted, hst⟩

theorem State.upgrade_moves (s : State) (va : DWord) (pa : PAddr) (w : Bool) : (s.upgrade va pa w).MovesValid s Prod.fst := by
  have h := s.askBlock_moves false pa
  unfold State.upgrade
  split
  · next e => rw [e] at h; exact h
  · next e => rw [e] at h; exact ⟨h.trans (State.own_moves _ _ _ _), BlockState.noConfusion⟩
  · next d t e =>
    rw [e] at h
    exact ((State.install_moves _ va pa w (t.filledState_ne_invalid true d.state) d.bad).after (h.trans (t.purge_moves _ _ _))).bind
      fun r t k => k

theorem State.sHit_moves (s : State) (va : DWord) (pa : PAddr) (e w : Bool) {t : STag} (ht : t.state ≠ .invalid) :
    (s.sHit va pa e w t).MovesValid s Prod.snd := by
  have h : s.Moves (if t.pidx == pidxOf va then s.setMru (s.mruIndex pa) w else
      ((s.setMru (s.mruIndex pa) w).purge .inconsistent t.pidx pa).setSTag (s.sKey pa w) (sTagOf pa (pidxOf va) t.state)) :=
    .ite (s.setMru_moves _ _) (((s.setMru_moves _ _).trans (State.purge_moves _ _ _ _)).trans (State.setSTag_moves _ _ _))
  unfold State.sHit
  dsimp only
  generalize (if t.pidx == pidxOf va then _ else _ : State) = u at h ⊢
  split
  · exact ((u.upgrade_moves va pa w).after h).bind fun r v k => k
  · exact ⟨h, ht⟩

theorem State.sMiss_moves (s : State) (va : DWord) (pa : PAddr) (g : BitVec 3) (e : Bool) (p : STag × STag) :
    (s.sMiss va pa g e p).MovesValid s Prod.snd := by
  have h := (s.sEvict_moves .inconsistent pa (s.sVictim pa p)).trans (State.askBlock_moves _ true pa)
  unfold State.sMiss
  dsimp only
  split
  · exact .refl s
  split
  · next a => rw [a] at h; exact h
  · next d t a =>
    rw [a] at h
    refine ((State.install_moves t va pa _ (t.filledState_ne_invalid _ (d.getD .plain).state) (d.getD .plain).bad).after h).bind
      fun r u k => ?_
    split
    · exact ((u.upgrade_moves va pa r.1).after k.1).bind fun _ v k => k
    · exact k

theorem hitWay_eq_some {free h0 h1 w : Bool} (h : hitWay free h0 h1 = some w) : (if w then h1 else h0) = true := by
  cases free <;> cases h0 <;> cases h1 <;> simp_all [hitWay]

theorem STag.holds_iff (t : STag) (pa : PAddr) : t.holds pa = true ↔ t.state ≠ .invalid ∧ t.tag = pa.extractLsb' 18 22 := by
  simp [STag.holds]

theorem State.sEnsure_moves (s : State) (va : DWord) (pa : PAddr) (g : BitVec 3) (e : Bool) :
    (s.sEnsure va pa g e).MovesValid s Prod.snd := by
  refine (s.sTags_moves pa).bind fun p t h => ?_
  split
  · next w hit =>
    have holds : (pickWay p w).holds pa = true := by
      have := hitWay_eq_some hit
      cases w <;> exact this
    exact (t.sHit_moves va pa e w ((STag.holds_iff _ _).1 holds).1).after h
  · exact (t.sMiss_moves va pa g e p).after h

/-! ## The instruction cache and the fetch -/

/-- Whatever came of it, the link stands. -/
structure Res.KeepsLink {α : Type} (s : State) (x : Res α) : Prop where
  meets : x.Meets (fun t => t.link = s.link) fun _ t => t.link = s.link

theorem Res.KeepsLink.ok {α : Type} {s t : State} (h : t.link = s.link) (a : α) : (Res.ok a t).KeepsLink s := ⟨h⟩

theorem Res.KeepsLink.stop {α : Type} {s : State} (f : Fault) : (Res.stop f : Res α).KeepsLink s := ⟨trivial⟩

theorem Res.KeepsLink.after {α : Type} {s t : State} {x : Res α} (h : t.link = s.link) (k : x.KeepsLink t) : x.KeepsLink s :=
  ⟨k.meets.imp (fun _ e => e.trans h) fun _ _ e => e.trans h⟩

theorem Res.KeepsLink.bind {α β : Type} {s : State} {x : Res α} {f : α → State → Res β} (h : x.KeepsLink s)
    (k : ∀ a t, (f a t).KeepsLink t) : (x.bind f).KeepsLink s :=
  ⟨h.meets.bind fun a t e => (Res.KeepsLink.after e (k a t)).meets⟩

theorem Res.Meets.keepsLink {α : Type} {s : State} {Q : α → State → Prop} {x : Res α} (h : x.Meets s.Moves Q)
    (hq : ∀ a t, Q a t → s.Moves t) : x.KeepsLink s :=
  ⟨h.imp (fun _ k => k.link) fun a t k => (hq a t k).link⟩

theorem State.goOn_link {α : Type} {s t : State} (h : t.link = s.link) (a : α) : (t.goOn a).KeepsLink s :=
  ⟨State.goOn_meets (P := fun u => u.link = s.link) (Q := fun _ u => u.link = s.link) h h⟩

theorem State.putIWords_link (l : List Word) (s : State) (k i : Nat) : (s.putIWords k i l).link = s.link := by
  induction l generalizing s i with
  | nil => rfl
  | cons w l ih => exact ih _ _

theorem State.iFill_link (s : State) (va : DWord) (pa : PAddr) (w x : Bool) : (s.iFill va pa w x).KeepsLink s := by
  unfold State.iFill
  dsimp only
  exact (State.goOn_link (s.reportSData_moves _ _ _).link ()).bind fun _ t => ⟨State.putIWords_link _ t _ _⟩

theorem State.iTags_link (s : State) (va : DWord) : (s.iTags va).KeepsLink s := by
  unfold State.iTags
  dsimp only
  split
  · exact State.goOn_link (s.checkITags_moves _).link _
  · exact .ok rfl _

theorem State.iEnsure_link (s : State) (va : DWord) (pa : PAddr) (g : BitVec 3) : (s.iEnsure va pa g).KeepsLink s := by
  refine Res.KeepsLink.bind ((s.iTags_link va).bind fun p t => ?_) fun w t => ⟨rfl⟩
  split
  · exact .ok rfl _
  · exact ((t.sEnsure_moves va pa g false).keepsLink fun _ _ k => k.1).bind fun r u => u.iFill_link va pa _ r.1

theorem State.iLoad_link (s : State) (va : DWord) (pa : PAddr) (g : BitVec 3) : (s.iLoad va pa g).KeepsLink s := by
  refine (s.iEnsure_link va pa g).bind fun w t => ?_
  dsimp only
  refine Res.KeepsLink.bind ?_ fun _ u => ?_
  · split
    · exact .ok rfl _
    · exact State.goOn_link (t.postI_moves _).link ()
  · split
    · exact .ok rfl _
    · exact .stop _

theorem State.readAnswer_moves (s : State) (pa : PAddr) : (s.readAnswer pa).Moves s := by
  unfold State.readAnswer
  have h := State.answerSingle_moves s.bus.replies s (s.errBlock 3 pa) .none
  split
  · next e => rw [e] at h; exact h
  · next e => rw [e] at h; exact h
  · next e =>
    rw [e] at h
    dsimp only
    split
    · exact h
    · exact h

theorem State.fetchPhys_link (s : State) (va : DWord) (p : Phys) : (s.fetchPhys va p).KeepsLink s := by
  unfold State.fetchPhys
  split
  · exact s.iLoad_link va p.pa p.alg
  · exact Res.KeepsLink.bind (Res.KeepsLink.after (State.record_moves s _).link ((State.readAnswer_moves _ p.pa).keepsLink fun _ _ k => k))
      fun _ t => .ok rfl _

/-- A fetch that succeeds leaves the link. -/
theorem State.fetch_link {s t : State} {x : Word} (h : s.fetch = .ok x t) : t.link = s.link := by
  unfold State.fetch at h
  split at h
  · split at h
    · next p _ =>
      split at h
      · cases h
      · have k := s.fetchPhys_link (s.fetchVa s.pc) p
        generalize s.fetchPhys (s.fetchVa s.pc) p = r at h k
        cases r with
        | ok a u =>
        cases h
        exact k.meets
        | _ => cases h
    · cases h
  · cases h

end Sys2Proof.Machine

end

section
/-! PROOFS. The uncached buffer (R345): what memory holds once it is empty, what each of its operations does to that, and the uncached load
after an uncached store (R244, R345). -/

namespace Sys2Proof.Machine

/-! ## Writes in order -/

/-- Memory after the writes of a list, oldest first. -/
def writesTo (be : Bool) (m : List Host.Cell) : List Gathered → List Host.Cell
  | [] => m
  | g :: l => writesTo be (Memory.writeDouble be m g.base.toNat g.lanes g.data) l

theorem writesTo_append (be : Bool) (m : List Host.Cell) (l l' : List Gathered) :
    writesTo be m (l ++ l') = writesTo be (writesTo be m l) l' := by
  induction l generalizing m with
  | nil => rfl
  | cons g l ih => exact ih _

theorem wf_writesTo {m : List Host.Cell} (h : Memory.wf m = true) (be : Bool) (l : List Gathered) :
    Memory.wf (writesTo be m l) = true := by
  induction l generalizing m with
  | nil => exact h
  | cons g l ih => exact ih (Memory.wf_writeDouble h _ _ _ _)

/-- What the uncached buffer holds, oldest first: what is ready, what is gathered, the FIFO. -/
def State.queued (s : State) : List Gathered :=
  s.bus.ready.flatMap Buffered.data ++ s.bus.gather.held ++ s.bus.fifo.map UncachedStore.data

/-- What memory holds once the uncached buffer is empty. -/
def State.settled (s : State) : List Host.Cell := writesTo s.memEnd s.mem s.queued

/-! ## What is ready goes out -/

theorem State.writeGathered_eq (l : List Gathered) (s : State) : s.writeGathered l = s.setMem (writesTo s.memEnd s.mem l) := by
  induction l generalizing s with
  | nil => rfl
  | cons g l ih => exact ih _

theorem State.recordAll_eq (l : List BusEvent) (s : State) :
    s.recordAll l = { s with bus := { s.bus with sent := s.bus.sent ++ l } } := by
  induction l generalizing s with
  | nil => rw [List.append_nil]; rfl
  | cons w l ih =>
    rw [State.recordAll, ih, State.record_bus]
    dsimp only
    rw [List.append_assoc]
    rfl

/-- Only memory and the record of what was sent change. -/
theorem State.writeBuffered_eq (l : List Buffered) (s : State) : ∃ sent, s.writeBuffered l =
    { s with mem := writesTo s.memEnd s.mem (l.flatMap Buffered.data), bus := { s.bus with sent := sent } } := by
  induction l generalizing s with
  | nil => exact ⟨_, rfl⟩
  | cons b l ih =>
    obtain ⟨sent, e⟩ := ih ((s.writeGathered b.data).recordAll (b.issued s.memEnd))
    refine ⟨sent, e.trans ?_⟩
    rw [List.flatMap_cons, writesTo_append, State.writeGathered_eq, State.recordAll_eq]
    rfl

theorem State.sendReady_eq (s : State) : ∃ sent, s.sendReady =
    { s with mem := writesTo s.memEnd s.mem (s.bus.ready.flatMap Buffered.data), bus := { s.bus with sent := sent, ready := [] } } := by
  obtain ⟨sent, e⟩ := State.writeBuffered_eq s.bus.ready s
  exact ⟨sent, by rw [State.sendReady, e]; rfl⟩

/-- With SysWrRdy* asserted an entry that is issued goes out after what is ready before it. -/
theorem State.issue_eq {s : State} (hw : s.bus.wrRdy = true) (b : Buffered) : ∃ sent, s.issue b =
    { s with mem := writesTo s.memEnd s.mem (s.bus.ready.flatMap Buffered.data ++ b.data), bus := { s.bus with sent := sent, ready := [] } } := by
  obtain ⟨sent, e⟩ := (s.setReady (s.bus.ready ++ [b])).sendReady_eq
  refine ⟨sent, ?_⟩
  rw [State.issue, if_pos hw, e, State.setReady_bus]
  dsimp only
  rw [List.flatMap_append, List.flatMap_singleton]
  rfl

/-! ## Taking stores with SysWrRdy* asserted -/

/-- SysWrRdy* is asserted, and no gatherer entry waits. -/
structure State.Flows (s : State) : Prop where
  wrRdy : s.bus.wrRdy = true
  ready : s.bus.ready = []

/-- From s to t, which both flow, the uncached buffer has taken the stores of l, and nothing else that matters to them changed. -/
structure State.Takes (s t : State) (l : List Gathered) : Prop where
  flows : t.Flows
  fifo : t.bus.fifo = s.bus.fifo
  replies : t.bus.replies = s.bus.replies
  modeBits : t.bus.modeBits = s.bus.modeBits
  settled : writesTo t.memEnd t.mem t.bus.gather.held = writesTo s.memEnd s.mem (s.bus.gather.held ++ l)

theorem State.memEnd_congr {s t : State} (h : t.bus.modeBits = s.bus.modeBits) : t.memEnd = s.memEnd := by
  rw [State.memEnd, h]
  rfl

theorem State.Takes.refl {s : State} (h : s.Flows) : s.Takes s [] := ⟨h, rfl, rfl, rfl, by rw [List.append_nil]⟩

theorem State.Takes.trans {s t u : State} {l l' : List Gathered} (h : s.Takes t l) (k : t.Takes u l') : s.Takes u (l ++ l') :=
  ⟨k.flows, k.fifo.trans h.fifo, k.replies.trans h.replies, k.modeBits.trans h.modeBits, by
    rw [k.settled, writesTo_append, h.settled, State.memEnd_congr h.modeBits, ← writesTo_append, List.append_assoc]⟩

/-- An entry that is issued while nothing is gathered. -/
theorem State.issue_takes {s : State} (h : s.Flows) (hg : s.bus.gather = .idle) (b : Buffered) : s.Takes (s.issue b) b.data := by
  obtain ⟨sent, e⟩ := State.issue_eq h.wrRdy b
  rw [e]
  refine ⟨⟨h.wrRdy, rfl⟩, rfl, rfl, rfl, ?_⟩
  dsimp only
  rw [hg, h.ready]
  rfl

theorem State.terminate_takes {s : State} (h : s.Flows) : s.Takes s.terminate [] ∧ s.terminate.bus.gather = .idle := by
  unfold State.terminate
  split
  · next e => exact ⟨.refl h, e⟩
  · next g _ =>
    obtain ⟨sent, e⟩ := State.issue_eq h.wrRdy ⟨true, decide (2 ^ s.sBlkBits ≤ s.bus.gather.bytes), s.gatherCause, s.bus.gather.attr,
      s.bus.gather.held⟩
    rw [e]
    refine ⟨⟨⟨h.wrRdy, rfl⟩, rfl, rfl, rfl, ?_⟩, rfl⟩
    rw [h.ready, List.append_nil]
    rfl

/-- A gatherer that goes on has one store more. -/
theorem Gather.held_of_next {g g' : Gather} {pa : PAddr} {attr : BitVec 2} {n : Nat} {x : Gathered} (h : g.next pa attr n x = some g') :
    g'.held = g.held ++ [x] := by
  cases g with
  | idle => cases h
  | one b a m d =>
    simp only [Gather.next] at h
    split_ifs at h <;> cases h <;> rfl
  | seq a p m d =>
    simp only [Gather.next] at h
    split_ifs at h
    cases h
    rfl
  | ident b a m d =>
    simp only [Gather.next] at h
    split_ifs at h
    cases h
    rfl

theorem State.setGather_takes {s : State} (h : s.Flows) {g : Gather} {l : List Gathered} (hg : g.held = s.bus.gather.held ++ l) :
    s.Takes (s.setGather g) l := ⟨⟨h.wrRdy, h.ready⟩, rfl, rfl, rfl, by rw [← hg]; rfl⟩

theorem State.beginGather_takes {s : State} (h : s.Flows) (hg : s.bus.gather = .idle) (pa : PAddr) (attr : BitVec 2) (n : Nat) (x : Gathered) :
    s.Takes (s.beginGather pa attr n x) [x] := by
  unfold State.beginGather
  split
  · exact State.setGather_takes h (by rw [hg]; rfl)
  · exact State.issue_takes h hg _

theorem State.gatherStore_takes {s : State} (h : s.Flows) (pa : PAddr) (attr : BitVec 2) (n : Nat) (x : Gathered) :
    s.Takes (s.gatherStore pa attr n x) [x] := by
  unfold State.gatherStore
  split
  · obtain ⟨k, idle⟩ := State.terminate_takes h
    exact k.trans (State.beginGather_takes k.flows idle pa attr n x)
  · next g e =>
    have k := State.setGather_takes h (Gather.held_of_next e)
    dsimp only
    split
    · exact k.trans (State.terminate_takes k.flows).1
    · exact k

theorem State.admitOne_takes {s : State} (h : s.Flows) (x : UncachedStore) : s.Takes (s.admitOne x) [x.data] := by
  unfold State.admitOne
  split
  · exact State.gatherStore_takes h _ _ _ _
  · obtain ⟨k, idle⟩ := State.terminate_takes h
    exact k.trans (State.issue_takes k.flows idle _)

theorem State.admitAll_takes (l : List UncachedStore) {s : State} (h : s.Flows) : s.Takes (s.admitAll l) (l.map UncachedStore.data) := by
  induction l generalizing s with
  | nil => exact .refl h
  | cons x l ih =>
    have k := State.admitOne_takes h x
    exact k.trans (ih k.flows)

/-! ## The buffer empties -/

/-- What is left once the FIFO and what is ready went out: what is gathered, after which memory is what it was to be. -/
theorem State.flushBuffer_settles {s : State} (hw : s.bus.wrRdy = true) : s.flushBuffer.Flows ∧ s.flushBuffer.bus.fifo = [] ∧
    s.flushBuffer.bus.replies = s.bus.replies ∧ s.flushBuffer.memEnd = s.memEnd ∧
    writesTo s.memEnd s.flushBuffer.mem s.flushBuffer.bus.gather.held = s.settled := by
  obtain ⟨sent, e⟩ := s.sendReady_eq
  have k := State.admitAll_takes s.bus.fifo (s := s.sendReady.setFifo []) (by rw [e]; exact ⟨hw, rfl⟩)
  rw [e] at k
  rw [State.flushBuffer, e]
  have memEnd := State.memEnd_congr k.modeBits
  refine ⟨k.flows, k.fifo, k.replies, memEnd, ?_⟩
  have settled := k.settled
  rw [memEnd] at settled
  rw [State.settled, State.queued, List.append_assoc, writesTo_append]
  exact settled

theorem State.settled_of_flows {s : State} (h : s.Flows) (hf : s.bus.fifo = []) :
    s.settled = writesTo s.memEnd s.mem s.bus.gather.held := by
  rw [State.settled, State.queued, h.ready, hf]
  simp

/-- An uncached load finds memory as it is once the buffer is empty. -/
theorem State.flushBuffer_terminate {s : State} (hw : s.bus.wrRdy = true) : s.flushBuffer.terminate.mem = s.settled ∧
    s.flushBuffer.terminate.bus.replies = s.bus.replies ∧ s.flushBuffer.terminate.memEnd = s.memEnd := by
  obtain ⟨flows, _, replies, memEnd, settled⟩ := State.flushBuffer_settles hw
  obtain ⟨k, idle⟩ := State.terminate_takes flows
  have mem := k.settled
  rw [idle, List.append_nil, memEnd, settled] at mem
  exact ⟨mem, k.replies.trans replies, (State.memEnd_congr k.modeBits).trans memEnd⟩

/-- A store with SysWrRdy* asserted comes after all before it. -/
theorem State.accept_settled {s t : State} {x : UncachedStore} (hw : s.bus.wrRdy = true) (h : s.accept x = some t) :
    t.settled = Memory.writeDouble s.memEnd s.settled x.data.base.toNat x.data.lanes x.data.data ∧ t.bus.replies = s.bus.replies := by
  rw [State.accept, if_pos hw] at h
  cases h
  obtain ⟨flows, fifo, replies, memEnd, settled⟩ := State.flushBuffer_settles hw
  have k := State.admitOne_takes flows x
  rw [State.settled_of_flows k.flows (k.fifo.trans fifo), k.settled, memEnd, writesTo_append, settled]
  exact ⟨rfl, k.replies.trans replies⟩

/-! ## Waiting for SysWrRdy* -/

theorem State.issue_holds {s : State} (hw : s.bus.wrRdy = false) (b : Buffered) : (s.issue b).bus.ready = s.bus.ready ++ [b] := by
  rw [State.issue, hw, if_neg Bool.false_ne_true]
  rfl

theorem State.bufferEmpty_iff (s : State) : s.bufferEmpty = true ↔ s.bus.gather = .idle ∧ s.bus.ready = [] ∧ s.bus.fifo = [] := by
  simp [State.bufferEmpty, and_assoc]

theorem State.not_bufferEmpty_of_ready {s : State} {l : List Buffered} {b : Buffered} (h : s.bus.ready = l ++ [b]) : s.bufferEmpty = false := by
  rw [← Bool.not_eq_true, State.bufferEmpty_iff, h]
  simp

theorem State.not_bufferEmpty_of_gather {s : State} (h : s.bus.gather ≠ .idle) : s.bufferEmpty = false := by
  rw [← Bool.not_eq_true, State.bufferEmpty_iff]
  exact fun k => h k.1

theorem Gather.ne_idle_of_next {g g' : Gather} {pa : PAddr} {attr : BitVec 2} {n : Nat} {x : Gathered} (h : g.next pa attr n x = some g') :
    g' ≠ .idle := by
  have held := Gather.held_of_next h
  rintro rfl
  simp [Gather.held] at held

/-- A gatherer that terminates is issued. -/
theorem State.terminate_ready {s : State} (hw : s.bus.wrRdy = false) (hg : s.bus.gather ≠ .idle) :
    ∃ b, s.terminate.bus.ready = s.bus.ready ++ [b] := by
  unfold State.terminate
  split
  · contradiction
  · exact ⟨_, State.issue_holds hw _⟩

/-- A store that is admitted while SysWrRdy* is negated stays in the gatherer. -/
theorem State.admitOne_not_empty {s : State} (hw : s.bus.wrRdy = false) (x : UncachedStore) : (s.admitOne x).bufferEmpty = false := by
  have waits : s.terminate.bus.wrRdy = false := s.terminate_keeps.core.wrRdy.trans hw
  unfold State.admitOne
  split
  · unfold State.gatherStore
    split
    · unfold State.beginGather
      split
      · exact State.not_bufferEmpty_of_gather Gather.noConfusion
      · exact State.not_bufferEmpty_of_ready (State.issue_holds waits _)
    · next g e =>
      dsimp only
      split
      · obtain ⟨b, h⟩ := State.terminate_ready (s := s.setGather g) hw (Gather.ne_idle_of_next e)
        exact State.not_bufferEmpty_of_ready h
      · exact State.not_bufferEmpty_of_gather (Gather.ne_idle_of_next e)
  · exact State.not_bufferEmpty_of_ready (State.issue_holds waits _)

theorem State.accept_not_empty {s t : State} {x : UncachedStore} (hw : s.bus.wrRdy = false) (h : s.accept x = some t) :
    t.bufferEmpty = false := by
  rw [State.accept, hw, if_neg Bool.false_ne_true] at h
  split_ifs at h
  · cases h
    exact State.admitOne_not_empty hw x
  · cases h
    rw [← Bool.not_eq_true, State.bufferEmpty_iff, State.setFifo_bus]
    simp

/-! ## The answer to an uncached read -/

/-- The agent names no doubleword of its own. -/
def State.AnswersMemory (s : State) : Prop := ∀ a ∈ s.bus.replies, ∀ d, a.data = some d → d.word = none

theorem State.answerSingle_word (l : List Reply) (s : State) (e : Bool) (held : Option DataResponse)
    (hl : ∀ a ∈ l, ∀ d, a.data = some d → d.word = none) (hh : ∀ d, held = some d → d.word = none) {d : Option DataResponse} {t : State}
    (h : s.answerSingle e held l = (some (.ack d), t)) : ∀ x, d = some x → x.word = none := by
  induction l generalizing s held with
  | nil =>
    simp only [State.answerSingle, defaultAnswer, if_true, Prod.mk.injEq, Option.some.injEq] at h
    intro x hx
    cases e
    · simp only [Bool.false_eq_true, if_false, Answer.ack.injEq] at h
      rw [← h.1] at hx
      cases held with
      | none => cases hx; rfl
      | some y => cases hx; exact hh _ rfl
    · cases h.1
  | cons a l ih =>
    have rest := fun b hb => hl b (List.mem_cons_of_mem _ hb)
    have buffered : ∀ d, a.buffered held = some d → d.word = none := by
      intro d hd
      unfold Reply.buffered at hd
      cases ha : a.data with
      | none => rw [ha] at hd; exact hh d hd
      | some y => rw [ha] at hd; cases hd; exact hl a List.mem_cons_self _ ha
    have none : ∀ d, (.none : Option DataResponse) = some d → d.word = .none := fun _ k => by cases k
    unfold State.answerSingle at h
    dsimp only at h
    split at h
    · split at h
      · exact ih _ _ rest none h
      · cases h; exact buffered
    · exact ih _ _ rest none h
    · cases h
    · cases h
    · exact ih _ _ rest buffered h

/-- Such an agent delivers what memory holds. -/
theorem State.readAnswer_mem {s t : State} {pa : PAddr} {v : DWord} (ha : s.AnswersMemory) (h : s.readAnswer pa = .ok v t) :
    v = Memory.readDouble s.memEnd s.mem (doubleBase pa).toNat := by
  unfold State.readAnswer at h
  split at h
  · cases h
  · cases h
  · next d u e =>
    have word := State.answerSingle_word _ s _ _ ha (fun _ k => by cases k) e
    dsimp only at h
    split at h
    · cases h
    · cases h
      cases d with
      | none => rfl
      | some x => rw [Option.getD_some, word x rfl]; rfl

/-- An uncached load delivers the doubleword that memory holds once the uncached buffer is empty (R244). -/
theorem State.loadPhys_uncached {s t : State} {va : DWord} {p : Phys} {l : BitVec 8} {d : DWord} (hp : algCached p.alg = false)
    (ha : s.AnswersMemory) (hw : s.bus.wrRdy = true) (h : s.loadPhys va p l = .ok d t) :
    d = Memory.readDouble s.memEnd s.settled (doubleBase p.pa).toNat := by
  obtain ⟨mem, replies, memEnd⟩ := State.flushBuffer_terminate hw
  rw [State.loadPhys, hp, if_neg Bool.false_ne_true, hw, Bool.true_or, if_pos rfl] at h
  have answers : (s.flushBuffer.terminate.record (.read (lowestLane s.flushBuffer.terminate.memEnd (doubleBase p.pa) l) (laneCount l)
      p.attr)).AnswersMemory := by
    unfold State.AnswersMemory
    rw [State.record_bus]
    dsimp only
    rw [replies]
    exact ha
  have value := State.readAnswer_mem answers h
  rw [value, ← mem, ← memEnd]
  rfl

/-- An uncached store writes its lanes after all stores before it (R345). -/
theorem State.storePhys_uncached {s t : State} {va : DWord} {p : Phys} {l : BitVec 8} {n : Option Nat} {d : DWord}
    (hp : algCached p.alg = false) (h : s.storePhys va p l n d = .ok () t) :
    (s.bus.wrRdy = true → t.settled = Memory.writeDouble s.memEnd s.settled (doubleBase p.pa).toNat l d ∧ t.bus.replies = s.bus.replies) ∧
    (s.bus.wrRdy = false → t.bufferEmpty = false) := by
  rw [State.storePhys, hp, if_neg Bool.false_ne_true] at h
  split at h
  · next u e =>
    cases h
    refine ⟨fun hw => ?_, fun hw => State.accept_not_empty hw e⟩
    have settled := State.accept_settled hw e
    exact settled
  · cases h

/-- While SysWrRdy* is negated an uncached load past a buffer that is not empty waits. -/
theorem State.loadPhys_ready {s t : State} {va : DWord} {p : Phys} {l : BitVec 8} {d : DWord} (hp : algCached p.alg = false)
    (hb : s.bus.wrRdy = false → s.bufferEmpty = false) (h : s.loadPhys va p l = .ok d t) : s.bus.wrRdy = true := by
  by_contra hw
  rw [Bool.not_eq_true] at hw
  have waits : (s.bus.wrRdy || s.bufferEmpty) = false := by rw [hw, hb hw]; rfl
  rw [State.loadPhys, hp, if_neg Bool.false_ne_true, waits, if_neg Bool.false_ne_true] at h
  cases h

end Sys2Proof.Machine

end

section
/-! PROOFS. References: what a load or store that succeeds has done, address by address (R801, R802), what does not depend on storage in a
translation, and its low twelve bits (R187, R189, R201). -/

namespace Sys2Proof.Machine

/-! ## Translation depends on no storage -/

section
variable {s t : State} (h : s.SameCore t)
include h

theorem State.SameCore.erl_eq : t.erl = s.erl := by
  unfold State.erl
  rw [h.cp0]

theorem State.SameCore.kx_eq : t.kx = s.kx := by
  unfold State.kx
  rw [h.cp0]

theorem State.SameCore.sx_eq : t.sx = s.sx := by
  unfold State.sx
  rw [h.cp0]

theorem State.SameCore.ux_eq : t.ux = s.ux := by
  unfold State.ux
  rw [h.cp0]

theorem State.SameCore.mode_eq : t.mode = s.mode := by
  unfold State.mode State.exl State.ksu
  rw [h.erl_eq, h.cp0]

theorem State.SameCore.xkssegMapped_eq : t.xkssegMapped = s.xkssegMapped := by
  unfold State.xkssegMapped
  rw [h.sx_eq, h.params]

theorem State.SameCore.segment_eq (va : DWord) : t.segment va = s.segment va := by
  unfold State.segment
  rw [h.mode_eq, h.kx_eq, h.erl_eq, h.ux_eq, h.sx_eq, h.xkssegMapped_eq, h.cp0, h.params]

theorem State.SameCore.tlbLookup_eq (va : DWord) : t.tlbLookup va = s.tlbLookup va := by
  unfold State.tlbLookup State.asid
  rw [h.cp0, h.tlb, h.ctr]

theorem State.SameCore.translate_eq (va : DWord) (kind : Access) : t.translate va kind = s.translate va kind := by
  unfold State.translate
  rw [h.segment_eq, h.tlbLookup_eq]

theorem State.SameCore.dataAddress_eq (va : DWord) : t.dataAddress va = s.dataAddress va := by
  unfold State.dataAddress
  rw [h.mode_eq, h.ux_eq]

theorem State.SameCore.memEnd_eq : t.memEnd = s.memEnd := State.memEnd_congr h.modeBits

theorem State.SameCore.reverseEndian_eq : t.reverseEndian = s.reverseEndian := by
  unfold State.reverseEndian State.re
  rw [h.mode_eq, h.cp0]

theorem State.SameCore.bigEndianCpu_eq : t.bigEndianCpu = s.bigEndianCpu := by
  rw [State.bigEndianCpu, State.bigEndianCpu, h.memEnd_eq, h.reverseEndian_eq]

end

/-! ## What a translation delivers -/

theorem TlbEntry.translate_eq_ok {e : TlbEntry} {va : DWord} {kind : Access} {p : Phys} (h : e.translate va kind = .ok p) :
    p.pa = e.physAddr (e.page va) va ∧ e.translate va .load = .ok p := by
  obtain ⟨invalid, modified, ok⟩ := e.translate_cases va kind
  by_cases hv : (e.page va).v = true
  · by_cases hd : kind = .store → (e.page va).d = true
    · rw [ok hv hd] at h
      cases h
      exact ⟨rfl, (e.translate_cases va .load).2.2 hv fun k => by cases k⟩
    · rw [Classical.not_imp] at hd
      rw [modified hv hd.1 (by simpa using hd.2)] at h
      cases h
  · rw [invalid (by simpa using hv)] at h
    cases h

/-- A store goes where a load of its address would. -/
theorem State.translate_load_of_ok {s : State} {va : DWord} {kind : Access} {p : Phys} (h : s.translate va kind = .ok p) :
    s.translate va .load = .ok p := by
  unfold State.translate at h ⊢
  split at h
  · cases h
  · exact h
  · split at h
    · cases h
    · exact (TlbEntry.translate_eq_ok h).2

theorem extractLsb'_setWidth_low {va : DWord} {k : Nat} (hk : 12 ≤ k) :
    ((va.extractLsb' 0 k).setWidth 40).extractLsb' 0 12 = va.extractLsb' 0 12 := by
  apply BitVec.eq_of_getLsbD_eq
  intro i hi
  simp [hi, show i < k by omega, show i < 40 by omega]

theorem TlbEntry.physAddr_low (e : TlbEntry) (p : TlbPage) (va : DWord) : (e.physAddr p va).extractLsb' 0 12 = va.extractLsb' 0 12 := by
  apply BitVec.eq_of_getLsbD_eq
  intro i hi
  rw [BitVec.getLsbD_extractLsb', BitVec.getLsbD_extractLsb', Nat.zero_add, TlbEntry.physAddr, getLsbD_mergeMask, BitVec.getLsbD_ofNat,
    Nat.testBit_two_pow_sub_one]
  simp [hi, show i < 40 by omega, show i < 12 + popCount e.mask by omega]

theorem compatSegment_low {attr : Option (BitVec 2)} {k0 : BitVec 3} {va : DWord} {p : Phys} (h : compatSegment attr k0 va = .unmapped p) :
    p.pa.extractLsb' 0 12 = va.extractLsb' 0 12 := by
  unfold compatSegment at h
  split at h <;> cases h <;> exact extractLsb'_setWidth_low (by omega)

theorem erlSegment_low {va : DWord} {p : Phys} (h : erlSegment va = .unmapped p) : p.pa.extractLsb' 0 12 = va.extractLsb' 0 12 := by
  cases h
  exact extractLsb'_setWidth_low (by omega)

/-- xkphys is unmapped or illegal (R189). -/
theorem xkphys_cases (va : DWord) :
    xkphys va = .unmapped ⟨va.extractLsb' 0 40, va.extractLsb' 59 3, va.extractLsb' 57 2⟩ ∨ xkphys va = .illegal := by
  rw [xkphys_eq]
  split_ifs <;> simp

theorem xkphys_low {va : DWord} {p : Phys} (h : xkphys va = .unmapped p) : p.pa.extractLsb' 0 12 = va.extractLsb' 0 12 := by
  have pa : p.pa = va.extractLsb' 0 40 := by
    rcases xkphys_cases va with e | e <;> rw [e] at h <;> cases h
    rfl
  rw [pa]
  apply BitVec.eq_of_getLsbD_eq
  intro i hi
  simp [hi]

theorem kernel32_low {attr : Option (BitVec 2)} {k0 : BitVec 3} {erl : Bool} {va : DWord} {p : Phys}
    (h : kernel32 attr k0 erl va = .unmapped p) : p.pa.extractLsb' 0 12 = va.extractLsb' 0 12 := by
  unfold kernel32 at h
  split_ifs at h
  · exact erlSegment_low h
  · exact compatSegment_low h

theorem kernel64_low {attr : Option (BitVec 2)} {k0 : BitVec 3} {erl ux xks : Bool} {va : DWord} {p : Phys}
    (h : kernel64 attr k0 erl ux xks va = .unmapped p) : p.pa.extractLsb' 0 12 = va.extractLsb' 0 12 := by
  rw [kernel64_eq] at h
  split_ifs at h
  · exact erlSegment_low h
  · exact xkphys_low h
  · exact compatSegment_low h

/-- No segment that the TLB has no part in lies outside Kernel mode. -/
theorem supervisorSegment_ne_unmapped (sx ux : Bool) (va : DWord) (p : Phys) : supervisorSegment sx ux va ≠ .unmapped p := by
  unfold supervisorSegment
  split_ifs <;> exact Segment.noConfusion

theorem userSegment_ne_unmapped (ux : Bool) (va : DWord) (p : Phys) : userSegment ux va ≠ .unmapped p := by
  unfold userSegment
  split_ifs <;> exact Segment.noConfusion

theorem State.segment_low {s : State} {va : DWord} {p : Phys} (h : s.segment va = .unmapped p) :
    p.pa.extractLsb' 0 12 = va.extractLsb' 0 12 := by
  unfold State.segment at h
  split at h
  · split_ifs at h
    · exact kernel64_low h
    · exact kernel32_low h
  · exact absurd h (supervisorSegment_ne_unmapped _ _ _ _)
  · exact absurd h (userSegment_ne_unmapped _ _ _)

/-- A translation keeps the low twelve bits: no page is smaller (R92, R201). -/
theorem State.translate_low {s : State} {va : DWord} {kind : Access} {p : Phys} (h : s.translate va kind = .ok p) :
    p.pa.extractLsb' 0 12 = va.extractLsb' 0 12 := by
  unfold State.translate at h
  split at h
  · cases h
  · next e => cases h; exact State.segment_low e
  · split at h
    · cases h
    · next e _ => rw [(TlbEntry.translate_eq_ok h).1, TlbEntry.physAddr_low]

theorem State.translate_mod {s : State} {va : DWord} {kind : Access} {p : Phys} (h : s.translate va kind = .ok p) :
    p.pa.toNat % 4096 = va.toNat % 4096 := by
  have := congrArg BitVec.toNat (State.translate_low h)
  simpa [BitVec.extractLsb'_toNat] using this

/-! ## Loads and stores that succeed -/

/-- From s to t at most the link and the delayed Watch moved. -/
structure State.SameStorage (s t : State) : Prop where
  keeps : s.Keeps t
  caches : t.caches = s.caches
  mem : t.mem = s.mem
  bus : t.bus = s.bus

theorem State.reference_ok {s t : State} {va : DWord} {store made : Bool} {p : Phys} (h : s.reference va store made = .ok p t) :
    s.translate va (if store then .store else .load) = .ok p ∧ s.SameStorage t.breakLink := by
  have keeps : s.Keeps t := by
    have k := s.reference_keeps va store made
    rw [h] at k
    exact k.of_ok
  unfold State.reference at h
  split at h
  · next q e =>
    dsimp only at h
    split at h
    · cases h
    · split at h
      · cases h
      · simp only [Acc.ok.injEq] at h
        obtain ⟨rfl, rfl⟩ := h
        refine ⟨e, keeps.trans (State.breakLink_keeps _), ?_, ?_, ?_⟩ <;> split <;> rfl
  · cases h

theorem Acc.bind_eq_ok {α β : Type} {x : Acc α} {f : α → State → Acc β} {b : β} {u : State} (h : x.bind f = .ok b u) :
    ∃ a t, x = .ok a t ∧ f a t = .ok b u := by
  cases x with
  | ok a t => exact ⟨a, t, rfl, h⟩
  | trap t => cases h
  | stop r => cases h

theorem Res.acc_eq_ok {α : Type} {x : Res α} {c : BitVec 5} {a : α} {t : State} (h : x.acc c = .ok a t) : x = .ok a t := by
  cases x with
  | ok b u => cases h; rfl
  | _ => cases h

theorem State.aligned_eq_ok {α : Type} {s t : State} {va : DWord} {n : Nat} {store : Bool} {k : DWord → Acc α} {a : α}
    (h : s.aligned va n store k = .ok a t) : (s.dataAddress va).toNat % n = 0 ∧ k (s.dataAddress va) = .ok a t := by
  by_cases ha : (s.dataAddress va).toNat % n = 0
  · exact ⟨ha, by rwa [State.aligned_of_aligned ha] at h⟩
  · rw [State.aligned_of_misaligned ha] at h
    cases h

/-- What a load that succeeds has done. -/
theorem State.read_ok {s t : State} {va x : DWord} {n : Nat} (h : s.read va n = .ok x t) :
    let a := s.dataAddress va
    let k := laneShift s.bigEndianCpu a n
    a.toNat % n = 0 ∧ ∃ p u d, s.translate a .load = .ok p ∧ s.SameStorage u ∧ u.loadPhys a p (lanesFrom k n) = .ok d t ∧
      x = lowBytes n (d >>> (8 * k)) := by
  obtain ⟨⟨p', x'⟩, t', h, e⟩ := Acc.bind_eq_ok h
  cases e
  obtain ⟨ha, h⟩ := State.aligned_eq_ok h
  obtain ⟨⟨p, d⟩, t', h, e⟩ := Acc.bind_eq_ok h
  cases e
  obtain ⟨q, u, href, h⟩ := Acc.bind_eq_ok h
  obtain ⟨d', t', h, e⟩ := Acc.bind_eq_ok h
  cases e
  obtain ⟨translate, storage⟩ := State.reference_ok href
  exact ⟨ha, p, u.breakLink, d, translate, storage, Res.acc_eq_ok h, rfl⟩

/-- What a store that succeeds has done. -/
theorem State.write_ok {s t : State} {va v : DWord} {n : Nat} (h : s.write va n v = .ok () t) :
    let a := s.dataAddress va
    let k := laneShift s.bigEndianCpu a n
    a.toNat % n = 0 ∧ ∃ p u, s.translate a .store = .ok p ∧ s.SameStorage u ∧
      u.storePhys a p (lanesFrom k n) (gatherSize n) (v <<< (8 * k)) = .ok () t := by
  obtain ⟨ha, h⟩ := State.aligned_eq_ok h
  obtain ⟨p, u, href, h⟩ := Acc.bind_eq_ok h
  obtain ⟨translate, storage⟩ := State.reference_ok href
  exact ⟨ha, p, u.breakLink, translate, storage, Res.acc_eq_ok h⟩

theorem State.SameStorage.settled_eq {s t : State} (h : s.SameStorage t) : t.settled = s.settled := by
  rw [State.settled, State.settled, State.queued, State.queued, h.keeps.core.memEnd_eq, h.mem, h.bus]

theorem State.SameStorage.answersMemory {s t : State} (h : s.SameStorage t) (k : s.AnswersMemory) : t.AnswersMemory := by
  unfold State.AnswersMemory
  rw [h.bus]
  exact k

theorem State.wf_settled {s : State} (h : s.canonical = true) : Memory.wf s.settled = true :=
  wf_writesTo ((State.canonical_iff s).1 h).1 _ _

section
variable {s t : State} {va x : DWord} {n : Nat} {p : Phys} (h : s.read va n = .ok x t)
  (hp : s.translate (s.dataAddress va) .load = .ok p) (hc : algCached p.alg = false)
include h hp hc

/-- An uncached load that is made while stores wait has SysWrRdy* asserted. -/
theorem State.read_uncached_ready (hb : s.bus.wrRdy = false → s.bufferEmpty = false) : s.bus.wrRdy = true := by
  obtain ⟨_, q, u, d, translate, storage, load, _⟩ := State.read_ok h
  rw [hp] at translate
  cases translate
  have empty : u.bufferEmpty = s.bufferEmpty := by rw [State.bufferEmpty, State.bufferEmpty, storage.bus]
  have ready := State.loadPhys_ready hc (by rw [storage.bus, empty]; exact hb) load
  rwa [storage.bus] at ready

/-- An uncached load delivers what memory holds once the uncached buffer is empty. -/
theorem State.read_uncached (ha : s.AnswersMemory) (hw : s.bus.wrRdy = true) :
    x = lowBytes n (Memory.readDouble s.memEnd s.settled (doubleBase p.pa).toNat >>> (8 * laneShift s.bigEndianCpu (s.dataAddress va) n)) := by
  obtain ⟨_, q, u, d, translate, storage, load, rfl⟩ := State.read_ok h
  rw [hp] at translate
  cases translate
  rw [State.loadPhys_uncached hc (storage.answersMemory ha) (by rw [storage.bus, hw]) load, storage.settled_eq, storage.keeps.core.memEnd_eq]

end

/-- An uncached store, and what memory is then to hold. -/
theorem State.write_uncached {s t : State} {va v : DWord} {n : Nat} {p : Phys} (h : s.write va n v = .ok () t)
    (hp : s.translate (s.dataAddress va) .store = .ok p) (hc : algCached p.alg = false) :
    let k := laneShift s.bigEndianCpu (s.dataAddress va) n
    (s.bus.wrRdy = true → t.settled = Memory.writeDouble s.memEnd s.settled (doubleBase p.pa).toNat (lanesFrom k n) (v <<< (8 * k)) ∧
      t.bus.replies = s.bus.replies) ∧ (s.bus.wrRdy = false → t.bufferEmpty = false) := by
  obtain ⟨_, q, u, translate, storage, store⟩ := State.write_ok h
  rw [hp] at translate
  cases translate
  have := State.storePhys_uncached hc store
  rwa [storage.settled_eq, storage.keeps.core.memEnd_eq, storage.bus] at this

theorem State.write_sameCore {s t : State} {va v : DWord} {n : Nat} (h : s.write va n v = .ok () t) : s.Keeps t := by
  have k := s.write_keeps va n v
  rw [h] at k
  exact k.of_ok

/-- A load after an uncached store to its address, of its size (R244, R345). -/
theorem State.read_after_uncached_write {s t u : State} {va v x : DWord} {n : Nat} {p : Phys} (hn : AccessSize n) (hc : s.canonical = true)
    (ha : s.AnswersMemory) (hp : s.translate (s.dataAddress va) .store = .ok p) (huc : algCached p.alg = false)
    (hw : s.write va n v = .ok () t) (hr : t.read va n = .ok x u) : x.toNat = v.toNat % 256 ^ n := by
  have core := (State.write_sameCore hw).core
  obtain ⟨ready, waits⟩ := State.write_uncached hw hp huc
  have translate : t.translate (t.dataAddress va) .load = .ok p := by
    rw [core.translate_eq, core.dataAddress_eq]
    exact State.translate_load_of_ok hp
  have aligned := (State.write_ok hw).1
  have wrRdy : s.bus.wrRdy = true := by
    have := State.read_uncached_ready hr translate huc (by rwa [core.wrRdy])
    rwa [core.wrRdy] at this
  obtain ⟨settled, replies⟩ := ready wrRdy
  have answers : t.AnswersMemory := by
    unfold State.AnswersMemory
    rw [replies]
    exact ha
  rw [State.read_uncached hr translate huc answers (core.wrRdy.trans wrRdy), settled, core.memEnd_eq, core.bigEndianCpu_eq,
    core.dataAddress_eq, Memory.readDouble_writeDouble_same (State.wf_settled hc)]
  exact lowBytes_mergeMask_same (laneShift_add_le hn aligned _) _ v

/-- Accesses of n bytes from pa and of m bytes from pa' have no byte in common. -/
def Apart (pa : PAddr) (n : Nat) (pa' : PAddr) (m : Nat) : Prop := pa.toNat + n ≤ pa'.toNat ∨ pa'.toNat + m ≤ pa.toNat

/-- Aligned accesses of one doubleword that are apart select different lanes. -/
theorem lanesFrom_apart {be : Bool} {va va' : DWord} {pa pa' : PAddr} {n m : Nat} (hn : AccessSize n) (hm : AccessSize m)
    (ha : va.toNat % n = 0) (ha' : va'.toNat % m = 0) (hp : pa.toNat % 4096 = va.toNat % 4096) (hp' : pa'.toNat % 4096 = va'.toNat % 4096)
    (same : pa.toNat / 8 = pa'.toNat / 8) (apart : Apart pa n pa' m) {j : Nat} (hj : laneShift be va' m ≤ j)
    (hj' : j < laneShift be va' m + m) : (lanesFrom (laneShift be va n) n).getLsbD j = false := by
  have bound := laneShift_add_le hm ha' be
  have off := offset_add_size_le hn ha
  have off' := offset_add_size_le hm ha'
  rw [getLsbD_lanesFrom _ _ (by omega), decide_eq_false_iff_not]
  rw [laneShift_eq] at hj hj' ⊢
  unfold Apart at apart
  split at hj <;> simp_all <;> omega

/-- Past the caches: an uncached load of other bytes than an uncached store (R240, R244). -/
theorem State.read_apart_from_uncached_write {s t u u' : State} {va va' v x y : DWord} {n m : Nat} {p p' : Phys} (hn : AccessSize n)
    (hm : AccessSize m) (hc : s.canonical = true) (ha : s.AnswersMemory)
    (hp : s.translate (s.dataAddress va) .store = .ok p) (hp' : s.translate (s.dataAddress va') .load = .ok p')
    (huc : algCached p.alg = false) (huc' : algCached p'.alg = false) (apart : Apart p.pa n p'.pa m)
    (hw : s.write va n v = .ok () t) (hy : s.read va' m = .ok y u') (hx : t.read va' m = .ok x u) : x = y := by
  have core := (State.write_sameCore hw).core
  obtain ⟨ready, waits⟩ := State.write_uncached hw hp huc
  have translate : t.translate (t.dataAddress va') .load = .ok p' := by rw [core.translate_eq, core.dataAddress_eq, hp']
  have wrRdy : s.bus.wrRdy = true := by
    have := State.read_uncached_ready hx translate huc' (by rwa [core.wrRdy])
    rwa [core.wrRdy] at this
  obtain ⟨settled, replies⟩ := ready wrRdy
  have answers : t.AnswersMemory := by
    unfold State.AnswersMemory
    rw [replies]
    exact ha
  have wf := State.wf_settled hc
  have aligned := (State.write_ok hw).1
  have aligned' := (State.read_ok hy).1
  rw [State.read_uncached hx translate huc' answers (core.wrRdy.trans wrRdy), State.read_uncached hy hp' huc' ha wrRdy, settled,
    core.memEnd_eq, core.bigEndianCpu_eq, core.dataAddress_eq]
  by_cases same : p.pa.toNat / 8 = p'.pa.toNat / 8
  · have base : doubleBase p'.pa = doubleBase p.pa := BitVec.eq_of_toNat_eq (by rw [toNat_doubleBase, toNat_doubleBase, same])
    rw [base, Memory.readDouble_writeDouble_same wf]
    exact lowBytes_mergeMask_apart (laneShift_add_le hm aligned' _) (fun j hj hj' =>
      lanesFrom_apart hn hm aligned aligned' (State.translate_mod hp) (State.translate_mod hp') same apart hj hj') _ _
  · rw [Memory.readDouble_writeDouble_ne wf _ (by rw [toNat_doubleBase, toNat_doubleBase]; omega)]

end Sys2Proof.Machine

end

section
/-! PROOFS. The data cache in any state: the way in which a block is found or filled is the way in which the next access finds it, and a load
after a store delivers what was stored (R267, R268, R276), whatever the caches hold. -/

namespace Sys2Proof.Machine

/-! ## Reading the arrays after a write -/

theorem State.dWordAt_setDWord {s : State} (h : s.canonical = true) (k i k' i' : Nat) (w : DLine) :
    (s.setDWord k i w).dWordAt k' i' = if 8 * k' + i' = 8 * k + i then w else s.dWordAt k' i' := by
  obtain ⟨_, _, _, _, _, _, h, _⟩ := (State.canonical_iff s).1 h
  exact Sparse.get_set h _ _ _

theorem State.dWordAt_congr {s t : State} (h : t.caches.dData = s.caches.dData) (k i : Nat) : t.dWordAt k i = s.dWordAt k i := by
  unfold State.dWordAt
  rw [h]

theorem State.dDouble_congr {s t : State} (hb : t.memEnd = s.memEnd) (h : t.caches.dData = s.caches.dData) (k j : Nat) :
    t.dDouble k j = s.dDouble k j := by
  rw [State.dDouble, State.dDouble, hb, State.dWordAt_congr h, State.dWordAt_congr h]

theorem State.postD_caches (s : State) (w : Word) : (s.postD w).caches = s.caches := by
  unfold State.postD
  split <;> rfl

theorem State.checkDTags_caches (s : State) (i : Nat) (x : BitVec 11) : (s.checkDTags i x).caches = s.caches := by
  unfold State.checkDTags
  dsimp only
  split
  · exact State.postD_caches _ _
  · rfl

theorem State.dMatchFrom_dData (n : Nat) (s : State) (p : BitVec 2) (pa : PAddr) (st : BlockState) :
    (s.dMatchFrom p pa st n).caches.dData = s.caches.dData := by
  have one (s : State) (i : Nat) (pa : PAddr) (w : Bool) : (s.dMatch i pa st w).caches.dData = s.caches.dData := by
    unfold State.dMatch
    dsimp only
    split <;> rfl
  induction n generalizing s pa with
  | zero => rfl
  | succ n ih => exact (ih _ _).trans ((one _ _ _ _).trans (one _ _ _ _))

theorem State.own_dData (s : State) (va : DWord) (pa : PAddr) (w : Bool) : (s.own va pa w).caches.dData = s.caches.dData :=
  State.dMatchFrom_dData _ _ _ _ _

/-! ## Owning a block -/

/-- A tag that takes a valid state holds the block it held. -/
theorem State.dMatch_holds {s : State} (hc : s.canonical = true) {i : Nat} {pa a : PAddr} {st : BlockState} (hst : st ≠ .invalid) {w : Bool}
    {k : Nat} (h : (s.dTagAt k).holds a = true) : ((s.dMatch i pa st w).dTagAt k).holds a = true := by
  rcases State.dTagAt_dMatch hc i pa st w k with e | ⟨_, _, _, e⟩
  · rwa [e]
  · rw [e]
    exact (DTag.holds_iff _ _).2 ⟨.inl hst, ((DTag.holds_iff _ _).1 h).2⟩

theorem State.dMatchFrom_holds {st : BlockState} (hst : st ≠ .invalid) {p : BitVec 2} {a : PAddr} {k : Nat} (n : Nat) {s : State}
    (hc : s.canonical = true) (pa : PAddr) (h : (s.dTagAt k).holds a = true) : ((s.dMatchFrom p pa st n).dTagAt k).holds a = true := by
  induction n generalizing s pa with
  | zero => exact h
  | succ n ih =>
    have hc' := (s.dMatch_keeps (dSet (aliasVa p pa)) pa st false).wf hc
    exact ih ((State.dMatch_keeps _ _ _ _ _).wf hc') _ (State.dMatch_holds hc' hst (State.dMatch_holds hc hst h))

theorem State.own_holds {s : State} (hc : s.canonical = true) {va : DWord} {pa a : PAddr} {w : Bool} {k : Nat}
    (h : (s.dTagAt k).holds a = true) : ((s.own va pa w).dTagAt k).holds a = true :=
  State.dMatchFrom_holds BlockState.noConfusion _ ((s.setSTag_keeps _ _).wf hc) _ h

/-- An upgrade that brings no data leaves the data blocks where they are (R358). -/
theorem State.upgrade_holds {s u : State} (hc : s.canonical = true) {va : DWord} {pa a : PAddr} {w : Bool} {k : Nat} {r : BlockState × Bool}
    (h : s.upgrade va pa w = .ok r u) (hr : r.2 = false) (hk : (s.dTagAt k).holds a = true) : (u.dTagAt k).holds a = true := by
  have answered (l : List Reply) (s : State) (e : Bool) (d : Option DataResponse) (k : Nat) :
      (s.answerBlock false e d l).2.dTagAt k = s.dTagAt k := by
    induction l generalizing s d with
    | nil => rfl
    | cons b l ih =>
      unfold State.answerBlock
      dsimp only
      split
      · rfl
      · exact ih _ _
      · rfl
      · refine (ih _ _).trans ?_
        unfold State.postResponse State.postSi
        split <;> rfl
      · exact ih _ _
  have tags := answered s.bus.replies s (s.errBlock s.sBlkBits pa) .none k
  have keeps := (s.askBlock_keeps false pa).wf hc
  unfold State.upgrade at h
  split at h
  · cases h
  · next e =>
    cases h
    rw [e] at keeps
    rw [State.askBlock] at e
    rw [e] at tags
    exact State.own_holds keeps (by rwa [tags])
  · generalize State.install _ _ _ _ _ _ = x at h
    cases x with
    | ok a t => cases h; cases hr
    | _ => cases h

/-! ## Finding a block -/

/-- A lookup of the data cache finds the block at pa in way w. -/
def State.Found (s : State) (va : DWord) (pa : PAddr) (w : Bool) : Prop :=
  hitWay (Config.bothWays s.ctr) ((s.dTagAt (wayKey (dSet va) false)).holds pa) ((s.dTagAt (wayKey (dSet va) true)).holds pa) = some w

theorem State.Found.holds {s : State} {va : DWord} {pa : PAddr} {w : Bool} (h : s.Found va pa w) :
    (s.dTagAt (wayKey (dSet va) w)).holds pa = true := by
  have := hitWay_eq_some h
  cases w <;> exact this

theorem hitWay_mono {free h0 h1 k0 k1 w : Bool} (h : hitWay free h0 h1 = some w) (hw : (if w then k1 else k0) = true)
    (ho : (if w then k0 else k1) = true → (if w then h0 else h1) = true) : hitWay free k0 k1 = some w := by
  revert free h0 h1 k0 k1 w
  decide

theorem hitWay_filled {free k0 k1 w : Bool} (hw : (if w then k1 else k0) = true) (ho : (if w then k0 else k1) = false) :
    hitWay free k0 k1 = some w := by
  revert free k0 k1 w
  decide

/-- The block stays found while its way holds it and the other way does not come to. -/
theorem State.Found.mono {s t : State} {va : DWord} {pa : PAddr} {w : Bool} (h : s.Found va pa w) (hctr : t.ctr = s.ctr)
    (hw : (t.dTagAt (wayKey (dSet va) w)).holds pa = true)
    (ho : (t.dTagAt (wayKey (dSet va) !w)).holds pa = true → (s.dTagAt (wayKey (dSet va) !w)).holds pa = true) : t.Found va pa w := by
  unfold State.Found
  rw [hctr]
  refine hitWay_mono h ?_ ?_
  · cases w <;> exact hw
  · cases w <;> exact ho

/-- A refill puts the block into its way, and no other block anywhere. -/
theorem State.dFill_ok {s t : State} {va : DWord} {pa : PAddr} {w w' sw : Bool} {st : BlockState} (hc : s.canonical = true)
    (h : s.dFill va pa w sw st = .ok w' t) : w' = w ∧ s.Keeps t ∧ t.dTagAt (wayKey (dSet va) w) = dTagOf (pageOf pa) st 0b001#3 sw ∧
      ∀ k a, k ≠ wayKey (dSet va) w → (t.dTagAt k).holds a = true → (s.dTagAt k).holds a = true := by
  have keeps := s.dFill_keeps va pa w sw st
  rw [h] at keeps
  cases keeps with | ok keeps => ?_
  unfold State.dFill at h
  dsimp only at h
  generalize s.sReadQuads _ _ _ = r at h
  have moves := ((s.dWriteBack_moves (dSet va) w).trans (State.dInvalidate_moves _ (wayKey (dSet va) w))).trans
    (State.reportSData_moves _ pa sw r)
  generalize (((s.dWriteBack (dSet va) w).dInvalidate (wayKey (dSet va) w)).reportSData pa sw r) = u at h moves
  unfold State.goOn at h
  split at h
  · cases h
  · have words (l : List Word) (u : State) (k i j : Nat) : (u.putDWords k i l).dTagAt j = u.dTagAt j := by
      induction l generalizing u i with
      | nil => rfl
      | cons x l ih => exact ih _ _
    have wf (l : List Word) := (State.putDWords_keeps l u (wayKey (dSet va) w) 0).wf (moves.keeps.wf hc)
    cases h
    refine ⟨rfl, keeps, (State.dTagAt_setDTag (wf _) _ _ _).trans (if_pos rfl), fun k a hk ha => moves.holds hc k a ?_⟩
    rw [← words]
    exact ((State.dTagAt_setDTag (wf _) _ k _).trans (if_neg hk)) ▸ ha

theorem Res.bind_eq_ok {α β : Type} {x : Res α} {f : α → State → Res β} {b : β} {u : State} (h : x.bind f = .ok b u) :
    ∃ a t, x = .ok a t ∧ f a t = .ok b u := by
  cases x with
  | ok a t => exact ⟨a, t, rfl, h⟩
  | _ => cases h

theorem wayKey_ne (i : Nat) (w : Bool) : wayKey i w ≠ wayKey i !w := by
  cases w <;> simp [wayKey]

/-- What a read of a data set delivers, and that it changes no array. -/
theorem State.dTags_ok {s t : State} {va : DWord} {p : DTag × DTag} (h : s.dTags va = .ok p t) :
    p = (s.dTagAt (wayKey (dSet va) false), s.dTagAt (wayKey (dSet va) true)) ∧ t.caches = s.caches ∧ s.Keeps t := by
  have keeps := s.dTags_keeps va
  rw [h] at keeps
  cases keeps with | ok keeps => ?_
  unfold State.dTags at h
  dsimp only at h
  split at h
  · unfold State.goOn at h
    split at h
    · cases h
    · cases h
      exact ⟨rfl, State.checkDTags_caches _ _ _, keeps⟩
  · cases h
    exact ⟨rfl, rfl, keeps⟩

theorem State.Found.of_caches {s t : State} {va : DWord} {pa : PAddr} {w : Bool} (h : s.Found va pa w) (hctr : t.ctr = s.ctr)
    (hd : t.caches.dTag = s.caches.dTag) : t.Found va pa w := by
  unfold State.Found
  rw [hctr, State.dTagAt_congr hd, State.dTagAt_congr hd]
  exact h

/-- A hit leaves the block in its way. -/
theorem State.dHit_found {s t : State} {va : DWord} {pa : PAddr} {e w w' : Bool} (hc : s.canonical = true) (hf : s.Found va pa w)
    (h : s.dHit va pa e w (s.dTagAt (wayKey (dSet va) w)) = .ok w' t) : w' = w ∧ t.Found va pa w := by
  have hlru : (s.setDLru (dSet va) (!w)).Found va pa w := hf.of_caches rfl rfl
  have hclru := (s.setDLru_keeps (dSet va) (!w)).wf hc
  unfold State.dHit at h
  dsimp only at h
  split at h
  · cases h
  split at h
  · obtain ⟨r, u, up, h⟩ := Res.bind_eq_ok h
    have moves := ((s.setDLru (dSet va) (!w)).upgrade_moves va pa (s.dTagAt (wayKey (dSet va) w)).scWay).of_ok up
    have other (k : Nat) := moves.1.holds hclru k pa
    split at h
    · obtain ⟨rfl, keeps, filled, rest⟩ := State.dFill_ok (moves.1.keeps.wf hclru) h
      refine ⟨rfl, hlru.mono (keeps.core.ctr.trans moves.1.keeps.core.ctr) ?_ fun k => other _ (rest _ _ (wayKey_ne _ _).symm k)⟩
      rw [filled]
      exact (DTag.holds_iff _ _).2 ⟨.inl moves.2, rfl⟩
    · next hr =>
      cases h
      exact ⟨rfl, hlru.mono moves.1.keeps.core.ctr (State.upgrade_holds hclru up (by simpa using hr) hlru.holds) (other _)⟩
  · cases h
    exact ⟨rfl, hlru⟩

/-- What an access finds or fills, the next finds in the same way. -/
theorem State.dEnsure_found {s t : State} {va : DWord} {pa : PAddr} {g : BitVec 3} {e w : Bool} {pref : Option Bool}
    (hc : s.canonical = true) (h : s.dEnsure va pa g e pref = .ok w t) : t.Found va pa w := by
  obtain ⟨p, u, tags, h⟩ := Res.bind_eq_ok h
  obtain ⟨rfl, caches, keeps⟩ := State.dTags_ok tags
  have eq (k : Nat) : s.dTagAt k = u.dTagAt k := (State.dTagAt_congr (by rw [caches]) k).symm
  have hcu := keeps.wf hc
  simp only [eq] at h
  split at h
  · next w' hit =>
    have hf : u.Found va pa w' := hit
    have pick : pickWay (u.dTagAt (wayKey (dSet va) false), u.dTagAt (wayKey (dSet va) true)) w' = u.dTagAt (wayKey (dSet va) w') := by
      cases w' <;> rfl
    rw [pick] at h
    obtain ⟨rfl, found⟩ := State.dHit_found hcu hf h
    exact found
  · next miss =>
    obtain ⟨r, v, ensured, h⟩ := Res.bind_eq_ok h
    have moves := (u.sEnsure_moves va pa g e).of_ok ensured
    have none (b : Bool) : (u.dTagAt (wayKey (dSet va) b)).holds pa = false := by
      revert miss
      cases b <;> unfold hitWay <;> split_ifs <;> simp_all
    generalize pref.getD _ = w' at h
    obtain ⟨rfl, _, filled, rest⟩ := State.dFill_ok (moves.1.keeps.wf hcu) h
    have filled' : (t.dTagAt (wayKey (dSet va) w)).holds pa = true := by
      rw [filled]
      exact (DTag.holds_iff _ _).2 ⟨.inl moves.2, rfl⟩
    have other : (t.dTagAt (wayKey (dSet va) !w)).holds pa = false := by
      rw [← Bool.not_eq_true]
      intro k
      have := moves.1.holds hcu _ pa (rest _ _ (wayKey_ne _ _).symm k)
      rw [none] at this
      cases this
    unfold State.Found
    refine hitWay_filled ?_ ?_
    · cases w <;> exact filled'
    · cases w <;> exact other

/-- A load of a block that is found, and not being refilled, delivers its doubleword. -/
theorem State.dLoad_found {s t : State} {va : DWord} {pa : PAddr} {g : BitVec 3} {l : BitVec 8} {d : DWord} {w : Bool}
    (hf : s.Found va pa w) (h : s.dLoad va pa g l = .ok d t) : d = s.dDouble (wayKey (dSet va) w) (dIndex va) := by
  obtain ⟨w', v, ensured, h⟩ := Res.bind_eq_ok h
  obtain ⟨p, u, tags, ensured⟩ := Res.bind_eq_ok ensured
  obtain ⟨rfl, caches, keeps⟩ := State.dTags_ok tags
  have hit : hitWay (Config.bothWays u.ctr) ((s.dTagAt (wayKey (dSet va) false)).holds pa)
      ((s.dTagAt (wayKey (dSet va) true)).holds pa) = some w := by
    rw [keeps.core.ctr]
    exact hf
  dsimp only at ensured
  rw [hit] at ensured
  dsimp only at ensured
  unfold State.dHit at ensured
  split at ensured
  · cases ensured
  · cases ensured
    have value := State.dDouble_congr (s := s) (t := u.setDLru (dSet va) (!w)) keeps.core.memEnd_eq (by rw [State.setDLru, caches])
      (wayKey (dSet va) w) (dIndex va)
    dsimp only at h
    split at h
    · cases h
      exact value
    · unfold State.goOn at h
      split at h
      · cases h
      · cases h
        exact value

/-! ## Stores -/

/-- In the big-endian order the second word is the low one. -/
theorem getLsbD_doubleOf (be : Bool) (a b : Word) {i : Nat} (hi : i < 64) :
    (doubleOf be a b).getLsbD i = if decide (i < 32) = be then b.getLsbD (i % 32) else a.getLsbD (i % 32) := by
  have hm : i % 32 = if i < 32 then i else i - 32 := by split <;> omega
  have pair (x y : Word) : (show DWord from x ++ y).getLsbD i = if i < 32 then y.getLsbD i else x.getLsbD (i - 32) :=
    BitVec.getLsbD_append
  rw [hm]
  cases be
  · exact (pair b a).trans (by by_cases h : i < 32 <;> simp [h])
  · exact (pair a b).trans (by by_cases h : i < 32 <;> simp [h])

theorem getLsbD_mergeWord (l : DLine) (lanes : BitVec 4) (w : Word) {i : Nat} (hi : i < 32) :
    (l.merge lanes w).data.getLsbD i = if lanes.getLsbD (i / 8) then w.getLsbD i else l.data.getLsbD i := by
  have lane : ((laneMask (0#4 ++ lanes)).extractLsb' 0 32).getLsbD i = lanes.getLsbD (i / 8) := by
    rw [BitVec.getLsbD_extractLsb', Nat.zero_add, getLsbD_laneMask _ (by omega), BitVec.getLsbD_append, if_pos (by omega)]
    simp [hi]
  rw [DLine.merge, getLsbD_mergeMask, lane]

theorem getLsbD_lanesOf (be : Bool) (lanes : BitVec 8) {j : Nat} (hj : j < 4) :
    (lanesOf be lanes).1.getLsbD j = lanes.getLsbD (if be then 4 + j else j) ∧
    (lanesOf be lanes).2.getLsbD j = lanes.getLsbD (if be then j else 4 + j) := by
  cases be <;> simp [lanesOf, hj]

theorem getLsbD_wordsOf (be : Bool) (d : DWord) {j : Nat} (hj : j < 32) :
    (wordsOf be d).1.getLsbD j = d.getLsbD (if be then 32 + j else j) ∧
    (wordsOf be d).2.getLsbD j = d.getLsbD (if be then j else 32 + j) := by
  cases be <;> simp [wordsOf, high32, low32, hj]

/-- Storing into both words of a doubleword stores into the doubleword. -/
theorem doubleOf_merge (be : Bool) (a b : DLine) (lanes : BitVec 8) (d : DWord) :
    doubleOf be (a.merge (lanesOf be lanes).1 (wordsOf be d).1).data (b.merge (lanesOf be lanes).2 (wordsOf be d).2).data =
      mergeMask (laneMask lanes) (doubleOf be a.data b.data) d := by
  apply BitVec.eq_of_getLsbD_eq
  intro i hi
  have word : i % 32 < 32 := Nat.mod_lt _ (by omega)
  have lane : i % 32 / 8 < 4 := by omega
  rw [getLsbD_mergeMask, getLsbD_laneMask _ hi, getLsbD_doubleOf _ _ _ hi, getLsbD_doubleOf _ _ _ hi, getLsbD_mergeWord _ _ _ word,
    getLsbD_mergeWord _ _ _ word, (getLsbD_lanesOf be lanes lane).1, (getLsbD_lanesOf be lanes lane).2, (getLsbD_wordsOf be d word).1,
    (getLsbD_wordsOf be d word).2]
  by_cases h : i < 32
  · have e : i % 32 = i := Nat.mod_eq_of_lt h
    cases be <;> simp [h, e]
  · have e : 32 + i % 32 = i := by omega
    have e' : 4 + i % 32 / 8 = i / 8 := by omega
    cases be <;> simp [h, e, e']

/-- The tag of a block that is stored into: DirtyExclusive and Inconsistent (R267). -/
def DTag.stored (t : DTag) : DTag := { dTagOf t.tag .dirtyExclusive 0b010#3 t.scWay with tagParity := t.tagParity }

/-- A store's effect on a block in entry k: two words, and the tag. -/
def State.storeLine (s : State) (k j : Nat) (lanes : BitVec 8) (d : DWord) : State :=
  ((s.setDWord k (2 * j) ((s.dWordAt k (2 * j)).merge (lanesOf s.memEnd lanes).1 (wordsOf s.memEnd d).1)).setDWord k (2 * j + 1)
    ((s.dWordAt k (2 * j + 1)).merge (lanesOf s.memEnd lanes).2 (wordsOf s.memEnd d).2)).setDTag k (s.dTagAt k).stored

theorem State.storeLine_keeps (s : State) (k j : Nat) (lanes : BitVec 8) (d : DWord) : s.Keeps (s.storeLine k j lanes d) :=
  ((s.setDWord_keeps _ _ _).trans (State.setDWord_keeps _ _ _ _)).trans (State.setDTag_keeps _ _ _)

/-- What a store that succeeds does to the block it found or filled. -/
theorem State.dStore_ok {s u : State} {va : DWord} {pa : PAddr} {g : BitVec 3} {l : BitVec 8} {d : DWord}
    (h : s.dStore va pa g l d = .ok () u) : ∃ w t, s.dEnsure va pa g true .none = .ok w t ∧
      u = if (t.dTagAt (wayKey (dSet va) w)).state = .dirtyExclusive then t.storeLine (wayKey (dSet va) w) (dIndex va) l d
        else (t.storeLine (wayKey (dSet va) w) (dIndex va) l d).own va pa (t.dTagAt (wayKey (dSet va) w)).scWay := by
  obtain ⟨w, t, ensured, h⟩ := Res.bind_eq_ok h
  simp only [Res.ok.injEq, true_and, beq_iff_eq] at h
  exact ⟨w, t, ensured, h.symm⟩

theorem State.dTagAt_storeLine {s : State} (hc : s.canonical = true) (k j : Nat) (lanes : BitVec 8) (d : DWord) (i : Nat) :
    (s.storeLine k j lanes d).dTagAt i = if i = k then (s.dTagAt k).stored else s.dTagAt i :=
  State.dTagAt_setDTag (((s.setDWord_keeps _ _ _).trans (State.setDWord_keeps _ _ _ _)).wf hc) _ _ _

theorem State.dWordAt_storeLine {s : State} (hc : s.canonical = true) (k j : Nat) (lanes : BitVec 8) (d : DWord) (k' i : Nat) :
    (s.storeLine k j lanes d).dWordAt k' i =
      if 8 * k' + i = 8 * k + (2 * j + 1) then (s.dWordAt k (2 * j + 1)).merge (lanesOf s.memEnd lanes).2 (wordsOf s.memEnd d).2
      else if 8 * k' + i = 8 * k + 2 * j then (s.dWordAt k (2 * j)).merge (lanesOf s.memEnd lanes).1 (wordsOf s.memEnd d).1
      else s.dWordAt k' i := by
  rw [← State.dWordAt_setDWord hc, ← State.dWordAt_setDWord ((s.setDWord_keeps _ _ _).wf hc)]
  rfl

theorem State.dDouble_storeLine {s : State} (hc : s.canonical = true) {k j : Nat} (hj : j < 4) (lanes : BitVec 8) (d : DWord) (k' j' : Nat)
    (hj' : j' < 4) : (s.storeLine k j lanes d).dDouble k' j' =
      if k' = k ∧ j' = j then mergeMask (laneMask lanes) (s.dDouble k j) d else s.dDouble k' j' := by
  rw [State.dDouble, State.dWordAt_storeLine hc, State.dWordAt_storeLine hc]
  by_cases h : k' = k ∧ j' = j
  · obtain ⟨rfl, rfl⟩ := h
    rw [if_neg (show ¬ 8 * k' + 2 * j' = 8 * k' + (2 * j' + 1) by omega), if_pos rfl, if_pos rfl, if_pos ⟨rfl, rfl⟩]
    exact doubleOf_merge _ _ _ _ _
  · rw [if_neg h, if_neg (by omega), if_neg (by omega), if_neg (by omega), if_neg (by omega)]
    rfl

/-- After a cached store a lookup finds the block, not being refilled, with the lanes of the store. -/
theorem State.dStore_found {s u : State} {va : DWord} {pa : PAddr} {g : BitVec 3} {l : BitVec 8} {d : DWord} (hc : s.canonical = true)
    (h : s.dStore va pa g l d = .ok () u) : ∃ w old, u.Found va pa w ∧
      u.dDouble (wayKey (dSet va) w) (dIndex va) = mergeMask (laneMask l) old d := by
  obtain ⟨w, t, ensured, rfl⟩ := State.dStore_ok h
  have found := State.dEnsure_found hc ensured
  have keeps : s.Keeps t := by
    have := s.dEnsure_keeps va pa g true .none
    rw [ensured] at this
    cases this with | ok k => exact k
  have hct := keeps.wf hc
  have index : dIndex va < 4 := (va.extractLsb' 3 2).isLt
  generalize hk : wayKey (dSet va) w = k
  have tag := State.dTagAt_storeLine hct k (dIndex va) l d
  have stored : (t.storeLine k (dIndex va) l d).Found va pa w := by
    have same (i : Nat) (a : PAddr) (hi : (t.dTagAt k).holds a = true) : ((t.dTagAt k).stored).holds a = true :=
      (DTag.holds_iff _ _).2 ⟨.inl BlockState.noConfusion, ((DTag.holds_iff _ _).1 hi).2⟩
    refine found.mono rfl ?_ ?_
    · rw [hk, tag, if_pos rfl]
      exact same k pa (hk ▸ found.holds)
    · rw [tag, if_neg (by rw [← hk]; exact (wayKey_ne _ _).symm)]
      exact id
  have value : (t.storeLine k (dIndex va) l d).dDouble k (dIndex va) = mergeMask (laneMask l) (t.dDouble k (dIndex va)) d := by
    rw [State.dDouble_storeLine hct index l d k _ index, if_pos ⟨rfl, rfl⟩]
  split
  · exact ⟨w, _, stored, by rw [hk]; exact value⟩
  · have owned := (t.storeLine k (dIndex va) l d).own_moves va pa (t.dTagAt k).scWay
    have hcs := (t.storeLine_keeps k (dIndex va) l d).wf hct
    refine ⟨w, t.dDouble k (dIndex va), stored.mono owned.keeps.core.ctr (State.own_holds hcs stored.holds) (owned.holds hcs _ _), ?_⟩
    rw [hk, State.dDouble_congr owned.keeps.core.memEnd_eq (State.own_dData _ _ _ _), value]

/-- A load after a cached store to its address, of its size. -/
theorem State.read_after_cached_write {s t u : State} {va v x : DWord} {n : Nat} {p : Phys} (hn : AccessSize n) (hc : s.canonical = true)
    (hp : s.translate (s.dataAddress va) .store = .ok p) (hca : algCached p.alg = true)
    (hw : s.write va n v = .ok () t) (hr : t.read va n = .ok x u) : x.toNat = v.toNat % 256 ^ n := by
  have core := (State.write_sameCore hw).core
  obtain ⟨aligned, q, s1, translate, storage, store⟩ := State.write_ok hw
  rw [hp] at translate
  cases translate
  obtain ⟨_, q, t1, d, translate, storage', load, rfl⟩ := State.read_ok hr
  rw [core.translate_eq, core.dataAddress_eq, State.translate_load_of_ok hp] at translate
  cases translate
  rw [State.storePhys, if_pos hca] at store
  rw [State.loadPhys, if_pos hca, core.dataAddress_eq] at load
  obtain ⟨w, old, found, value⟩ := State.dStore_found (storage.keeps.wf hc) store
  have found' : t1.Found (s.dataAddress va) p.pa w := found.of_caches storage'.keeps.core.ctr (by rw [storage'.caches])
  rw [State.dLoad_found found' load, State.dDouble_congr storage'.keeps.core.memEnd_eq (by rw [storage'.caches]), value,
    core.bigEndianCpu_eq, core.dataAddress_eq]
  exact lowBytes_mergeMask_same (laneShift_add_le hn aligned _) old v

/-- The first clause of O38: through whatever path both took. -/
theorem State.read_after_write {s t u : State} {va v x : DWord} {n : Nat} (hn : AccessSize n) (hc : s.canonical = true)
    (ha : s.AnswersMemory) (hw : s.write va n v = .ok () t) (hr : t.read va n = .ok x u) : x.toNat = v.toNat % 256 ^ n := by
  obtain ⟨_, p, _, translate, _⟩ := State.write_ok hw
  cases cached : algCached p.alg
  · exact State.read_after_uncached_write hn hc ha translate cached hw hr
  · exact State.read_after_cached_write hn hc translate cached hw hr

end Sys2Proof.Machine

end

section
/-! PROOFS. Where blocks stand: secondary blocks and their quadwords (R270, R280, R352), data blocks and their doublewords (R265), and what
memory holds once the outgoing buffer is empty (R344, R347). -/

namespace Sys2Proof.Machine

/-! ## Secondary blocks -/

/-- The number of the secondary block that an address lies in. -/
def State.block (s : State) (a : PAddr) : Nat := a.toNat / 2 ^ s.sBlkBits

theorem State.geometry_cases (s : State) : s.sBlkBits = 6 ∧ s.sQuads = 4 ∨ s.sBlkBits = 7 ∧ s.sQuads = 8 := by
  unfold State.sBlkBits State.sQuads
  cases s.scBlkSize <;> simp

theorem State.toNat_blockBase (s : State) (a : PAddr) : (s.blockBase a).toNat = s.block a * 2 ^ s.sBlkBits := by
  have := a.isLt
  rw [State.blockBase, State.block, BitVec.toNat_shiftLeft, BitVec.toNat_ushiftRight, Nat.shiftRight_eq_div_pow, Nat.shiftLeft_eq]
  have := Nat.div_mul_le_self a.toNat (2 ^ s.sBlkBits)
  omega

theorem State.block_blockBase (s : State) (a : PAddr) : s.block (s.blockBase a) = s.block a := by
  rw [State.block, s.toNat_blockBase, Nat.mul_div_cancel _ (Nat.two_pow_pos _)]

theorem State.blockBase_eq_iff (s : State) (a b : PAddr) : s.blockBase a = s.blockBase b ↔ s.block a = s.block b := by
  constructor
  · intro h
    rw [← s.block_blockBase a, h, s.block_blockBase]
  · intro h
    apply BitVec.eq_of_toNat_eq
    rw [s.toNat_blockBase, s.toNat_blockBase, h]

theorem State.blockBase_blockBase (s : State) (a : PAddr) : s.blockBase (s.blockBase a) = s.blockBase a :=
  (s.blockBase_eq_iff _ _).2 (s.block_blockBase a)

theorem State.sKey_eq (s : State) (a : PAddr) (w : Bool) :
    s.sKey a w = 2 * (s.block a % 2 ^ (18 + s.scSize - s.sBlkBits)) + w.toNat := by
  rw [State.sKey, wayKey, State.sSet, Nat.shiftRight_eq_div_pow, State.block]

theorem State.sKey_of_block {s : State} {a b : PAddr} (h : s.block a = s.block b) (w : Bool) : s.sKey a w = s.sKey b w := by
  rw [s.sKey_eq, s.sKey_eq, h]

theorem two_mul_add_toNat_inj {m n : Nat} {v w : Bool} (h : 2 * m + v.toNat = 2 * n + w.toNat) : m = n ∧ v = w := by
  cases v <;> cases w <;> simp at h ⊢ <;> omega

/-- An entry has one set and one way. -/
theorem State.way_eq_of_sKey {s : State} {a b : PAddr} {v w : Bool} (h : s.sKey a v = s.sKey b w) : v = w := by
  rw [s.sKey_eq, s.sKey_eq] at h
  exact (two_mul_add_toNat_inj h).2

theorem State.div_eq_block (s : State) (a : PAddr) : a.toNat / 2 ^ 18 = s.block a / 2 ^ (18 - s.sBlkBits) := by
  rw [State.block, Nat.div_div_eq_div_mul, ← Nat.pow_add]
  rcases s.geometry_cases with ⟨h, _⟩ | ⟨h, _⟩ <;> rw [h]

/-- The index in the set and the tag determine the block (R280). -/
theorem State.block_eq_of_sKey {s : State} {a b : PAddr} {v w : Bool} (h : s.sKey a v = s.sKey b w)
    (ht : a.toNat / 2 ^ 18 = b.toNat / 2 ^ 18) : s.block a = s.block b := by
  rw [s.sKey_eq, s.sKey_eq] at h
  have set := (two_mul_add_toNat_inj h).1
  rw [s.div_eq_block, s.div_eq_block] at ht
  have le : 18 - s.sBlkBits ≤ 18 + s.scSize - s.sBlkBits := by omega
  have low := congrArg (· % 2 ^ (18 - s.sBlkBits)) set
  simp only [Nat.mod_mod_of_dvd _ (Nat.pow_dvd_pow 2 le)] at low
  rw [← Nat.div_add_mod (s.block a) (2 ^ (18 - s.sBlkBits)), ht, low, Nat.div_add_mod]

theorem extractLsb'_18_toNat (a : PAddr) : (a.extractLsb' 18 22).toNat = a.toNat / 2 ^ 18 := by
  have := a.isLt
  rw [BitVec.extractLsb'_toNat, Nat.shiftRight_eq_div_pow]
  omega

theorem STag.holds_iff_div (t : STag) (a : PAddr) : t.holds a = true ↔ t.state ≠ .invalid ∧ t.tag.toNat = a.toNat / 2 ^ 18 := by
  rw [STag.holds_iff, ← extractLsb'_18_toNat, BitVec.toNat_inj]

/-- A tag holds all addresses of a block or none. -/
theorem State.holds_of_block {s : State} {a b : PAddr} (h : s.block a = s.block b) (t : STag) : t.holds a = true ↔ t.holds b = true := by
  rw [STag.holds_iff_div, STag.holds_iff_div, s.div_eq_block, s.div_eq_block, h]

/-- Two addresses that one entry holds lie in one block. -/
theorem State.block_eq_of_holds {s : State} {a b : PAddr} {v w : Bool} {t : STag} (h : s.sKey a v = s.sKey b w) (ha : t.holds a = true)
    (hb : t.holds b = true) : s.block a = s.block b :=
  State.block_eq_of_sKey h (((STag.holds_iff_div _ _).1 ha).2.symm.trans ((STag.holds_iff_div _ _).1 hb).2)

theorem sTagOf_holds (pa : PAddr) (p : BitVec 2) {st : BlockState} (h : st ≠ .invalid) : (sTagOf pa p st).holds pa = true :=
  (STag.holds_iff _ _).2 ⟨h, rfl⟩

/-! ## Quadwords -/

theorem State.sQuadIndex_eq (s : State) (a : PAddr) : s.sQuadIndex a = a.toNat / 16 % s.sQuads := by
  rw [State.sQuadIndex, Nat.shiftRight_eq_div_pow]

theorem State.sQuadIndex_lt (s : State) (a : PAddr) : s.sQuadIndex a < s.sQuads := by
  rw [s.sQuadIndex_eq]
  rcases s.geometry_cases with ⟨_, h⟩ | ⟨_, h⟩
  · rw [h]; omega
  · rw [h]; omega

/-- The quadword of a block that an address lies in. -/
theorem State.div_sixteen (s : State) (a : PAddr) : a.toNat / 16 = s.block a * s.sQuads + s.sQuadIndex a := by
  rw [s.sQuadIndex_eq, State.block]
  rcases s.geometry_cases with ⟨h, k⟩ | ⟨h, k⟩ <;> rw [h, k] <;> omega

theorem State.two_pow_sBlkBits (s : State) : 2 ^ s.sBlkBits = 16 * s.sQuads := by
  rcases s.geometry_cases with ⟨h, k⟩ | ⟨h, k⟩ <;> rw [h, k] <;> rfl

theorem State.canonical_sTag {s : State} (h : s.canonical = true) : Sparse.wf STag.default s.caches.sTag = true := by
  obtain ⟨_, _, _, _, _, _, _, _, h, _⟩ := (State.canonical_iff s).1 h
  exact h

theorem State.canonical_sData {s : State} (h : s.canonical = true) : Sparse.wf SQuad.default s.caches.sData = true := by
  obtain ⟨_, _, _, _, _, _, _, _, _, h, _⟩ := (State.canonical_iff s).1 h
  exact h

theorem State.sTagAt_setSTag {s : State} (h : s.canonical = true) (k j : Nat) (t : STag) :
    (s.setSTag k t).sTagAt j = if j = k then t else s.sTagAt j := Sparse.get_set (State.canonical_sTag h) k j t

theorem State.sQuadAt_setSQuad {s : State} (h : s.canonical = true) (k q k' q' : Nat) (d : SQuad) :
    (s.setSQuad k q d).sQuadAt k' q' = if s.sQuads * k' + q' = s.sQuads * k + q then d else s.sQuadAt k' q' :=
  Sparse.get_set (State.canonical_sData h) _ _ _

/-- Quadwords of blocks do not overlap. -/
theorem State.sQuads_inj {s : State} {k k' q q' : Nat} (hq : q < s.sQuads) (hq' : q' < s.sQuads)
    (h : s.sQuads * k' + q' = s.sQuads * k + q) : k' = k ∧ q' = q := by
  rcases s.geometry_cases with ⟨_, e⟩ | ⟨_, e⟩ <;> rw [e] at hq hq' h <;> omega

/-- The half of a quadword that an address names, by bit 3 (R352). -/
theorem quadPart_eq (q : QWord) (a : PAddr) : quadPart q a = q.extractLsb' (if a.toNat / 8 % 2 = 0 then 64 else 0) 64 := by
  have bit : a.getLsbD 3 = true ↔ ¬ a.toNat / 8 % 2 = 0 := by
    rw [← BitVec.testBit_toNat, Nat.testBit_eq_decide_div_mod_eq, decide_eq_true_eq]
    omega
  unfold quadPart
  by_cases h : a.toNat / 8 % 2 = 0
  · rw [if_neg (fun k => bit.1 k h), if_pos h]; rfl
  · rw [if_pos (bit.2 h), if_neg h]; rfl

/-- The doubleword at an address in way w of the secondary cache. -/
def State.sDouble (s : State) (w : Bool) (a : PAddr) : DWord := quadPart (s.sQuadAt (s.sKey a w) (s.sQuadIndex a)).data a

/-- Way w of the secondary cache holds the block at an address. -/
def State.sHolds (s : State) (w : Bool) (a : PAddr) : Prop := (s.sTagAt (s.sKey a w)).holds a = true

theorem State.sHolds_of_block {s : State} {a b : PAddr} (h : s.block a = s.block b) (w : Bool) : s.sHolds w a ↔ s.sHolds w b := by
  unfold State.sHolds
  rw [State.sKey_of_block h, State.holds_of_block h]

/-! ## Data blocks -/

/-- The number of the data block that an address lies in. -/
def lineOf (a : PAddr) : Nat := a.toNat / 32

/-- The doubleword of its data block that an address names. -/
def dIdx (a : PAddr) : Nat := a.toNat / 8 % 4

theorem toNat_dBlockAddr (tag : BitVec 28) (i : Nat) : (dBlockAddr tag i).toNat = tag.toNat * 4096 + i % 128 * 32 := by
  rw [dBlockAddr, BitVec.toNat_append, BitVec.toNat_append, BitVec.toNat_ofNat, BitVec.toNat_ofNat]
  have h1 : tag.toNat <<< 7 ||| i % 2 ^ 7 = tag.toNat * 128 + i % 128 := by
    rw [← Nat.shiftLeft_add_eq_or_of_lt (Nat.mod_lt _ (by omega)), Nat.shiftLeft_eq]
  rw [h1, Nat.zero_mod, Nat.or_zero, Nat.shiftLeft_eq]
  omega

theorem State.toNat_dAddr (s : State) (k : Nat) : (s.dAddr k).toNat = (s.dTagAt k).tag.toNat * 4096 + k / 2 % 128 * 32 :=
  toNat_dBlockAddr _ _

theorem toNat_pageOf (a : PAddr) : (pageOf a).toNat = a.toNat / 4096 := by
  have := a.isLt
  rw [pageOf, BitVec.extractLsb'_toNat, Nat.shiftRight_eq_div_pow]
  omega

theorem lineOf_dAddr (s : State) (k : Nat) : lineOf (s.dAddr k) = (s.dTagAt k).tag.toNat * 128 + k / 2 % 128 := by
  rw [lineOf, s.toNat_dAddr]
  omega

/-- Entry k of the data cache stands for the data block at an address. -/
theorem lineOf_dAddr_eq_iff (s : State) (k : Nat) (a : PAddr) :
    lineOf (s.dAddr k) = lineOf a ↔ (s.dTagAt k).tag = pageOf a ∧ k / 2 % 128 = a.toNat / 32 % 128 := by
  rw [lineOf_dAddr, lineOf, ← BitVec.toNat_inj, toNat_pageOf]
  omega

theorem State.dAddr_eq_of_lineOf {s : State} {j k : Nat} (h : lineOf (s.dAddr j) = lineOf (s.dAddr k)) : s.dAddr j = s.dAddr k := by
  apply BitVec.eq_of_toNat_eq
  rw [lineOf_dAddr, lineOf_dAddr] at h
  rw [s.toNat_dAddr, s.toNat_dAddr]
  omega

theorem State.block_of_lineOf (s : State) {a b : PAddr} (h : lineOf a = lineOf b) : s.block a = s.block b := by
  rw [lineOf, lineOf] at h
  rw [State.block, State.block]
  rcases s.geometry_cases with ⟨e, _⟩ | ⟨e, _⟩ <;> rw [e] <;> omega

/-- The two quadwords of a data block in its secondary block. -/
theorem State.sQuadIndex_of_lineOf {s : State} {k : Nat} {a : PAddr} (h : lineOf a = lineOf (s.dAddr k)) :
    s.sQuadIndex a = s.sQuadIndex (s.dAddr k) + dIdx a / 2 := by
  rw [lineOf_dAddr, lineOf] at h
  rw [s.sQuadIndex_eq, s.sQuadIndex_eq, s.toNat_dAddr, dIdx]
  rcases s.geometry_cases with ⟨_, e⟩ | ⟨_, e⟩ <;> rw [e] <;> omega

theorem State.sQuadIndex_dAddr_lt (s : State) (k : Nat) : s.sQuadIndex (s.dAddr k) + 1 < s.sQuads := by
  rw [s.sQuadIndex_eq, s.toNat_dAddr]
  rcases s.geometry_cases with ⟨_, e⟩ | ⟨_, e⟩ <;> rw [e] <;> omega

/-- The doubleword at an address in its data block, as a half of a quadword of the secondary block. -/
theorem quadPart_eq_of_dIdx (q : QWord) (a : PAddr) : quadPart q a = q.extractLsb' (if dIdx a % 2 = 0 then 64 else 0) 64 := by
  rw [quadPart_eq, dIdx, show a.toNat / 8 % 4 % 2 = a.toNat / 8 % 2 by omega]

/-- Every doubleword of a data block has an address. -/
theorem State.exists_addr_of_dAddr (s : State) (k : Nat) {j : Nat} (hj : j < 4) : ∃ a, lineOf a = lineOf (s.dAddr k) ∧ dIdx a = j := by
  have e := s.toNat_dAddr k
  have lt : (s.dTagAt k).tag.toNat < 2 ^ 28 := (s.dTagAt k).tag.isLt
  have value : (BitVec.ofNat 40 ((s.dAddr k).toNat + 8 * j)).toNat = (s.dAddr k).toNat + 8 * j := by
    rw [BitVec.toNat_ofNat, Nat.mod_eq_of_lt (by omega)]
  refine ⟨BitVec.ofNat 40 ((s.dAddr k).toNat + 8 * j), ?_, ?_⟩
  · rw [lineOf, lineOf, value]
    omega
  · rw [dIdx, value]
    omega

/-- Every doubleword of a secondary block has an address. -/
theorem State.exists_addr_of_block (s : State) (pa : PAddr) {q j : Nat} (hq : q < s.sQuads) (hj : j < 2) :
    ∃ a, s.block a = s.block pa ∧ s.sQuadIndex a = q ∧ a.toNat = (s.blockBase pa).toNat + 16 * q + 8 * j := by
  have e := s.toNat_blockBase pa
  have lt := pa.isLt
  have le : s.block pa * 2 ^ s.sBlkBits + 2 ^ s.sBlkBits ≤ 2 ^ 40 := by
    rw [State.block]
    rcases s.geometry_cases with ⟨h, _⟩ | ⟨h, _⟩ <;> rw [h] <;> omega
  rw [s.two_pow_sBlkBits] at e le
  have value : (BitVec.ofNat 40 ((s.blockBase pa).toNat + 16 * q + 8 * j)).toNat = (s.blockBase pa).toNat + 16 * q + 8 * j := by
    rw [BitVec.toNat_ofNat, Nat.mod_eq_of_lt (by omega)]
  refine ⟨BitVec.ofNat 40 ((s.blockBase pa).toNat + 16 * q + 8 * j), ?_, ?_, value⟩
  · rw [State.block, value, e, s.two_pow_sBlkBits]
    apply Nat.div_eq_of_lt_le
    · rw [← Nat.mul_assoc, Nat.mul_comm]; rcases s.geometry_cases with ⟨_, h⟩ | ⟨_, h⟩ <;> rw [h] at hq ⊢ <;> omega
    · rcases s.geometry_cases with ⟨_, h⟩ | ⟨_, h⟩ <;> rw [h] at hq ⊢ <;> omega
  · rw [s.sQuadIndex_eq, value, e]
    rcases s.geometry_cases with ⟨_, h⟩ | ⟨_, h⟩ <;> rw [h] at hq ⊢ <;> omega

/-! ## The outgoing buffer -/

/-- Memory after quadwords are written from an address on. -/
def quadsTo (be : Bool) (m : List Host.Cell) (base : Nat) : List QWord → List Host.Cell
  | [] => m
  | q :: l => quadsTo be (Memory.writeDouble be (Memory.writeDouble be m base 0xFF#8 (quadEven q)) (base + 8) 0xFF#8 (quadOdd q))
      (base + 16) l

/-- Memory after blocks of the outgoing buffer are sent, in the order of a list. -/
def blocksTo (be : Bool) (m : List Host.Cell) : List Outgoing → List Host.Cell
  | [] => m
  | o :: l => blocksTo be (quadsTo be m o.pa.toNat (o.quads.map Prod.fst)) l

/-- What memory holds once the outgoing buffer is empty. -/
def State.finalMem (s : State) : List Host.Cell := blocksTo s.memEnd s.mem (issueOrder s.bus.outgoing)

/-- The doubleword at an address then. -/
def State.finalDouble (s : State) (a : PAddr) : DWord := Memory.readDouble s.memEnd s.finalMem (a.toNat / 8 * 8)

theorem State.writeQuads_eq (l : List QWord) (s : State) (a : Nat) : s.writeQuads a l = s.setMem (quadsTo s.memEnd s.mem a l) := by
  induction l generalizing s a with
  | nil => rfl
  | cons q l ih => exact ih _ _

/-- Only memory and the record of what was sent change. -/
theorem State.issueOutgoing_eq (l : List Outgoing) (s : State) : ∃ sent, s.issueOutgoing l =
    { s with mem := blocksTo s.memEnd s.mem l, bus := { s.bus with sent := sent } } := by
  induction l generalizing s with
  | nil => exact ⟨_, rfl⟩
  | cons o l ih =>
    obtain ⟨sent, e⟩ := ih ((s.writeQuads o.pa.toNat (o.quads.map Prod.fst)).record o.issued)
    refine ⟨sent, e.trans ?_⟩
    rw [State.writeQuads_eq]
    rfl

theorem State.sendOutgoing_eq (s : State) : ∃ sent, s.sendOutgoing =
    { s with mem := s.finalMem, bus := { s.bus with sent := sent, outgoing := [] } } := by
  obtain ⟨sent, e⟩ := State.issueOutgoing_eq (issueOrder s.bus.outgoing) s
  exact ⟨sent, by rw [State.sendOutgoing, e]; rfl⟩

theorem State.sendOutgoing_mem (s : State) : s.sendOutgoing.mem = s.finalMem := by
  obtain ⟨sent, e⟩ := s.sendOutgoing_eq
  rw [e]

theorem blocksTo_append (be : Bool) (m : List Host.Cell) (l l' : List Outgoing) :
    blocksTo be m (l ++ l') = blocksTo be (blocksTo be m l) l' := by
  induction l generalizing m with
  | nil => rfl
  | cons o l ih => exact ih _

theorem wf_quadsTo {m : List Host.Cell} (h : Memory.wf m = true) (be : Bool) (base : Nat) (l : List QWord) :
    Memory.wf (quadsTo be m base l) = true := by
  induction l generalizing m base with
  | nil => exact h
  | cons q l ih => exact ih (Memory.wf_writeDouble (Memory.wf_writeDouble h _ _ _ _) _ _ _ _) _

theorem wf_blocksTo {m : List Host.Cell} (h : Memory.wf m = true) (be : Bool) (l : List Outgoing) : Memory.wf (blocksTo be m l) = true := by
  induction l generalizing m with
  | nil => exact h
  | cons o l ih => exact ih (wf_quadsTo h _ _ _)

theorem State.wf_finalMem {s : State} (h : s.canonical = true) : Memory.wf s.finalMem = true :=
  wf_blocksTo ((State.canonical_iff s).1 h).1 _ _

/-- Bytes outside the quadwords are as before. -/
theorem read_quadsTo_outside {m : List Host.Cell} (h : Memory.wf m = true) (be : Bool) {base x : Nat} {l : List QWord}
    (hx : x < base ∨ base + 16 * l.length ≤ x) : Memory.read (quadsTo be m base l) x = Memory.read m x := by
  induction l generalizing m base with
  | nil => rfl
  | cons q l ih =>
    rw [List.length_cons] at hx
    have h1 := Memory.wf_writeDouble h be base 0xFF#8 (quadEven q)
    rw [quadsTo, ih (Memory.wf_writeDouble h1 _ _ _ _) (by omega), Memory.read_writeDouble h1, if_neg (by omega),
      Memory.read_writeDouble h, if_neg (by omega)]

/-- A write of all lanes of a doubleword. -/
theorem Memory.readDouble_writeDouble_all {m : List Host.Cell} (h : Memory.wf m = true) (be : Bool) (base : Nat) (d : DWord) :
    Memory.readDouble be (Memory.writeDouble be m base 0xFF#8 d) base = d := by
  rw [Memory.readDouble_writeDouble_same h]
  apply BitVec.eq_of_getLsbD_eq
  intro i hi
  have all : (0xFF#8).getLsbD (i / 8) = true := by
    have : ∀ j < 8, (0xFF#8).getLsbD j = true := by decide
    exact this _ (by omega)
  rw [getLsbD_mergeMask, getLsbD_laneMask _ hi, all, if_pos rfl]

/-- The doublewords of the quadwords. -/
theorem readDouble_quadsTo {m : List Host.Cell} (h : Memory.wf m = true) (be : Bool) (base : Nat) {l : List QWord} {j : Nat} {q : QWord}
    (hj : l[j]? = some q) : Memory.readDouble be (quadsTo be m base l) (base + 16 * j) = quadEven q ∧
      Memory.readDouble be (quadsTo be m base l) (base + 16 * j + 8) = quadOdd q := by
  induction l generalizing m base j with
  | nil => cases hj
  | cons x l ih =>
    have h1 := Memory.wf_writeDouble h be base 0xFF#8 (quadEven x)
    have h2 := Memory.wf_writeDouble h1 be (base + 8) 0xFF#8 (quadOdd x)
    cases j with
    | zero =>
      cases hj
      have outside (b : Nat) (hb : b + 8 ≤ base + 16) : Memory.readDouble be (quadsTo be m base (q :: l)) b = Memory.readDouble be
          (Memory.writeDouble be (Memory.writeDouble be m base 0xFF#8 (quadEven q)) (base + 8) 0xFF#8 (quadOdd q)) b :=
        Memory.readDouble_congr fun y _ hy => read_quadsTo_outside h2 be (by omega)
      rw [outside _ (by omega), outside _ (by omega), Memory.readDouble_writeDouble_ne h1 _ (by omega), Nat.mul_zero, Nat.add_zero,
        Memory.readDouble_writeDouble_all h, Memory.readDouble_writeDouble_all h1]
      exact ⟨rfl, rfl⟩
    | succ j =>
      have := ih h2 (base + 16) (List.getElem?_cons_succ ▸ hj)
      rwa [show base + 16 + 16 * j = base + 16 * (j + 1) by omega] at this

/-- Bytes outside the blocks are as before. -/
theorem read_blocksTo_outside {m : List Host.Cell} (h : Memory.wf m = true) (be : Bool) {x : Nat} {l : List Outgoing}
    (hx : ∀ o ∈ l, x < o.pa.toNat ∨ o.pa.toNat + 16 * o.quads.length ≤ x) : Memory.read (blocksTo be m l) x = Memory.read m x := by
  induction l generalizing m with
  | nil => rfl
  | cons o l ih =>
    rw [blocksTo, ih (wf_quadsTo h _ _ _) fun p hp => hx p (List.mem_cons_of_mem _ hp),
      read_quadsTo_outside h be (by rw [List.length_map]; exact hx o List.mem_cons_self)]

theorem mem_issueOrder {o : Outgoing} {l : List Outgoing} : o ∈ issueOrder l ↔ o ∈ l := by
  unfold issueOrder
  cases h : o.kind.isWrite <;> simp [h]

/-- A block write that comes last goes out last. -/
theorem issueOrder_append_write {o : Outgoing} (h : o.kind.isWrite = true) (l : List Outgoing) :
    issueOrder (l ++ [o]) = issueOrder l ++ [o] := by
  simp [issueOrder, h, List.filter_append]

end Sys2Proof.Machine

end

section
/-! PROOFS. Coherent caches, said address by address: which line and which secondary block hold a doubleword, and what an access to an
address delivers (R267 to R290). -/

namespace Sys2Proof.Machine

/-! ## The geometry while modes stand -/

section
variable {s t : State} (h : s.Keeps t)
include h

theorem State.Keeps.scBlkSize_eq : t.scBlkSize = s.scBlkSize := by
  unfold State.scBlkSize
  rw [h.core.modeBits]

theorem State.Keeps.sQuads_eq : t.sQuads = s.sQuads := by
  unfold State.sQuads
  rw [h.scBlkSize_eq]

theorem State.Keeps.sBlkBits_eq : t.sBlkBits = s.sBlkBits := by
  unfold State.sBlkBits
  rw [h.scBlkSize_eq]

theorem State.Keeps.block_eq (a : PAddr) : t.block a = s.block a := by
  unfold State.block
  rw [h.sBlkBits_eq]

theorem State.Keeps.blockBase_eq (a : PAddr) : t.blockBase a = s.blockBase a := by
  unfold State.blockBase
  rw [h.sBlkBits_eq]

theorem State.Keeps.sKey_eq (a : PAddr) (w : Bool) : t.sKey a w = s.sKey a w := by
  unfold State.sKey State.sSet State.scSize
  rw [h.sBlkBits_eq, h.core.modeBits]

theorem State.Keeps.sQuadIndex_eq (a : PAddr) : t.sQuadIndex a = s.sQuadIndex a := by
  unfold State.sQuadIndex
  rw [h.sQuads_eq]

theorem State.Keeps.sBlockAddr_eq (g : BitVec 22) (a : PAddr) : t.sBlockAddr g a = s.sBlockAddr g a := h.blockBase_eq _
end

/-! ## Who holds an address -/

/-- Entry k of the data cache holds the data block at an address. -/
def State.dHas (s : State) (k : Nat) (a : PAddr) : Prop :=
  k < 1024 ∧ (s.dTagAt k).state ≠ .invalid ∧ lineOf (s.dAddr k) = lineOf a

/-- The tag in way w of the secondary set of an address. -/
def State.sTagFor (s : State) (w : Bool) (a : PAddr) : STag := s.sTagAt (s.sKey a w)

theorem State.sHolds_iff (s : State) (w : Bool) (a : PAddr) : s.sHolds w a ↔ (s.sTagFor w a).holds a = true := Iff.rfl

theorem State.sTagFor_of_block {s : State} {a b : PAddr} (h : s.block a = s.block b) (w : Bool) : s.sTagFor w a = s.sTagFor w b := by
  unfold State.sTagFor
  rw [State.sKey_of_block h]

/-- The secondary block that line k, which holds an address, lies in (R267, R268, R278, R290). -/
structure State.Included (s : State) (k : Nat) (a : PAddr) : Prop where
  held : s.sHolds (s.dTagAt k).scWay a
  pidx : (s.sTagFor (s.dTagAt k).scWay a).pidx.toNat = k / 256
  owned : (s.dTagAt k).inconsistent = true → (s.dTagAt k).state = .dirtyExclusive
  dirty : (s.dTagAt k).state = .dirtyExclusive → (s.sTagFor (s.dTagAt k).scWay a).state = .dirtyExclusive
  data : (s.dTagAt k).inconsistent = false → s.dDouble k (dIdx a) = s.sDouble (s.dTagAt k).scWay a

/-- Coherent caches in canonical storage, with an agent that answers at once. -/
structure State.Sound (s : State) : Prop where
  wf : s.canonical = true
  replies : s.bus.replies = []
  errAddrs : s.bus.errAddrs = []
  dTags : ∀ k < 1024, (s.dTagAt k).bad = false ∧ (s.dTagAt k).mod ≠ 0b100#3 ∧
    ((s.dTagAt k).state = .invalid → (s.dTagAt k).inconsistent = false)
  parity : ∀ k < 1024, (s.dTagAt k).state ≠ .invalid → s.dBlockOk k = true
  line : ∀ k a, s.dHas k a → s.Included k a
  dOnce : ∀ j k a, s.dHas j a → s.dHas k a → j = k
  sGood : ∀ k, (s.sTagAt k).ecc = .good ∧ ∀ q, (s.sQuadAt k q).check = .good
  sOnce : ∀ a v w, s.sHolds v a → s.sHolds w a → v = w
  sPlace : ∀ a w, (s.sTagFor w a).state ≠ .invalid → s.sKey (s.sBlockAddr (s.sTagFor w a).tag a) w = s.sKey a w
  outgoing : ∀ o ∈ s.bus.outgoing, o.pa = s.blockBase o.pa ∧ o.quads.length = s.sQuads
  clean : ∀ a w, s.sHolds w a → (s.sTagFor w a).state ≠ .dirtyExclusive → s.sDouble w a = s.finalDouble a

/-! ## What the arrays determine -/

theorem State.sTagAt_congr {s t : State} (h : t.caches.sTag = s.caches.sTag) (k : Nat) : t.sTagAt k = s.sTagAt k := by
  unfold State.sTagAt
  rw [h]

theorem State.dAddr_congr {s t : State} {k : Nat} (h : t.dTagAt k = s.dTagAt k) : t.dAddr k = s.dAddr k := by
  unfold State.dAddr
  rw [h]

theorem State.dHas_congr {s t : State} {k : Nat} (h : t.dTagAt k = s.dTagAt k) (a : PAddr) : t.dHas k a ↔ s.dHas k a := by
  unfold State.dHas
  rw [State.dAddr_congr h, h]

theorem State.dBlockOk_congr {s t : State} (h : t.caches.dData = s.caches.dData) (k : Nat) : t.dBlockOk k = s.dBlockOk k := by
  unfold State.dBlockOk
  simp only [State.dWordAt_congr h]

section
variable {s t : State} (h : s.Keeps t)
include h

theorem State.Keeps.sTagFor_eq (hs : t.caches.sTag = s.caches.sTag) (w : Bool) (a : PAddr) : t.sTagFor w a = s.sTagFor w a := by
  unfold State.sTagFor
  rw [State.sTagAt_congr hs, h.sKey_eq]

theorem State.Keeps.sQuadAt_eq (hs : t.caches.sData = s.caches.sData) (k q : Nat) : t.sQuadAt k q = s.sQuadAt k q := by
  unfold State.sQuadAt
  rw [hs, h.sQuads_eq]

theorem State.Keeps.sDouble_eq (hs : t.caches.sData = s.caches.sData) (w : Bool) (a : PAddr) : t.sDouble w a = s.sDouble w a := by
  unfold State.sDouble
  rw [h.sQuadAt_eq hs, h.sKey_eq, h.sQuadIndex_eq]

theorem State.Keeps.finalDouble_eq (hm : t.mem = s.mem) (ho : t.bus.outgoing = s.bus.outgoing) (a : PAddr) :
    t.finalDouble a = s.finalDouble a := by
  unfold State.finalDouble State.finalMem
  rw [h.core.memEnd_eq, hm, ho]
end

theorem State.sHolds_congr {s t : State} {w : Bool} {a : PAddr} (h : t.sTagFor w a = s.sTagFor w a) : t.sHolds w a ↔ s.sHolds w a := by
  rw [State.sHolds_iff, State.sHolds_iff, h]

/-! ## Coherent caches are sound, and back -/

theorem getLsbD_appendDouble (x y : DWord) (i : Nat) : BitVec.getLsbD (w := 128) (x ++ y) i = if i < 64 then y.getLsbD i else x.getLsbD (i - 64) :=
  BitVec.getLsbD_append

theorem eq_append_extractLsb' (q : QWord) : q = q.extractLsb' 64 64 ++ q.extractLsb' 0 64 := by
  apply BitVec.eq_of_getLsbD_eq
  intro i hi
  refine Eq.trans ?_ (getLsbD_appendDouble _ _ i).symm
  by_cases h : i < 64
  · simp [h]
  · simp [h, show i - 64 < 64 by omega, show 64 + (i - 64) = i by omega]

theorem quadEven_append (x y : DWord) : quadEven (x ++ y) = x := by
  apply BitVec.eq_of_getLsbD_eq
  intro i hi
  rw [quadEven, BitVec.getLsbD_extractLsb']
  refine (congrArg _ (getLsbD_appendDouble x y _)).trans ?_
  simp [hi]

theorem quadOdd_append (x y : DWord) : quadOdd (x ++ y) = y := by
  apply BitVec.eq_of_getLsbD_eq
  intro i hi
  rw [quadOdd, BitVec.getLsbD_extractLsb']
  refine (congrArg _ (getLsbD_appendDouble x y _)).trans ?_
  simp [hi]

theorem quadPart_append (x y : DWord) (a : PAddr) : quadPart (x ++ y) a = if a.toNat / 8 % 2 = 0 then x else y := by
  rw [quadPart_eq]
  split
  · exact quadEven_append x y
  · exact quadOdd_append x y

/-- The doublewords of a quadword of a block, by address. -/
theorem State.div_eight (s : State) (a : PAddr) :
    a.toNat / 8 * 8 = (s.blockBase a).toNat + 16 * s.sQuadIndex a + 8 * (a.toNat / 8 % 2) := by
  have e := s.div_sixteen a
  rw [s.toNat_blockBase, s.two_pow_sBlkBits]
  rcases s.geometry_cases with ⟨_, h⟩ | ⟨_, h⟩
  · rw [h] at e ⊢; omega
  · rw [h] at e ⊢; omega

/-- A block whose quadwords are those of memory, said by addresses. -/
theorem State.sDouble_eq_final_of_quads {s : State} {w : Bool} {a : PAddr} {q : QWord} (hq : (s.sQuadAt (s.sKey a w) (s.sQuadIndex a)).data = q)
    (h : q = Memory.readDouble s.memEnd s.finalMem ((s.blockBase a).toNat + 16 * s.sQuadIndex a) ++
      Memory.readDouble s.memEnd s.finalMem ((s.blockBase a).toNat + 16 * s.sQuadIndex a + 8)) : s.sDouble w a = s.finalDouble a := by
  rw [State.sDouble, hq, h, quadPart_append, State.finalDouble, s.div_eight a]
  split
  · next e => rw [e, Nat.mul_zero, Nat.add_zero]
  · next e => rw [show a.toNat / 8 % 2 = 1 by omega, Nat.mul_one]

theorem State.dAddr_line {s : State} {k : Nat} {a : PAddr} (h : s.dHas k a) : lineOf a = lineOf (s.dAddr k) := h.2.2.symm

theorem State.dHas_self {s : State} {k : Nat} (hk : k < 1024) (hv : (s.dTagAt k).state ≠ .invalid) : s.dHas k (s.dAddr k) := ⟨hk, hv, rfl⟩

/-- A doubleword of a line, as the quadword of the secondary block it lies in. -/
theorem State.sDouble_eq_of_line {s : State} {k : Nat} {a : PAddr} (h : lineOf a = lineOf (s.dAddr k)) (w : Bool) :
    s.sDouble w a = (s.sQuadAt (s.sKey (s.dAddr k) w) (s.sQuadIndex (s.dAddr k) + dIdx a / 2)).data.extractLsb'
      (if dIdx a % 2 = 0 then 64 else 0) 64 := by
  rw [State.sDouble, State.sKey_of_block (s.block_of_lineOf h), State.sQuadIndex_of_lineOf h, quadPart_eq_of_dIdx]

theorem dIdx_lt (a : PAddr) : dIdx a < 4 := Nat.mod_lt _ (by omega)

theorem State.Coherent.sound {s : State} (h : s.Coherent) (hc : s.canonical = true) (hr : s.bus.replies = []) (he : s.bus.errAddrs = []) :
    s.Sound where
  wf := hc
  replies := hr
  errAddrs := he
  dTags := h.dTags
  parity k hk hv := (h.inclusion k hk hv).2.2.1
  line k a hka := by
    obtain ⟨held, pidx, _, owned, dirty, data⟩ := h.inclusion k hka.1 hka.2.1
    have block := s.block_of_lineOf (State.dAddr_line hka)
    have tag : s.sTagFor (s.dTagAt k).scWay a = s.sTagAt (s.sKey (s.dAddr k) (s.dTagAt k).scWay) := State.sTagFor_of_block block _
    refine ⟨(State.sHolds_of_block block _).2 held, by rw [tag]; exact pidx, owned, by rw [tag]; exact dirty, fun hi => ?_⟩
    rw [data hi _ (dIdx_lt a), State.sDouble_eq_of_line (State.dAddr_line hka)]
  dOnce j k a hj hk := h.dOnce j hj.1 k hk.1 hj.2.1 hk.2.1 (State.dAddr_eq_of_lineOf (hj.2.2.trans hk.2.2.symm))
  sGood := h.sGood
  sOnce a v w hv hw := by
    have := h.sOnce a
    unfold State.sHolds at hv hw
    cases v <;> cases w <;> simp_all
  sPlace := h.sPlace
  outgoing := h.outgoing
  clean a w hw hs := by
    have := h.clean a w hw hs _ (s.sQuadIndex_lt a)
    rw [s.sendOutgoing_mem] at this
    exact State.sDouble_eq_final_of_quads rfl this

theorem State.Sound.coherent {s : State} (h : s.Sound) : s.Coherent where
  dTags := h.dTags
  inclusion k hk hv := by
    obtain ⟨held, pidx, owned, dirty, _⟩ := h.line k _ (State.dHas_self hk hv)
    refine ⟨held, pidx, h.parity k hk hv, owned, dirty, fun hi j hj => ?_⟩
    obtain ⟨a, line, rfl⟩ := s.exists_addr_of_dAddr k hj
    rw [(h.line k a ⟨hk, hv, line.symm⟩).data hi, State.sDouble_eq_of_line line]
  dOnce j hj k hk hvj hvk e := h.dOnce j k _ (State.dHas_self hj hvj) ⟨hk, hvk, congrArg lineOf e.symm⟩
  sGood := h.sGood
  sOnce a := by
    rw [← Bool.not_eq_true, Bool.and_eq_true]
    intro ⟨h0, h1⟩
    cases h.sOnce a _ _ h0 h1
  sPlace := h.sPlace
  outgoing := h.outgoing
  clean a w hw hs q hq := by
    have half (j : Nat) (hj : j < 2) : (s.sQuadAt (s.sKey a w) q).data.extractLsb' (if j = 0 then 64 else 0) 64 =
        Memory.readDouble s.memEnd s.finalMem ((s.blockBase a).toNat + 16 * q + 8 * j) := by
      obtain ⟨b, block, rfl, value⟩ := s.exists_addr_of_block a hq hj
      have clean := h.clean b w ((State.sHolds_of_block block w).2 hw) (by rw [State.sTagFor_of_block block]; exact hs)
      have base := s.toNat_blockBase a
      rw [s.two_pow_sBlkBits] at base
      have e : b.toNat / 8 * 8 = b.toNat ∧ b.toNat / 8 % 2 = j := by
        rcases s.geometry_cases with ⟨_, g⟩ | ⟨_, g⟩
        · rw [g] at base; omega
        · rw [g] at base; omega
      rw [State.sDouble, State.sKey_of_block block, quadPart_eq, e.2, State.finalDouble, e.1, value] at clean
      exact clean
    rw [s.sendOutgoing_mem]
    exact (eq_append_extractLsb' _).trans (congrArg₂ (fun x y : DWord => (x ++ y : QWord)) (half 0 (by omega)) (half 1 (by omega)))

/-! ## What an access to an address delivers -/

/-- The doubleword that a cached access to an address delivers: of the line that holds it, else of the secondary block, else of memory
once the outgoing buffer is empty. -/
structure State.Delivers (s : State) (a : PAddr) (v : DWord) : Prop where
  line : ∀ k, s.dHas k a → s.dDouble k (dIdx a) = v
  block : (∀ k, ¬ s.dHas k a) → ∀ w, s.sHolds w a → s.sDouble w a = v
  memory : (∀ w, ¬ s.sHolds w a) → s.finalDouble a = v

theorem State.Sound.exists_delivers {s : State} (h : s.Sound) (a : PAddr) : ∃ v, s.Delivers a v := by
  by_cases line : ∃ k, s.dHas k a
  · obtain ⟨k, hk⟩ := line
    refine ⟨s.dDouble k (dIdx a), fun j hj => ?_, fun none => absurd hk (none k), fun none => absurd (h.line k a hk).held (none _)⟩
    rw [h.dOnce j k a hj hk]
  by_cases block : ∃ w, s.sHolds w a
  · obtain ⟨w, hw⟩ := block
    refine ⟨s.sDouble w a, fun k hk => absurd ⟨k, hk⟩ line, fun _ v hv => ?_, fun none => absurd hw (none w)⟩
    rw [h.sOnce a v w hv hw]
  · exact ⟨s.finalDouble a, fun k hk => absurd ⟨k, hk⟩ line, fun _ w hw => absurd ⟨w, hw⟩ block, fun _ => rfl⟩

/-- From s to t only storage moved, and every address delivers what it delivered. -/
structure State.Evolves (s t : State) : Prop where
  keeps : s.Keeps t
  sound : t.Sound
  delivers : ∀ a v, s.Delivers a v → t.Delivers a v

theorem State.Sound.evolves_self {s : State} (h : s.Sound) : s.Evolves s := ⟨.refl s, h, fun _ _ => id⟩

theorem State.Evolves.trans {s t u : State} (h : s.Evolves t) (k : t.Evolves u) : s.Evolves u :=
  ⟨h.keeps.trans k.keeps, k.sound, fun a v hv => k.delivers a v (h.delivers a v hv)⟩

/-! ## Steps that leave the data and secondary caches and memory alone -/

/-- The data and secondary caches and the answers to come stand. -/
structure State.SameBlocks (s t : State) : Prop where
  keeps : s.Keeps t
  dTag : t.caches.dTag = s.caches.dTag
  dData : t.caches.dData = s.caches.dData
  sTag : t.caches.sTag = s.caches.sTag
  sData : t.caches.sData = s.caches.sData
  replies : t.bus.replies = s.bus.replies

section
variable {s t : State} (h : s.SameBlocks t)
include h

theorem State.SameBlocks.dTagAt_eq (k : Nat) : t.dTagAt k = s.dTagAt k := State.dTagAt_congr h.dTag k

theorem State.SameBlocks.sTagFor_eq (w : Bool) (a : PAddr) : t.sTagFor w a = s.sTagFor w a := h.keeps.sTagFor_eq h.sTag w a

theorem State.SameBlocks.sQuadAt_eq (k q : Nat) : t.sQuadAt k q = s.sQuadAt k q := h.keeps.sQuadAt_eq h.sData k q

theorem State.SameBlocks.dDouble_eq (k j : Nat) : t.dDouble k j = s.dDouble k j := State.dDouble_congr h.keeps.core.memEnd_eq h.dData k j

theorem State.SameBlocks.dHas_iff (k : Nat) (a : PAddr) : t.dHas k a ↔ s.dHas k a := State.dHas_congr (h.dTagAt_eq k) a

theorem State.SameBlocks.sHolds_iff (w : Bool) (a : PAddr) : t.sHolds w a ↔ s.sHolds w a := State.sHolds_congr (h.sTagFor_eq w a)

theorem State.SameBlocks.sDouble_eq (w : Bool) (a : PAddr) : t.sDouble w a = s.sDouble w a := h.keeps.sDouble_eq h.sData w a

/-- What stays to be said where memory and the outgoing buffer move. -/
theorem State.SameBlocks.sound (k : s.Sound) (outgoing : ∀ o ∈ t.bus.outgoing, o.pa = s.blockBase o.pa ∧ o.quads.length = s.sQuads)
    (clean : ∀ a w, s.sHolds w a → (s.sTagFor w a).state ≠ .dirtyExclusive → t.finalDouble a = s.finalDouble a) : t.Sound where
  wf := h.keeps.wf k.wf
  replies := h.replies.trans k.replies
  errAddrs := h.keeps.core.errAddrs.trans k.errAddrs
  dTags j hj := by
    rw [h.dTagAt_eq]
    exact k.dTags j hj
  parity j hj hv := by
    rw [h.dTagAt_eq] at hv
    rw [State.dBlockOk_congr h.dData]
    exact k.parity j hj hv
  line j a hj := by
    obtain ⟨held, pidx, owned, dirty, data⟩ := k.line j a ((h.dHas_iff j a).1 hj)
    constructor
    all_goals rw [h.dTagAt_eq]
    · exact (h.sHolds_iff _ a).2 held
    · rw [h.sTagFor_eq]; exact pidx
    · exact owned
    · rw [h.sTagFor_eq]; exact dirty
    · rw [h.dDouble_eq, h.sDouble_eq]; exact data
  dOnce i j a hi hj := k.dOnce i j a ((h.dHas_iff i a).1 hi) ((h.dHas_iff j a).1 hj)
  sGood j := by
    rw [State.sTagAt_congr h.sTag]
    exact ⟨(k.sGood j).1, fun q => by rw [h.sQuadAt_eq]; exact (k.sGood j).2 q⟩
  sOnce a v w hv hw := k.sOnce a v w ((h.sHolds_iff v a).1 hv) ((h.sHolds_iff w a).1 hw)
  sPlace a w hw := by
    rw [h.sTagFor_eq] at hw ⊢
    rw [h.keeps.sKey_eq, h.keeps.sKey_eq, h.keeps.sBlockAddr_eq]
    exact k.sPlace a w hw
  outgoing o ho := by
    rw [h.keeps.blockBase_eq, h.keeps.sQuads_eq]
    exact outgoing o ho
  clean a w hw hs := by
    rw [h.sTagFor_eq] at hs
    have held := (h.sHolds_iff w a).1 hw
    rw [h.sDouble_eq, clean a w held hs]
    exact k.clean a w held hs

theorem State.SameBlocks.evolves (sound : t.Sound)
    (memory : ∀ a v, s.Delivers a v → (∀ w, ¬ s.sHolds w a) → t.finalDouble a = v) : s.Evolves t := by
  refine ⟨h.keeps, sound, fun a v hv => ⟨fun j hj => ?_, fun none w hw => ?_, fun none => ?_⟩⟩
  · rw [h.dDouble_eq]
    exact hv.line j ((h.dHas_iff j a).1 hj)
  · rw [h.sDouble_eq]
    exact hv.block (fun j hj => none j ((h.dHas_iff j a).2 hj)) w ((h.sHolds_iff w a).1 hw)
  · exact memory a v hv fun w hw => none w ((h.sHolds_iff w a).2 hw)
end

/-- And so do memory and the outgoing buffer. -/
structure State.SameLines (s t : State) : Prop extends s.SameBlocks t where
  mem : t.mem = s.mem
  outgoing : t.bus.outgoing = s.bus.outgoing

theorem State.SameBlocks.refl (s : State) : s.SameBlocks s := ⟨.refl s, rfl, rfl, rfl, rfl, rfl⟩

theorem State.SameLines.refl (s : State) : s.SameLines s := ⟨.refl s, rfl, rfl⟩

theorem State.SameLines.trans {s t u : State} (h : s.SameLines t) (k : t.SameLines u) : s.SameLines u :=
  ⟨⟨h.keeps.trans k.keeps, k.dTag.trans h.dTag, k.dData.trans h.dData, k.sTag.trans h.sTag, k.sData.trans h.sData,
    k.replies.trans h.replies⟩, k.mem.trans h.mem, k.outgoing.trans h.outgoing⟩

theorem State.SameLines.ite {s t u : State} {c : Prop} [Decidable c] (h : s.SameLines t) (k : s.SameLines u) :
    s.SameLines (if c then t else u) := by
  split <;> assumption

section
variable {s t : State} (h : s.SameLines t)
include h

theorem State.SameLines.finalDouble_eq (a : PAddr) : t.finalDouble a = s.finalDouble a := h.keeps.finalDouble_eq h.mem h.outgoing a

theorem State.SameLines.evolves_of_sound (k : s.Sound) : s.Evolves t :=
  h.toSameBlocks.evolves (h.toSameBlocks.sound k (h.outgoing ▸ k.outgoing) fun a _ _ _ => h.finalDouble_eq a) fun a v hv none => by
    rw [h.finalDouble_eq]
    exact hv.memory none
end

/-! ## One entry of the data cache is rewritten -/

/-- From s to t entry k of the data cache was rewritten, and nothing else. -/
structure State.Rewrites (s t : State) (k : Nat) : Prop where
  keeps : s.Keeps t
  sTag : t.caches.sTag = s.caches.sTag
  sData : t.caches.sData = s.caches.sData
  mem : t.mem = s.mem
  bus : t.bus = s.bus
  other : ∀ j, j ≠ k → t.dTagAt j = s.dTagAt j ∧ (∀ i < 4, t.dDouble j i = s.dDouble j i) ∧ (s.dBlockOk j = true → t.dBlockOk j = true)

section
variable {s t : State} {k : Nat} (f : s.Rewrites t k)
include f

theorem State.Rewrites.sTagFor (v : Bool) (a : PAddr) : t.sTagFor v a = s.sTagFor v a := f.keeps.sTagFor_eq f.sTag v a

theorem State.Rewrites.sHolds (v : Bool) (a : PAddr) : t.sHolds v a ↔ s.sHolds v a := State.sHolds_congr (f.sTagFor v a)

theorem State.Rewrites.sDouble (v : Bool) (a : PAddr) : t.sDouble v a = s.sDouble v a := f.keeps.sDouble_eq f.sData v a

theorem State.Rewrites.finalDouble (a : PAddr) : t.finalDouble a = s.finalDouble a := f.keeps.finalDouble_eq f.mem (by rw [f.bus]) a

theorem State.Rewrites.dHas_other {j : Nat} (hj : j ≠ k) (a : PAddr) : t.dHas j a ↔ s.dHas j a := State.dHas_congr (f.other j hj).1 a

/-- The other entries stay included. -/
theorem State.Rewrites.included_other (h : s.Sound) {j : Nat} (e : j ≠ k) {a : PAddr} (hj : t.dHas j a) : t.Included j a := by
  obtain ⟨tag, double, _⟩ := f.other j e
  obtain ⟨held, pidx, owned, dirty, data⟩ := h.line j a ((f.dHas_other e a).1 hj)
  constructor
  all_goals rw [tag]
  · exact (f.sHolds _ a).2 held
  · rw [f.sTagFor]; exact pidx
  · exact owned
  · rw [f.sTagFor]; exact dirty
  · rw [double _ (dIdx_lt a), f.sDouble]; exact data

/-- What stays to be said of the entry that was rewritten. -/
theorem State.Rewrites.sound (h : s.Sound) (tag : (t.dTagAt k).bad = false ∧ (t.dTagAt k).mod ≠ 0b100#3 ∧
    ((t.dTagAt k).state = .invalid → (t.dTagAt k).inconsistent = false)) (parity : (t.dTagAt k).state ≠ .invalid → t.dBlockOk k = true)
    (line : ∀ a, t.dHas k a → t.Included k a) (alone : ∀ j a, t.dHas k a → s.dHas j a → j = k) : t.Sound where
  wf := f.keeps.wf h.wf
  replies := by
    rw [f.bus]
    exact h.replies
  errAddrs := f.keeps.core.errAddrs.trans h.errAddrs
  dTags j hj := by
    by_cases e : j = k
    · rw [e]
      exact tag
    · rw [(f.other j e).1]
      exact h.dTags j hj
  parity j hj hv := by
    by_cases e : j = k
    · rw [e] at hv ⊢
      exact parity hv
    · rw [(f.other j e).1] at hv
      exact (f.other j e).2.2 (h.parity j hj hv)
  line j a hj := by
    by_cases e : j = k
    · rw [e] at hj ⊢
      exact line a hj
    · exact f.included_other h e hj
  dOnce i j a hi hj := by
    by_cases ei : i = k
    · by_cases ej : j = k
      · rw [ei, ej]
      · exact absurd (alone j a (ei ▸ hi) ((f.dHas_other ej a).1 hj)) ej
    · by_cases ej : j = k
      · exact absurd (alone i a (ej ▸ hj) ((f.dHas_other ei a).1 hi)) ei
      · exact h.dOnce i j a ((f.dHas_other ei a).1 hi) ((f.dHas_other ej a).1 hj)
  sGood j := by
    rw [State.sTagAt_congr f.sTag]
    exact ⟨(h.sGood j).1, fun i => by rw [f.keeps.sQuadAt_eq f.sData]; exact (h.sGood j).2 i⟩
  sOnce a v x hv hx := h.sOnce a v x ((f.sHolds v a).1 hv) ((f.sHolds x a).1 hx)
  sPlace a v hv := by
    rw [f.sTagFor] at hv ⊢
    rw [f.keeps.sKey_eq, f.keeps.sKey_eq, f.keeps.sBlockAddr_eq]
    exact h.sPlace a v hv
  outgoing o ho := by
    rw [f.keeps.blockBase_eq, f.keeps.sQuads_eq]
    rw [f.bus] at ho
    exact h.outgoing o ho
  clean a v hv hs := by
    rw [f.sTagFor] at hs
    rw [f.sDouble, f.finalDouble]
    exact h.clean a v ((f.sHolds v a).1 hv) hs
end

end Sys2Proof.Machine

end

section
/-! PROOFS. Coherent caches stay coherent when a data block is written back and invalidated, and when the primary caches are purged of a
secondary block (R278, R290, R546, R553). -/

namespace Sys2Proof.Machine

/-! ## Write back -/

theorem wayKey_div (i : Nat) (w : Bool) : wayKey i w / 2 = i := by
  cases w
  · simp [wayKey]
  · simp [wayKey]; omega

theorem wayKey_lt {i n : Nat} (h : i < n) (w : Bool) : wayKey i w < 2 * n := by
  cases w <;> simp [wayKey] <;> omega

theorem State.dAddr_wayKey (s : State) (i : Nat) (w : Bool) : s.dAddr (wayKey i w) = dBlockAddr (s.dTagAt (wayKey i w)).tag i := by
  rw [State.dAddr, wayKey_div]

/-- An address of the two quadwords of a data block lies in it. -/
theorem State.lineOf_eq_of_quad {s : State} {k : Nat} {a : PAddr} (hb : s.block a = s.block (s.dAddr k))
    (hq : s.sQuadIndex a = s.sQuadIndex (s.dAddr k) ∨ s.sQuadIndex a = s.sQuadIndex (s.dAddr k) + 1) : lineOf (s.dAddr k) = lineOf a := by
  have ea := s.div_sixteen a
  have ed := s.div_sixteen (s.dAddr k)
  have aligned := s.toNat_dAddr k
  rw [lineOf, lineOf]
  rw [← hb] at ed
  generalize s.block a * s.sQuads = x at ea ed
  omega

/-- The doublewords of the quadword that holds an address of a data block. -/
theorem quadPart_pair (a : PAddr) (f : Nat → DWord) : quadPart (f (dIdx a / 2 * 2) ++ f (dIdx a / 2 * 2 + 1)) a = f (dIdx a) := by
  rw [quadPart_append, show a.toNat / 8 % 2 = dIdx a % 2 by rw [dIdx]; omega]
  split
  · next e => rw [show dIdx a / 2 * 2 = dIdx a by omega]
  · next e => rw [show dIdx a / 2 * 2 + 1 = dIdx a by omega]

/-- Two quadwords of a block are written. -/
def State.putPair (s : State) (k q : Nat) (x y : SQuad) : State := (s.setSQuad k q x).setSQuad k (q + 1) y

theorem State.putPair_keeps (s : State) (k q : Nat) (x y : SQuad) : s.Keeps (s.putPair k q x y) :=
  (s.setSQuad_keeps _ _ _).trans (State.setSQuad_keeps _ _ _ _)

theorem State.sQuadAt_putPair_raw {s : State} (h : s.canonical = true) (k q : Nat) (x y : SQuad) (j i : Nat) :
    (s.putPair k q x y).sQuadAt j i = if s.sQuads * j + i = s.sQuads * k + (q + 1) then y
      else if s.sQuads * j + i = s.sQuads * k + q then x else s.sQuadAt j i :=
  (State.sQuadAt_setSQuad ((s.setSQuad_keeps _ _ _).wf h) _ _ j i _).trans (by rw [State.sQuadAt_setSQuad h]; rfl)

theorem State.sQuadAt_putPair {s : State} (h : s.canonical = true) {k q : Nat} (x y : SQuad) {j i : Nat} (hq : q + 1 < s.sQuads)
    (hi : i < s.sQuads) : (s.putPair k q x y).sQuadAt j i = if j = k ∧ i = q + 1 then y else if j = k ∧ i = q then x else s.sQuadAt j i := by
  have one (n : Nat) (hn : n < s.sQuads) : s.sQuads * j + i = s.sQuads * k + n ↔ j = k ∧ i = n :=
    ⟨State.sQuads_inj hn hi, fun ⟨e, e'⟩ => by rw [e, e']⟩
  rw [State.sQuadAt_putPair_raw h]
  simp only [one _ hq, one q (by omega)]

theorem State.sDouble_putPair {s : State} (h : s.canonical = true) {k q : Nat} (x y : SQuad) (w : Bool) (a : PAddr) (hq : q + 1 < s.sQuads) :
    (s.putPair k q x y).sDouble w a = if s.sKey a w = k ∧ s.sQuadIndex a = q + 1 then quadPart y.data a
      else if s.sKey a w = k ∧ s.sQuadIndex a = q then quadPart x.data a else s.sDouble w a := by
  have at_ : (s.putPair k q x y).sDouble w a = quadPart ((s.putPair k q x y).sQuadAt (s.sKey a w) (s.sQuadIndex a)).data a := rfl
  rw [at_, State.sQuadAt_putPair h x y hq (s.sQuadIndex_lt a), apply_ite SQuad.data, apply_ite SQuad.data, apply_ite (quadPart · a),
    apply_ite (quadPart · a)]
  rfl

/-- From s to u the data of line k reached the secondary block it lies in, and nothing else moved in the secondary cache, in the data of the
data cache, in memory and on the bus. -/
structure State.WroteBack (s u : State) (k : Nat) : Prop where
  keeps : s.Keeps u
  dData : u.caches.dData = s.caches.dData
  sTag : u.caches.sTag = s.caches.sTag
  mem : u.mem = s.mem
  bus : u.bus = s.bus
  good : ∀ j q, (u.sQuadAt j q).check = .good
  held : ∀ w a, s.sHolds w a → s.dHas k a → w = (s.dTagAt k).scWay → u.sDouble w a = s.dDouble k (dIdx a)
  other : ∀ w a, s.sHolds w a → ¬ (s.dHas k a ∧ w = (s.dTagAt k).scWay) → u.sDouble w a = s.sDouble w a

theorem State.Sound.valid_of_inconsistent {s : State} (h : s.Sound) {k : Nat} (hk : k < 1024) (hi : (s.dTagAt k).inconsistent = true) :
    (s.dTagAt k).state ≠ .invalid := fun e => by
  rw [(h.dTags k hk).2.2 e] at hi
  cases hi

theorem State.Sound.wroteBack {s : State} (h : s.Sound) {i : Nat} (hi : i < 512) (w : Bool) :
    s.WroteBack (s.dWriteBack i w) (wayKey i w) ∧ (s.dWriteBack i w).caches.dTag = s.caches.dTag := by
  have hk := wayKey_lt hi w
  unfold State.dWriteBack
  dsimp only
  rw [← s.dAddr_wayKey]
  generalize wayKey i w = k at hk ⊢
  by_cases inconsistent : (s.dTagAt k).inconsistent = true
  · have valid := h.valid_of_inconsistent hk inconsistent
    have heldBlock := (h.line k _ (State.dHas_self hk valid)).held
    rw [if_pos inconsistent, if_pos (h.parity k hk valid)]
    have bound := s.sQuadIndex_dAddr_lt k
    have double (v : Bool) (a : PAddr) := State.sDouble_putPair h.wf (k := s.sKey (s.dAddr k) (s.dTagAt k).scWay)
      ⟨s.dDouble k 0 ++ s.dDouble k 1, .good⟩ ⟨s.dDouble k 2 ++ s.dDouble k 3, .good⟩ v a bound
    refine ⟨⟨s.putPair_keeps _ _ _ _, rfl, rfl, rfl, rfl, fun j q => ?_, fun v a hv line e => ?_, fun v a hv other => ?_⟩, rfl⟩
    · refine (congrArg SQuad.check (State.sQuadAt_putPair_raw h.wf _ _ _ _ j q)).trans ?_
      split
      · rfl
      · split
        · rfl
        · exact (h.sGood j).2 q
    · refine (double v a).trans ?_
      have four := dIdx_lt a
      have pair := quadPart_pair a (s.dDouble k)
      rw [e, State.sKey_of_block (s.block_of_lineOf (State.dAddr_line line)), State.sQuadIndex_of_lineOf (State.dAddr_line line)]
      have half : dIdx a / 2 = 0 ∨ dIdx a / 2 = 1 := by omega
      rcases half with half | half <;> rw [half] at pair ⊢
      · rw [if_neg (by omega), if_pos ⟨rfl, rfl⟩]
        exact pair
      · rw [if_pos ⟨rfl, rfl⟩]
        exact pair
    · have outside (q : Nat) (hq : q = s.sQuadIndex (s.dAddr k) ∨ q = s.sQuadIndex (s.dAddr k) + 1) :
          ¬ (s.sKey a v = s.sKey (s.dAddr k) (s.dTagAt k).scWay ∧ s.sQuadIndex a = q) := by
        rintro ⟨key, rfl⟩
        have block := State.block_eq_of_holds (t := s.sTagFor v a) key hv (by
          unfold State.sTagFor
          rw [key]
          exact heldBlock)
        exact other ⟨⟨hk, valid, State.lineOf_eq_of_quad block hq⟩, State.way_eq_of_sKey key⟩
      exact (double v a).trans ((if_neg (outside _ (.inr rfl))).trans (if_neg (outside _ (.inl rfl))))
  · rw [if_neg inconsistent]
    refine ⟨⟨.refl s, rfl, rfl, rfl, rfl, fun j q => (h.sGood j).2 q, fun v a hv line e => ?_, fun _ _ _ _ => rfl⟩, rfl⟩
    rw [e, (h.line k a line).data (by simpa using inconsistent)]

/-! ## A line goes -/

/-- The tag of an invalidated data block. -/
def DTag.gone (t : DTag) : DTag := { t with state := .invalid, scWay := false, mod := 0b001#3, stateParity := false }

theorem DTag.bad_eq_false_iff (t : DTag) : t.bad = false ↔
    parityBit t.tag = t.tagParity ∧ dStateParity t.state t.scWay = t.stateParity ∧ t.modOk = true := by
  simp [DTag.bad, DTag.errors, and_assoc]

theorem DTag.gone_bad {t : DTag} (h : t.bad = false) : t.gone.bad = false :=
  (DTag.bad_eq_false_iff _).2 ⟨((DTag.bad_eq_false_iff t).1 h).1,
    show dStateParity .invalid false = false by decide, show (0b001#3 == 0b001#3 || 0b001#3 == 0b010#3 || 0b001#3 == 0b100#3) = true by decide⟩

/-- The primary line k is written back and invalidated: what addresses deliver stands, and so do the secondary tags, memory and the
bus (R546). -/
structure State.Drops (s t : State) (k : Nat) : Prop where
  evolves : s.Evolves t
  dTagAt : ∀ j, t.dTagAt j = if j = k then (s.dTagAt k).gone else s.dTagAt j
  sTagFor : ∀ w a, t.sTagFor w a = s.sTagFor w a
  mem : t.mem = s.mem
  bus : t.bus = s.bus

/-- From s to t line k was written back and its tag invalidated. -/
structure State.Retired (s t : State) (k : Nat) : Prop extends s.WroteBack t k where
  tag : ∀ j, t.dTagAt j = if j = k then (s.dTagAt k).gone else s.dTagAt j

theorem State.Sound.retired {s : State} (h : s.Sound) {i : Nat} (hi : i < 512) (w : Bool) :
    s.Retired ((s.dWriteBack i w).dInvalidate (wayKey i w)) (wayKey i w) := by
  obtain ⟨back, dTag⟩ := h.wroteBack hi w
  generalize s.dWriteBack i w = u at back dTag
  generalize wayKey i w = k at back
  refine ⟨⟨back.keeps.trans (u.dInvalidate_keeps k), back.dData, back.sTag, back.mem, back.bus, back.good, back.held, back.other⟩, fun j => ?_⟩
  rw [← State.dTagAt_congr dTag j, ← State.dTagAt_congr dTag k]
  exact State.dTagAt_setDTag (back.keeps.wf h.wf) k j _

section
variable {s t : State} {k : Nat} (d : s.Retired t k)
include d

theorem State.Retired.tag_other {j : Nat} (hj : j ≠ k) : t.dTagAt j = s.dTagAt j := (d.tag j).trans (if_neg hj)

theorem State.Retired.ne {j : Nat} (hj : (t.dTagAt j).state ≠ .invalid) : j ≠ k := by
  rintro rfl
  rw [d.tag, if_pos rfl] at hj
  exact hj rfl

theorem State.Retired.dHas_iff (j : Nat) (a : PAddr) : t.dHas j a ↔ s.dHas j a ∧ j ≠ k := by
  constructor
  · intro hj
    have e := d.ne hj.2.1
    exact ⟨(State.dHas_congr (d.tag_other e) a).1 hj, e⟩
  · intro ⟨hj, e⟩
    exact (State.dHas_congr (d.tag_other e) a).2 hj

theorem State.Retired.sTagFor (w : Bool) (a : PAddr) : t.sTagFor w a = s.sTagFor w a := d.keeps.sTagFor_eq d.sTag w a

theorem State.Retired.sHolds (w : Bool) (a : PAddr) : t.sHolds w a ↔ s.sHolds w a := State.sHolds_congr (d.sTagFor w a)

theorem State.Retired.dDouble (j i : Nat) : t.dDouble j i = s.dDouble j i := State.dDouble_congr d.keeps.core.memEnd_eq d.dData j i

theorem State.Retired.finalDouble (a : PAddr) : t.finalDouble a = s.finalDouble a := d.keeps.finalDouble_eq d.mem (by rw [d.bus]) a

variable (h : s.Sound)
include h

/-- A block that is not owned has the data it had. -/
theorem State.Retired.sDouble {w : Bool} {a : PAddr} (hw : s.sHolds w a) (hs : (s.sTagFor w a).state ≠ .dirtyExclusive) :
    t.sDouble w a = s.sDouble w a := by
  by_cases c : s.dHas k a ∧ w = (s.dTagAt k).scWay
  · obtain ⟨line, rfl⟩ := c
    obtain ⟨_, _, owned, dirty, data⟩ := h.line k a line
    have consistent : (s.dTagAt k).inconsistent = false := by
      rw [← Bool.not_eq_true]
      exact fun e => hs (dirty (owned e))
    exact (d.held _ _ hw line rfl).trans (data consistent)
  · exact d.other _ _ hw c

theorem State.Retired.included {j : Nat} {a : PAddr} (hj : t.dHas j a) : t.Included j a := by
  obtain ⟨line, e⟩ := (d.dHas_iff j a).1 hj
  obtain ⟨held, pidx, owned, dirty, data⟩ := h.line j a line
  constructor
  all_goals rw [d.tag_other e]
  · exact (d.sHolds _ _).2 held
  · rw [d.sTagFor]; exact pidx
  · exact owned
  · rw [d.sTagFor]; exact dirty
  · intro c
    rw [d.dDouble, data c]
    exact (d.other _ _ held fun c => e (h.dOnce _ _ _ line c.1)).symm

theorem State.Retired.sound (hk : k < 1024) : t.Sound where
  wf := d.keeps.wf h.wf
  replies := by
    rw [d.bus]
    exact h.replies
  errAddrs := d.keeps.core.errAddrs.trans h.errAddrs
  dTags j hj := by
    by_cases e : j = k
    · rw [d.tag, if_pos e]
      exact ⟨DTag.gone_bad (h.dTags k hk).1, show (0b001#3) ≠ 0b100#3 by decide, fun _ => rfl⟩
    · rw [d.tag_other e]
      exact h.dTags j hj
  parity j hj hv := by
    rw [State.dBlockOk_congr d.dData]
    exact h.parity j hj (d.tag_other (d.ne hv) ▸ hv)
  line _ _ hj := d.included h hj
  dOnce i j a hi hj := h.dOnce i j a ((d.dHas_iff i a).1 hi).1 ((d.dHas_iff j a).1 hj).1
  sGood j := by
    rw [State.sTagAt_congr d.sTag]
    exact ⟨(h.sGood j).1, d.good j⟩
  sOnce a v w hv hw := h.sOnce a v w ((d.sHolds v a).1 hv) ((d.sHolds w a).1 hw)
  sPlace a w hw := by
    rw [d.sTagFor] at hw ⊢
    rw [d.keeps.sKey_eq, d.keeps.sKey_eq, d.keeps.sBlockAddr_eq]
    exact h.sPlace a w hw
  outgoing o ho := by
    rw [d.keeps.blockBase_eq, d.keeps.sQuads_eq]
    exact h.outgoing o (d.bus ▸ ho)
  clean a w hw hs := by
    rw [d.sTagFor] at hs
    have held := (d.sHolds w a).1 hw
    rw [d.sDouble h held hs, d.finalDouble]
    exact h.clean a w held hs

theorem State.Retired.delivers {a : PAddr} {v : DWord} (hv : s.Delivers a v) : t.Delivers a v := by
  refine ⟨fun j hj => ?_, fun none w hw => ?_, fun none => ?_⟩
  · rw [d.dDouble]
    exact hv.line j ((d.dHas_iff j a).1 hj).1
  · have held := (d.sHolds w a).1 hw
    by_cases line : s.dHas k a
    · have way : w = (s.dTagAt k).scWay := h.sOnce a _ _ held (h.line k a line).held
      exact (d.held w a held line way).trans (hv.line k line)
    · have lines (j : Nat) : ¬ s.dHas j a := fun hj => none j ((d.dHas_iff j a).2 ⟨hj, fun e => line (e ▸ hj)⟩)
      exact (d.other w a held fun c => line c.1).trans (hv.block lines w held)
  · rw [d.finalDouble]
    exact hv.memory fun w hw => none w ((d.sHolds w a).2 hw)
end

theorem State.Sound.drops {s : State} (h : s.Sound) {i : Nat} (hi : i < 512) (w : Bool) :
    s.Drops ((s.dWriteBack i w).dInvalidate (wayKey i w)) (wayKey i w) := by
  have d := h.retired hi w
  exact ⟨⟨d.keeps, d.sound h (wayKey_lt hi w), fun _ _ => d.delivers h⟩, d.tag, d.sTagFor, d.mem, d.bus⟩

end Sys2Proof.Machine

end

section
/-! PROOFS. Coherent caches when the primary caches are purged of a secondary block (R278, R290, R553). -/

namespace Sys2Proof.Machine

/-- From s to t primary lines went, and nothing else moved in the secondary tags, in memory and in the outgoing buffer. -/
structure State.Purged (s t : State) : Prop where
  evolves : s.Evolves t
  dHas : ∀ k a, t.dHas k a → s.dHas k a
  sTagFor : ∀ w a, t.sTagFor w a = s.sTagFor w a
  mem : t.mem = s.mem
  outgoing : t.bus.outgoing = s.bus.outgoing

theorem State.Purged.trans {s t u : State} (h : s.Purged t) (k : t.Purged u) : s.Purged u :=
  ⟨h.evolves.trans k.evolves, fun j a hj => h.dHas j a (k.dHas j a hj), fun w a => (k.sTagFor w a).trans (h.sTagFor w a),
    k.mem.trans h.mem, k.outgoing.trans h.outgoing⟩

theorem State.SameLines.purged {s t : State} (h : s.SameLines t) (k : s.Sound) : s.Purged t :=
  ⟨h.evolves_of_sound k, fun j a => (h.dHas_iff j a).1, h.sTagFor_eq, h.mem, h.outgoing⟩

theorem State.Purged.ite {s t u : State} {c : Prop} [Decidable c] (h : s.Purged t) (k : s.Purged u) : s.Purged (if c then t else u) := by
  split <;> assumption

theorem State.Sound.purged_self {s : State} (h : s.Sound) : s.Purged s := ⟨h.evolves_self, fun _ _ => id, fun _ _ => rfl, rfl, rfl⟩

theorem State.Drops.dHas {s t : State} {k : Nat} (h : s.Drops t k) {j : Nat} {a : PAddr} (hj : t.dHas j a) : s.dHas j a ∧ j ≠ k := by
  have tag := h.dTagAt j
  have ne : j ≠ k := by
    rintro rfl
    have := hj.2.1
    rw [tag, if_pos rfl] at this
    exact this rfl
  rw [if_neg ne] at tag
  unfold State.dHas State.dAddr at hj ⊢
  rw [tag] at hj
  exact ⟨hj, ne⟩

theorem State.Drops.purged {s t : State} {k : Nat} (h : s.Drops t k) : s.Purged t :=
  ⟨h.evolves, fun _ _ hj => (h.dHas hj).1, h.sTagFor, h.mem, by rw [h.bus]⟩

/-! ## One set -/

theorem State.dHas_wayKey {s : State} {i : Nat} {w : Bool} {pa : PAddr} (h : s.dHas (wayKey i w) pa) :
    (s.dTagAt (wayKey i w)).state ≠ .invalid ∧ (s.dTagAt (wayKey i w)).tag = pageOf pa :=
  ⟨h.2.1, ((lineOf_dAddr_eq_iff s _ pa).1 h.2.2).1⟩

theorem State.Sound.dPurge {s : State} (h : s.Sound) {i : Nat} (hi : i < 512) (pa : PAddr) (w : Bool) :
    s.Purged (s.dPurge .inconsistent i pa w) ∧ ¬ (s.dPurge .inconsistent i pa w).dHas (wayKey i w) pa := by
  unfold State.dPurge
  dsimp only
  split
  · have drops := h.drops hi w
    have same : (if Purge.inconsistent.writes (s.dTagAt (wayKey i w)) = true then s.dWriteBack i w else s) = s.dWriteBack i w := by
      unfold State.dWriteBack Purge.writes
      dsimp only
      split
      · rfl
      · rfl
    rw [same]
    exact ⟨drops.purged, fun hk => (drops.dHas hk).2 rfl⟩
  · next c =>
    refine ⟨h.purged_self, fun hk => c ?_⟩
    obtain ⟨valid, tag⟩ := State.dHas_wayKey hk
    simp [valid, tag]

theorem State.Sound.checkDTags_eq {s : State} (h : s.Sound) {i : Nat} (hi : i < 512) (x : BitVec 11) : s.checkDTags i x = s := by
  have good (w : Bool) : (s.dTagAt (wayKey i w)).bad = false := (h.dTags _ (wayKey_lt hi w)).1
  unfold State.checkDTags
  dsimp only
  rw [good, good]
  rfl

theorem State.Sound.dPurgeSet {s : State} (h : s.Sound) {i : Nat} (hi : i < 512) (pa : PAddr) :
    s.Purged (s.dPurgeSet .inconsistent i pa) ∧ ∀ w, ¬ (s.dPurgeSet .inconsistent i pa).dHas (wayKey i w) pa := by
  unfold State.dPurgeSet
  rw [h.checkDTags_eq hi]
  obtain ⟨first, none0⟩ := h.dPurge hi pa false
  obtain ⟨second, none1⟩ := first.evolves.sound.dPurge hi pa true
  refine ⟨first.trans second, fun w hk => ?_⟩
  cases w with
  | false => exact none0 (second.dHas _ _ hk)
  | true => exact none1 hk

theorem State.postI_sameLines (s : State) (w : Word) : s.SameLines (s.postI w) := by
  refine ⟨⟨s.postI_keeps w, ?_, ?_, ?_, ?_, ?_⟩, ?_, ?_⟩ <;> unfold State.postI <;> split <;> rfl

theorem State.pulseUnc_sameLines (s : State) (b : Bool) : s.SameLines (s.pulseUnc b) := ⟨⟨s.pulseUnc_keeps b, rfl, rfl, rfl, rfl, rfl⟩, rfl, rfl⟩

theorem State.checkITags_sameLines (s : State) (i : Nat) : s.SameLines (s.checkITags i) := by
  unfold State.checkITags
  exact .ite ((s.pulseUnc_sameLines true).trans (State.postI_sameLines _ _)) (.refl s)

theorem State.iPurge_sameLines (s : State) (i : Nat) (pa : PAddr) (w : Bool) : s.SameLines (s.iPurge i pa w) :=
  .ite ⟨⟨s.iInvalidate_keeps _, rfl, rfl, rfl, rfl, rfl⟩, rfl, rfl⟩ (.refl s)

theorem State.Sound.iPurgeSet {s : State} (h : s.Sound) (i : Nat) (pa : PAddr) : s.Purged (s.iPurgeSet i pa) := by
  have first := (s.checkITags_sameLines i).purged h
  have second := (State.iPurge_sameLines (s.checkITags i) i pa false).purged first.evolves.sound
  exact (first.trans second).trans ((State.iPurge_sameLines _ i pa true).purged second.evolves.sound)

/-! ## A block -/

theorem toNat_aliasVa (p : BitVec 2) (pa : PAddr) : (aliasVa p pa).toNat = p.toNat * 4096 + pa.toNat % 4096 := by
  have low : (pa.extractLsb' 0 12).toNat = pa.toNat % 4096 := by
    rw [BitVec.extractLsb'_toNat, Nat.shiftRight_zero]
  have lt := p.isLt
  rw [aliasVa, BitVec.toNat_append, BitVec.toNat_append, low, BitVec.toNat_ofNat, Nat.zero_mod, Nat.zero_shiftLeft, Nat.zero_or,
    ← Nat.shiftLeft_add_eq_or_of_lt (show pa.toNat % 4096 < 2 ^ 12 by omega), Nat.shiftLeft_eq]

theorem dSet_eq (va : DWord) : dSet va = va.toNat / 32 % 512 := by
  rw [dSet, BitVec.extractLsb'_toNat, Nat.shiftRight_eq_div_pow]

theorem dSet_lt (va : DWord) : dSet va < 512 := by
  rw [dSet_eq]
  omega

/-- The data set of an address under PIdx bits (R278). -/
theorem dSet_aliasVa (p : BitVec 2) (pa : PAddr) : dSet (aliasVa p pa) = p.toNat * 128 + pa.toNat / 32 % 128 := by
  have lt := p.isLt
  rw [dSet_eq, toNat_aliasVa]
  omega

theorem eq_wayKey (k : Nat) : ∃ w, k = wayKey (k / 2) w := by
  rcases Nat.mod_two_eq_zero_or_one k with e | e
  · exact ⟨false, by simp [wayKey]; omega⟩
  · exact ⟨true, by simp [wayKey]; omega⟩

/-- The entry that holds a line under PIdx bits. -/
theorem State.key_of_dHas {s : State} {k : Nat} {a pa : PAddr} {p : BitVec 2} (h : s.dHas k a) (hp : k / 256 = p.toNat)
    (ha : lineOf a = lineOf pa) : ∃ w, k = wayKey (dSet (aliasVa p pa)) w := by
  obtain ⟨w, e⟩ := eq_wayKey k
  have set := ((lineOf_dAddr_eq_iff s k pa).1 (h.2.2.trans ha)).2
  rw [dSet_aliasVa]
  exact ⟨w, e.trans (congrArg (wayKey · w) (by omega))⟩

theorem State.Sound.purgeFrom {p : BitVec 2} (n : Nat) {s : State} (h : s.Sound) {pa : PAddr} (hpa : pa.toNat % 32 = 0)
    (hb : pa.toNat + 32 * n ≤ 2 ^ 40) : s.Purged (s.purgeFrom .inconsistent p pa n) ∧
      ∀ k a, (s.purgeFrom .inconsistent p pa n).dHas k a → k / 256 = p.toNat → lineOf a < lineOf pa ∨ lineOf pa + n ≤ lineOf a := by
  induction n generalizing s pa with
  | zero => exact ⟨h.purged_self, fun k a _ _ => by omega⟩
  | succ n ih =>
    obtain ⟨first, none⟩ := h.dPurgeSet (dSet_lt (aliasVa p pa)) pa
    have inner : (s.dPurgeSet .inconsistent (dSet (aliasVa p pa)) pa).Purged (if pa.getLsbD 5 then
        s.dPurgeSet .inconsistent (dSet (aliasVa p pa)) pa
      else (s.dPurgeSet .inconsistent (dSet (aliasVa p pa)) pa).iPurgeSet (iSet (aliasVa p pa)) pa) :=
      .ite first.evolves.sound.purged_self (first.evolves.sound.iPurgeSet _ pa)
    unfold State.purgeFrom
    dsimp only
    generalize (if pa.getLsbD 5 then _ else _ : State) = u at inner ⊢
    have second := first.trans inner
    have next : (pa + 32#40).toNat = (pa.toNat + 32) % 2 ^ 40 := BitVec.toNat_add _ _
    obtain ⟨rest, beyond⟩ := ih second.evolves.sound (pa := pa + 32#40) (by omega) (by omega)
    refine ⟨second.trans rest, fun k a hk hp => ?_⟩
    have later := beyond k a hk hp
    have notHere : lineOf a ≠ lineOf pa := by
      intro e
      obtain ⟨w, rfl⟩ := State.key_of_dHas hk hp e
      have here : u.dHas (wayKey (dSet (aliasVa p pa)) w) a := rest.dHas _ _ hk
      exact none w (inner.dHas _ _ ⟨here.1, here.2.1, here.2.2.trans e⟩)
    unfold lineOf at later notHere ⊢
    by_cases last : n = 0
    · omega
    · omega

/-- After a purge no line of the block is left under these PIdx bits (R278). -/
theorem State.Sound.purge {s : State} (h : s.Sound) (p : BitVec 2) (pa : PAddr) : s.Purged (s.purge .inconsistent p pa) ∧
    ∀ k a, (s.purge .inconsistent p pa).dHas k a → k / 256 = p.toNat → s.block a ≠ s.block pa := by
  have base := s.toNat_blockBase pa
  have lt := pa.isLt
  have geometry : 2 ^ s.sBlkBits = 32 * 2 ^ (s.sBlkBits - 5) := by
    rcases s.geometry_cases with ⟨e, _⟩ | ⟨e, _⟩ <;> rw [e] <;> rfl
  have bound : s.block pa * 2 ^ s.sBlkBits + 2 ^ s.sBlkBits ≤ 2 ^ 40 := by
    rw [State.block]
    rcases s.geometry_cases with ⟨e, _⟩ | ⟨e, _⟩ <;> rw [e] <;> omega
  have aligned : (s.blockBase pa).toNat % 32 = 0 := by
    rw [base]
    rcases s.geometry_cases with ⟨e, _⟩ | ⟨e, _⟩ <;> rw [e] <;> omega
  obtain ⟨purged, beyond⟩ := h.purgeFrom (p := p) (2 ^ (s.sBlkBits - 5)) aligned (by rw [base, ← geometry]; exact bound)
  refine ⟨purged, fun k a hk hp same => ?_⟩
  have outside := beyond k a hk hp
  unfold lineOf at outside
  rw [base] at outside
  rw [State.block, State.block] at same
  rw [State.block] at outside
  rcases s.geometry_cases with ⟨e, _⟩ | ⟨e, _⟩ <;> rw [e] at same outside <;> omega

end Sys2Proof.Machine

end

section
/-! PROOFS. Coherent caches when the tag of a secondary block is rewritten or goes, and when a block is cast out (R276, R278, R296, R344). -/

namespace Sys2Proof.Machine

/-! ## A tag is rewritten -/

theorem State.sTagFor_setSTag {s : State} (h : s.canonical = true) (k : Nat) (t : STag) (w : Bool) (a : PAddr) :
    (s.setSTag k t).sTagFor w a = if s.sKey a w = k then t else s.sTagFor w a := State.sTagAt_setSTag h k _ t

/-- Two addresses under one key have one tag. -/
theorem State.sTagFor_of_sKey {s : State} {a b : PAddr} {v w : Bool} (h : s.sKey a v = s.sKey b w) : s.sTagFor v a = s.sTagFor w b := by
  unfold State.sTagFor
  rw [h]

theorem State.Sound.sGood_setSTag {s : State} (h : s.Sound) (j : Nat) {t : STag} (ht : t.ecc = .good) (k : Nat) :
    ((s.setSTag j t).sTagAt k).ecc = .good := by
  rw [State.sTagAt_setSTag h.wf]
  split
  · exact ht
  · exact (h.sGood k).1

/-- The tag of a block that a way holds takes a state, or other PIdx bits once no line of the block is left (R276, R278). -/
theorem State.Sound.retag {s : State} (h : s.Sound) {w : Bool} {pa : PAddr} (hw : s.sHolds w pa) {p : BitVec 2} {st : BlockState}
    (hs : st = (s.sTagFor w pa).state ∨ st = .dirtyExclusive)
    (hp : p = (s.sTagFor w pa).pidx ∨ ∀ k a, s.dHas k a → s.block a ≠ s.block pa) :
    s.Evolves (s.setSTag (s.sKey pa w) (sTagOf pa p st)) := by
  obtain ⟨valid, tag⟩ := (STag.holds_iff _ _).1 hw
  change (s.sTagFor w pa).state ≠ _ at valid
  change (s.sTagFor w pa).tag = _ at tag
  have keeps := s.setSTag_keeps (s.sKey pa w) (sTagOf pa p st)
  have at_ := State.sTagFor_setSTag h.wf (s.sKey pa w) (sTagOf pa p st)
  have good := h.sGood_setSTag (s.sKey pa w) (t := sTagOf pa p st) rfl
  have tags (v : Bool) (a : PAddr) : ((s.setSTag (s.sKey pa w) (sTagOf pa p st)).sTagFor v a).tag = (s.sTagFor v a).tag := by
    rw [at_]
    split
    · next e => rw [State.sTagFor_of_sKey e, tag]; rfl
    · rfl
  have states (v : Bool) (a : PAddr) : ((s.setSTag (s.sKey pa w) (sTagOf pa p st)).sTagFor v a).state = (s.sTagFor v a).state ∨
      ((s.setSTag (s.sKey pa w) (sTagOf pa p st)).sTagFor v a).state = .dirtyExclusive ∧ (s.sTagFor v a).state ≠ .invalid := by
    rw [at_]
    split
    · next e =>
      rw [State.sTagFor_of_sKey e]
      exact hs.imp id fun e => ⟨e, valid⟩
    · exact .inl rfl
  have invalid (v : Bool) (a : PAddr) : ((s.setSTag (s.sKey pa w) (sTagOf pa p st)).sTagFor v a).state ≠ .invalid ↔
      (s.sTagFor v a).state ≠ .invalid := by
    rcases states v a with e | ⟨e, e'⟩
    · rw [e]
    · rw [e]; exact ⟨fun _ => e', fun _ => BlockState.noConfusion⟩
  have sHolds (v : Bool) (a : PAddr) : (s.setSTag (s.sKey pa w) (sTagOf pa p st)).sHolds v a ↔ s.sHolds v a := by
    rw [State.sHolds_iff, State.sHolds_iff, STag.holds_iff, STag.holds_iff, tags]
    exact and_congr (invalid v a) Iff.rfl
  refine ⟨keeps, { h with
    wf := keeps.wf h.wf
    sGood := fun k => ⟨good k, (h.sGood k).2⟩
    line := fun k a hk => ?_
    sOnce := fun a v x hv hx => h.sOnce a v x ((sHolds v a).1 hv) ((sHolds x a).1 hx)
    sPlace := fun a v hv => ?_
    clean := fun a v hv hs => ?_ }, fun a v hv => ⟨hv.line, fun none x hx => hv.block none x ((sHolds x a).1 hx),
      fun none => hv.memory fun x hx => none x ((sHolds x a).2 hx)⟩⟩
  · obtain ⟨held, pidx, owned, dirty, data⟩ := h.line k a hk
    refine ⟨(sHolds _ a).2 held, ?_, owned, fun e => ?_, data⟩
    · refine (congrArg (fun t : STag => t.pidx.toNat) (at_ (s.dTagAt k).scWay a)).trans ?_
      split
      · next e =>
        have block : s.block a = s.block pa := State.block_eq_of_holds (t := s.sTagFor w pa) e
          (by rw [← State.sTagFor_of_sKey e]; exact held) hw
        rcases hp with rfl | none
        · rw [State.sTagFor_of_sKey e] at pidx
          exact pidx
        · exact absurd block (none k a hk)
      · exact pidx
    · rcases states (s.dTagAt k).scWay a with e' | e'
      · exact e'.trans (dirty e)
      · exact e'.1
  · rw [tags]
    exact h.sPlace a v ((invalid v a).1 hv)
  · refine h.clean a v ((sHolds v a).1 hv) ?_
    rcases states v a with e | e
    · rw [e] at hs; exact hs
    · exact absurd e.1 hs

/-- The block of an entry goes, when no line of it is left and memory has it (R296). -/
theorem State.Sound.untag {s : State} (h : s.Sound) (j : Nat) {t : STag} (ht : t.state = .invalid) (hg : t.ecc = .good)
    (lines : ∀ k a, s.dHas k a → s.sKey a (s.dTagAt k).scWay ≠ j)
    (saved : ∀ a w, s.sHolds w a → s.sKey a w = j → s.sDouble w a = s.finalDouble a) : s.Evolves (s.setSTag j t) := by
  have keeps := s.setSTag_keeps j t
  have at_ := State.sTagFor_setSTag h.wf j t
  have other {w : Bool} {a : PAddr} (e : s.sKey a w ≠ j) : (s.setSTag j t).sTagFor w a = s.sTagFor w a := (at_ w a).trans (if_neg e)
  have gone {w : Bool} {a : PAddr} (hv : ((s.setSTag j t).sTagFor w a).state ≠ .invalid) : s.sKey a w ≠ j := by
    intro e
    rw [at_, if_pos e] at hv
    exact hv ht
  have sHolds (w : Bool) (a : PAddr) : (s.setSTag j t).sHolds w a ↔ s.sHolds w a ∧ s.sKey a w ≠ j := by
    rw [State.sHolds_iff, State.sHolds_iff]
    constructor
    · intro hw
      have e := gone ((STag.holds_iff _ _).1 hw).1
      rw [other e] at hw
      exact ⟨hw, e⟩
    · intro ⟨hw, e⟩
      rw [other e]
      exact hw
  refine ⟨keeps, { h with
    wf := keeps.wf h.wf
    sGood := fun k => ⟨h.sGood_setSTag j hg k, (h.sGood k).2⟩
    line := fun k a hk => ?_
    sOnce := fun a v x hv hx => h.sOnce a v x ((sHolds v a).1 hv).1 ((sHolds x a).1 hx).1
    sPlace := fun a w hw => ?_
    clean := fun a w hw hs => ?_ }, fun a v hv => ⟨hv.line, fun none x hx => hv.block none x ((sHolds x a).1 hx).1, fun none => ?_⟩⟩
  · have e := lines k a hk
    obtain ⟨held, pidx, owned, dirty, data⟩ := h.line k a hk
    have same := other e
    exact ⟨(sHolds _ a).2 ⟨held, e⟩, (congrArg (fun t : STag => t.pidx.toNat) same).trans pidx, owned,
      fun c => (congrArg STag.state same).trans (dirty c), data⟩
  · have e := gone hw
    rw [other e] at hw ⊢
    exact h.sPlace a w hw
  · obtain ⟨held, e⟩ := (sHolds w a).1 hw
    rw [other e] at hs
    exact h.clean a w held hs
  · by_cases c : ∃ w, s.sHolds w a
    · obtain ⟨w, hw⟩ := c
      have e : s.sKey a w = j := by
        by_contra e
        exact none w ((sHolds w a).2 ⟨hw, e⟩)
      have noLine (k : Nat) (hk : s.dHas k a) : False := lines k a hk (by rw [h.sOnce a _ w (h.line k a hk).held hw, e])
      rw [← hv.block noLine w hw]
      exact (saved a w hw e).symm
    · exact hv.memory fun w hw => c ⟨w, hw⟩

/-! ## A block is cast out -/

theorem State.Sound.sReadQuads_eq {s : State} (h : s.Sound) (k q n : Nat) :
    s.sReadQuads k q n = ⟨(s.sQuadsFrom k q n).map fun x => (x.data, false), false, false⟩ := by
  have good (q n : Nat) : ∀ x ∈ s.sQuadsFrom k q n, x.check = .good := by
    intro x hx
    obtain ⟨j, _, rfl⟩ := List.mem_map.1 hx
    exact (h.sGood k).2 _
  have right : (s.sQuadsFrom k q n).any SQuad.parityWrong = false := by
    rw [List.any_eq_false]
    intro x hx
    simp [SQuad.parityWrong, good q n x hx]
  have corrected : (s.sQuadsFrom k q n).map SQuad.corrected = (s.sQuadsFrom k q n).map fun x => ⟨x.data, false, false⟩ :=
    List.map_congr_left fun x hx => by simp [SQuad.corrected, good q n x hx]
  unfold State.sReadQuads
  dsimp only
  rw [right, Bool.and_false, Bool.or_false, corrected]
  split
  · rw [if_neg Bool.false_ne_true, List.map_map, List.any_map, List.any_map]
    congr 1
    · rw [List.any_eq_false]; intro x _; exact Bool.false_ne_true
    · rw [List.any_eq_false]; intro x _; exact Bool.false_ne_true
  · rfl

theorem State.pulseCor_false (s : State) : s.pulseCor false = s := by
  unfold State.pulseCor
  rw [Bool.or_false]

theorem State.reportSData_clean {α : Type} (s : State) (pa : PAddr) (w : Bool) (x : α) : s.reportSData pa w ⟨x, false, false⟩ = s := by
  unfold State.reportSData
  exact (if_neg Bool.false_ne_true).trans s.pulseCor_false

/-- After a block comes to the outgoing buffer, memory will have it, and all else as before. -/
structure State.Sends (s t : State) (o : Outgoing) : Prop where
  keeps : s.Keeps t
  caches : t.caches = s.caches
  replies : t.bus.replies = s.bus.replies
  final : t.finalMem = quadsTo s.memEnd s.finalMem o.pa.toNat (o.quads.map Prod.fst)
  outgoing : ∀ x ∈ t.bus.outgoing, x ∈ s.bus.outgoing ∨ x = o

theorem State.outgo_sends (s : State) {o : Outgoing} (h : o.kind.isWrite = true) : s.Sends (s.outgo o) o := by
  have keeps := s.outgo_keeps o
  have final : (s.setOutgoing (s.bus.outgoing ++ [o])).finalMem = quadsTo s.memEnd s.finalMem o.pa.toNat (o.quads.map Prod.fst) := by
    change blocksTo s.memEnd s.mem (issueOrder (s.bus.outgoing ++ [o])) = _
    rw [issueOrder_append_write h, blocksTo_append]
    rfl
  unfold State.outgo at keeps ⊢
  dsimp only at keeps ⊢
  split
  · next ready =>
    rw [if_pos ready] at keeps
    obtain ⟨sent, e⟩ := (s.setOutgoing (s.bus.outgoing ++ [o])).sendOutgoing_eq
    rw [e] at keeps ⊢
    exact ⟨keeps, rfl, rfl, final, fun x hx => absurd hx (List.not_mem_nil)⟩
  · next waits =>
    rw [if_neg waits] at keeps
    refine ⟨keeps, rfl, rfl, final, fun x hx => ?_⟩
    rcases List.mem_append.1 hx with hx | hx
    · exact .inl hx
    · exact .inr (List.mem_singleton.1 hx)

theorem State.sQuadsFrom_getElem? (s : State) (k : Nat) {j n : Nat} (hj : j < n) : (s.sQuadsFrom k 0 n)[j]? = some (s.sQuadAt k j) := by
  unfold State.sQuadsFrom
  rw [List.getElem?_map, List.getElem?_range hj, Option.map_some, Nat.zero_add]

/-- What memory will have after a block is cast out: its data, and at other addresses what it would have had. -/
theorem State.Sends.finalDouble {s t : State} {o : Outgoing} (h : s.Sends t o) (hc : s.canonical = true) {pa : PAddr} {w : Bool}
    (hpa : o.pa = s.blockBase pa) (hq : o.quads.map Prod.fst = (s.sQuadsFrom (s.sKey pa w) 0 s.sQuads).map SQuad.data) (a : PAddr) :
    t.finalDouble a = if s.block a = s.block pa then s.sDouble w a else s.finalDouble a := by
  have size : (o.quads.map Prod.fst).length = s.sQuads := by
    rw [hq, List.length_map, State.sQuadsFrom, List.length_map, List.length_range]
  rw [State.finalDouble, h.keeps.core.memEnd_eq, h.final]
  have base := s.div_eight a
  split
  · next same =>
    have index := s.sQuadIndex_lt a
    have quad : (o.quads.map Prod.fst)[s.sQuadIndex a]? = some (s.sQuadAt (s.sKey a w) (s.sQuadIndex a)).data := by
      rw [hq, List.getElem?_map, s.sQuadsFrom_getElem? _ index, State.sKey_of_block same]
      rfl
    obtain ⟨even, odd⟩ := readDouble_quadsTo (State.wf_finalMem hc) s.memEnd (s.blockBase pa).toNat quad
    rw [hpa, base, (s.blockBase_eq_iff a pa).2 same, State.sDouble, quadPart_eq]
    split
    · next e => rw [e]; exact even
    · next e => rw [show a.toNat / 8 % 2 = 1 by omega]; exact odd
  · next other =>
    have span := s.two_pow_sBlkBits
    refine Memory.readDouble_congr fun x low high => read_quadsTo_outside (State.wf_finalMem hc) _ ?_
    rw [size, hpa, s.toNat_blockBase]
    unfold State.block at other ⊢
    rcases s.geometry_cases with ⟨e, e'⟩ | ⟨e, e'⟩ <;> rw [e] at other ⊢ <;> rw [e'] <;> omega

/-- An owned block is cast out: memory will have its data (R344). -/
theorem State.Sound.sends {s t : State} {o : Outgoing} (h : s.Sound) (k : s.Sends t o) {pa : PAddr} {w : Bool} (hpa : o.pa = s.blockBase pa)
    (hq : o.quads.map Prod.fst = (s.sQuadsFrom (s.sKey pa w) 0 s.sQuads).map SQuad.data) (hw : s.sHolds w pa)
    (hd : (s.sTagFor w pa).state = .dirtyExclusive) : s.Evolves t := by
  have final := k.finalDouble h.wf hpa hq
  have size : o.quads.length = s.sQuads := by
    rw [← List.length_map (f := Prod.fst), hq, List.length_map, State.sQuadsFrom, List.length_map, List.length_range]
  have same : s.SameBlocks t := ⟨k.keeps, by rw [k.caches], by rw [k.caches], by rw [k.caches], by rw [k.caches], k.replies⟩
  refine same.evolves (same.sound h (fun x hx => ?_) fun a v hv hs => ?_) fun a v hv none => ?_
  · rcases k.outgoing x hx with hx | rfl
    · exact h.outgoing x hx
    · exact ⟨by rw [hpa, s.blockBase_blockBase], size⟩
  · rw [final, if_neg]
    intro block
    have held := (State.sHolds_of_block block w).2 hw
    rw [h.sOnce a v w hv held, State.sTagFor_of_block block] at hs
    exact hs hd
  · rw [final, if_neg, hv.memory none]
    exact fun block => none w ((State.sHolds_of_block block w).2 hw)

end Sys2Proof.Machine

end

section
/-! PROOFS. Coherent caches when a way of the secondary cache is emptied and filled from memory (R276, R296, R343). -/

namespace Sys2Proof.Machine

/-! ## The address of a block, from its tag -/

theorem State.toNat_sBlockAddr (s : State) (g : BitVec 22) (a : PAddr) :
    (s.sBlockAddr g a).toNat = g.toNat * 2 ^ 18 + a.toNat % 2 ^ 18 / 2 ^ s.sBlkBits * 2 ^ s.sBlkBits := by
  have low : (a.extractLsb' 0 18).toNat = a.toNat % 2 ^ 18 := by
    rw [BitVec.extractLsb'_toNat, Nat.shiftRight_zero]
  have whole : (g ++ a.extractLsb' 0 18).toNat = g.toNat * 2 ^ 18 + a.toNat % 2 ^ 18 := by
    rw [BitVec.toNat_append, low, ← Nat.shiftLeft_add_eq_or_of_lt (Nat.mod_lt _ (by decide)), Nat.shiftLeft_eq]
  refine (s.toNat_blockBase _).trans ?_
  rw [State.block]
  refine (congrArg (fun n => n / 2 ^ s.sBlkBits * 2 ^ s.sBlkBits) whole).trans ?_
  rcases s.geometry_cases with ⟨e, _⟩ | ⟨e, _⟩ <;> rw [e] <;> omega

theorem State.sBlockAddr_tag (s : State) (g : BitVec 22) (a : PAddr) : (s.sBlockAddr g a).toNat / 2 ^ 18 = g.toNat := by
  rw [s.toNat_sBlockAddr]
  rcases s.geometry_cases with ⟨e, _⟩ | ⟨e, _⟩ <;> rw [e] <;> omega

theorem State.blockBase_sBlockAddr (s : State) (g : BitVec 22) (a : PAddr) : s.blockBase (s.sBlockAddr g a) = s.sBlockAddr g a :=
  s.blockBase_blockBase _

theorem State.block_sBlockAddr (s : State) (g : BitVec 22) (a : PAddr) :
    s.block (s.sBlockAddr g a) = g.toNat * 2 ^ (18 - s.sBlkBits) + s.block a % 2 ^ (18 - s.sBlkBits) := by
  rw [State.block, s.toNat_sBlockAddr, State.block]
  rcases s.geometry_cases with ⟨e, _⟩ | ⟨e, _⟩ <;> rw [e] <;> omega

/-- The tag of an address and the set of another of its set make the block of the first (R280). -/
theorem State.block_sBlockAddr_of_sKey {s : State} {a pa : PAddr} {v w : Bool} (h : s.sKey a v = s.sKey pa w) :
    s.block (s.sBlockAddr (pa.extractLsb' 18 22) a) = s.block pa := by
  rw [s.sKey_eq, s.sKey_eq] at h
  have low := congrArg (· % 2 ^ (18 - s.sBlkBits)) (two_mul_add_toNat_inj h).1
  simp only [Nat.mod_mod_of_dvd _ (Nat.pow_dvd_pow 2 (show 18 - s.sBlkBits ≤ 18 + s.scSize - s.sBlkBits by omega))] at low
  rw [s.block_sBlockAddr, extractLsb'_18_toNat, s.div_eq_block, low, Nat.mul_comm, Nat.div_add_mod]

/-- An entry that is not Invalid holds the block of its tag and its index. -/
theorem State.Sound.holds_place {s : State} (h : s.Sound) {w : Bool} {a : PAddr} (hv : (s.sTagFor w a).state ≠ .invalid) :
    s.sKey (s.sBlockAddr (s.sTagFor w a).tag a) w = s.sKey a w ∧ s.sHolds w (s.sBlockAddr (s.sTagFor w a).tag a) := by
  have key := h.sPlace a w hv
  refine ⟨key, ?_⟩
  rw [State.sHolds_iff, State.sTagFor_of_sKey key, STag.holds_iff_div, s.sBlockAddr_tag]
  exact ⟨hv, rfl⟩

theorem State.Sound.sTagRead_eq {s : State} (h : s.Sound) (k : Nat) : s.sTagRead k = s.sTagAt k := by
  have good := (h.sGood k).1
  unfold State.sTagRead STag.checked
  rw [good]

/-! ## Emptying a way -/

/-- Where a purge left no line under the PIdx bits of its block, no line of the block is left at all. -/
theorem State.Sound.no_line {s : State} (h : s.Sound) {w : Bool} {b : PAddr} (hw : s.sHolds w b)
    (none : ∀ k a, s.dHas k a → k / 256 = (s.sTagFor w b).pidx.toNat → s.block a ≠ s.block b) {k : Nat} {a : PAddr} (hk : s.dHas k a) :
    s.block a ≠ s.block b := by
  intro block
  obtain ⟨held, pidx, _⟩ := h.line k a hk
  rw [h.sOnce a _ w held ((State.sHolds_of_block block w).2 hw), State.sTagFor_of_block block] at pidx
  exact none k a hk pidx.symm block

theorem State.Sound.castOut_sends {s : State} (h : s.Sound) (flags : List Bool) (pa : PAddr) (w : Bool) :
    ∃ o : Outgoing, s.Sends (s.castOut .write flags pa w) o ∧ o.pa = s.sBlockAddr (s.sTagFor w pa).tag pa ∧
      o.quads.map Prod.fst = (s.sQuadsFrom (s.sKey pa w) 0 s.sQuads).map SQuad.data := by
  unfold State.castOut
  dsimp only
  rw [h.sReadQuads_eq, s.reportSData_clean, h.sTagRead_eq]
  refine ⟨_, s.outgo_sends rfl, rfl, ?_⟩
  apply List.ext_getElem?
  intro i
  simp only [List.getElem?_map, List.getElem?_mapIdx, Option.map_map]
  rfl

/-- Way w of the set of an address was emptied. -/
structure State.Evicted (s t : State) (pa : PAddr) (w : Bool) : Prop where
  evolves : s.Evolves t
  empty : (t.sTagFor w pa).state = .invalid
  sHolds : ∀ v a, t.sHolds v a → s.sHolds v a
  outgoing : ¬ s.sHolds w pa → s.outgoingHolds pa = false → t.outgoingHolds pa = false

theorem State.outgoingHolds_eq_false {s : State} {pa : PAddr} : s.outgoingHolds pa = false ↔ ∀ o ∈ s.bus.outgoing, o.pa ≠ s.blockBase pa := by
  simp [State.outgoingHolds]

/-- The last steps of an eviction: from u, where no line of the block is left, to v, where memory will have it; then the tag goes. -/
theorem State.Sound.evicted {s u v : State} {pa b : PAddr} {w : Bool} {t : STag} (purged : s.Purged u) (hb : u.sKey b w = u.sKey pa w)
    (held : u.sHolds w b) (none : ∀ k a, u.dHas k a → u.block a ≠ u.block b) (moved : u.Evolves v) (same : u.SameBlocks v)
    (saved : ∀ a, u.block a = u.block b → v.finalDouble a = u.sDouble w a) (outgoing : ∀ o ∈ v.bus.outgoing, o ∈ u.bus.outgoing ∨ o.pa = u.blockBase b)
    (ht : t.state = .invalid) (hg : t.ecc = .good) : s.Evicted (v.setSTag (u.sKey pa w) t) pa w := by
  have block {a : PAddr} {x : Bool} (hx : u.sHolds x a) (e : u.sKey a x = u.sKey pa w) : u.block a = u.block b :=
    State.block_eq_of_holds (t := u.sTagFor w b) (e.trans hb.symm) (by rw [← State.sTagFor_of_sKey (e.trans hb.symm)]; exact hx) held
  have untagged := moved.sound.untag (u.sKey pa w) ht hg
    (fun k a hk e => by
      have hk' := (same.dHas_iff k a).1 hk
      rw [same.keeps.sKey_eq, same.dTagAt_eq] at e
      exact none k a hk' (block (purged.evolves.sound.line k a hk').held e))
    (fun a x hx e => by
      have hx' := (same.sHolds_iff x a).1 hx
      rw [same.keeps.sKey_eq] at e
      rw [same.sDouble_eq, saved a (block hx' e), State.way_eq_of_sKey (e.trans hb.symm)])
  have at_ := State.sTagFor_setSTag moved.sound.wf (u.sKey pa w) t
  refine ⟨(purged.evolves.trans moved).trans untagged, ?_, fun x a hx => ?_, fun notHeld free => ?_⟩
  · rw [at_, if_pos (same.keeps.sKey_eq pa w)]
    exact ht
  · rw [State.sHolds_iff, at_] at hx
    split at hx
    · exact absurd ht ((STag.holds_iff _ _).1 hx).1
    · rw [same.sTagFor_eq, purged.sTagFor] at hx
      exact hx
  · rw [State.outgoingHolds_eq_false] at free ⊢
    intro o ho e
    have keeps := purged.evolves.keeps
    rw [(moved.keeps.trans untagged.keeps).blockBase_eq] at e
    rcases outgoing o ho with k | k
    · rw [keeps.blockBase_eq] at e
      exact free o (purged.outgoing ▸ k) e
    · have := (u.blockBase_eq_iff b pa).1 (k.symm.trans e)
      rw [State.sHolds_of_block this, State.sHolds_iff, purged.sTagFor] at held
      exact notHeld held

/-- Emptying a way: its lines are purged, and an owned block is cast out (R296). -/
theorem State.Sound.sEvict {s : State} (h : s.Sound) (pa : PAddr) (w : Bool) : s.Evicted (s.sEvict .inconsistent pa w) pa w := by
  unfold State.sEvict
  dsimp only
  rw [h.sTagRead_eq]
  change s.Evicted (if (s.sTagFor w pa).state == .invalid then s else ((if (s.sTagFor w pa).state == .dirtyExclusive then
    (s.purge .inconsistent (s.sTagFor w pa).pidx (s.sBlockAddr (s.sTagFor w pa).tag pa)).castOut .write
      (s.purgeFlags .inconsistent (s.sTagFor w pa).pidx (s.sBlockAddr (s.sTagFor w pa).tag pa)) pa w
    else s.purge .inconsistent (s.sTagFor w pa).pidx (s.sBlockAddr (s.sTagFor w pa).tag pa)).setSTag (s.sKey pa w)
      { s.sTagFor w pa with state := .invalid, ecc := .good })) pa w
  generalize hb : s.sBlockAddr (s.sTagFor w pa).tag pa = b
  by_cases invalid : (s.sTagFor w pa).state = .invalid
  · rw [if_pos (by simpa using invalid)]
    exact ⟨h.evolves_self, invalid, fun _ _ => id, fun _ => id⟩
  rw [if_neg (by simpa using invalid)]
  obtain ⟨key, held⟩ := h.holds_place invalid
  rw [hb] at key held
  obtain ⟨purged, none⟩ := h.purge (s.sTagFor w pa).pidx b
  generalize s.purge .inconsistent (s.sTagFor w pa).pidx b = u at purged none ⊢
  have keeps := purged.evolves.keeps
  have sound := purged.evolves.sound
  have heldU : u.sHolds w b := by
    rw [State.sHolds_iff, purged.sTagFor]
    exact held
  have keyU : u.sKey b w = u.sKey pa w := by rw [keeps.sKey_eq, keeps.sKey_eq, key]
  have noLine (k : Nat) (a : PAddr) (hk : u.dHas k a) : u.block a ≠ u.block b := by
    refine sound.no_line heldU (fun k a hk hp => ?_) hk
    rw [purged.sTagFor, State.sTagFor_of_sKey key] at hp
    rw [keeps.block_eq, keeps.block_eq]
    exact none k a hk hp
  rw [← keeps.sKey_eq]
  by_cases dirty : (s.sTagFor w pa).state = .dirtyExclusive
  · rw [if_pos (by simpa using dirty)]
    obtain ⟨o, sends, base, quads⟩ := sound.castOut_sends (s.purgeFlags .inconsistent (s.sTagFor w pa).pidx b) pa w
    rw [purged.sTagFor, keeps.sBlockAddr_eq, hb] at base
    rw [← keyU] at quads
    have based : o.pa = u.blockBase b := by
      rw [base, keeps.blockBase_eq, ← hb, s.blockBase_sBlockAddr]
    have owned : (u.sTagFor w b).state = .dirtyExclusive := by
      rw [purged.sTagFor, State.sTagFor_of_sKey key]
      exact dirty
    have moved := sound.sends sends based quads heldU owned
    exact State.Sound.evicted purged keyU heldU noLine moved (by
      exact ⟨sends.keeps, by rw [sends.caches], by rw [sends.caches], by rw [sends.caches], by rw [sends.caches], sends.replies⟩)
      (fun a same => by rw [sends.finalDouble sound.wf based quads, if_pos same]) (fun x hx => by
        rcases sends.outgoing x hx with k | rfl
        · exact .inl k
        · exact .inr based) rfl rfl
  · rw [if_neg (by simpa using dirty)]
    exact State.Sound.evicted purged keyU heldU noLine sound.evolves_self ⟨.refl u, rfl, rfl, rfl, rfl, rfl⟩
      (fun a same => by
        refine (sound.clean a w ((State.sHolds_of_block same w).2 heldU) ?_).symm
        rw [State.sTagFor_of_block same, purged.sTagFor, State.sTagFor_of_sKey key]
        exact dirty) (fun o => .inl) rfl rfl

end Sys2Proof.Machine

end

section
/-! PROOFS. Coherent caches when a block of the secondary cache is filled from memory, owned, found or replaced (R276, R278, R282, R296). -/

namespace Sys2Proof.Machine

/-! ## Filling a block from memory -/

/-- A quadword of memory. -/
def State.memQuad (s : State) (x : Nat) : QWord := Memory.readDouble s.memEnd s.mem x ++ Memory.readDouble s.memEnd s.mem (x + 8)

theorem State.sLoadQuads_same (n : Nat) (s : State) (k q x : Nat) : (s.sLoadQuads k q x 0#16 n).caches.dTag = s.caches.dTag ∧
    (s.sLoadQuads k q x 0#16 n).caches.dData = s.caches.dData ∧ (s.sLoadQuads k q x 0#16 n).caches.sTag = s.caches.sTag ∧
    (s.sLoadQuads k q x 0#16 n).mem = s.mem ∧ (s.sLoadQuads k q x 0#16 n).bus = s.bus := by
  induction n generalizing s q x with
  | zero => exact ⟨rfl, rfl, rfl, rfl, rfl⟩
  | succ n ih => exact ih _ _ _

theorem State.sLoadQuads_succ (s : State) (k q x n : Nat) :
    s.sLoadQuads k q x 0#16 (n + 1) = (s.setSQuad k q ⟨s.memQuad x, .good⟩).sLoadQuads k (q + 1) (x + 16) 0#16 n := by
  rw [State.sLoadQuads]
  simp only [BitVec.getLsbD_zero, Bool.or_self, Bool.false_eq_true, if_false]
  rfl

theorem State.sLoadQuads_good (n : Nat) {s : State} (hc : s.canonical = true) (good : ∀ j i, (s.sQuadAt j i).check = .good) (k q x j i : Nat) :
    ((s.sLoadQuads k q x 0#16 n).sQuadAt j i).check = .good := by
  induction n generalizing s q x with
  | zero => exact good j i
  | succ n ih =>
    rw [s.sLoadQuads_succ]
    refine ih ((s.setSQuad_keeps _ _ _).wf hc) (fun j i => ?_) _ _
    rw [State.sQuadAt_setSQuad hc]
    split
    · rfl
    · exact good j i

theorem State.sQuadAt_sLoadQuads (n : Nat) {s : State} (hc : s.canonical = true) (k q x j i : Nat) (hq : q + n ≤ s.sQuads) (hi : i < s.sQuads) :
    (s.sLoadQuads k q x 0#16 n).sQuadAt j i = if j = k ∧ q ≤ i ∧ i < q + n then ⟨s.memQuad (x + 16 * (i - q)), .good⟩ else s.sQuadAt j i := by
  induction n generalizing s q x with
  | zero => rw [if_neg (by omega)]; rfl
  | succ n ih =>
    have one : s.sQuads * j + i = s.sQuads * k + q ↔ j = k ∧ i = q :=
      ⟨State.sQuads_inj (by omega) hi, fun ⟨e, e'⟩ => by rw [e, e']⟩
    rw [s.sLoadQuads_succ, ih ((s.setSQuad_keeps _ _ _).wf hc) _ _ (by change _ ≤ s.sQuads; omega) hi, State.sQuadAt_setSQuad hc]
    by_cases first : j = k ∧ i = q
    · rw [if_neg (by omega), if_pos (one.2 first), if_pos (by omega), first.2, Nat.sub_self, Nat.mul_zero, Nat.add_zero]
    · rw [if_neg (fun e => first (one.1 e))]
      by_cases later : j = k ∧ q + 1 ≤ i ∧ i < q + 1 + n
      · rw [if_pos later, if_pos (by omega), show x + 16 + 16 * (i - (q + 1)) = x + 16 * (i - q) by omega]
        rfl
      · rw [if_neg later, if_neg (by omega)]

/-- A block that no entry of the outgoing buffer writes: memory will have what it has. -/
theorem State.Sound.finalDouble_eq {s : State} (h : s.Sound) {pa a : PAddr} (hpa : s.outgoingHolds pa = false) (ha : s.block a = s.block pa) :
    s.finalDouble a = Memory.readDouble s.memEnd s.mem (a.toNat / 8 * 8) := by
  refine Memory.readDouble_congr fun x low high => read_blocksTo_outside ((State.canonical_iff s).1 h.wf).1 _ fun o ho => ?_
  rw [mem_issueOrder] at ho
  obtain ⟨base, size⟩ := h.outgoing o ho
  have ne : s.block o.pa ≠ s.block pa := by
    intro e
    refine State.outgoingHolds_eq_false.1 hpa o ho (base.trans ((s.blockBase_eq_iff _ _).2 e))
  rw [← ha] at ne
  rw [base, s.toNat_blockBase, size]
  unfold State.block at ne ⊢
  rcases s.geometry_cases with ⟨e, e'⟩ | ⟨e, e'⟩ <;> rw [e] at ne ⊢ <;> rw [e'] <;> omega

/-- A state in which way w of the set of an address is empty, and which holds the block at it nowhere. -/
structure State.Vacant (s : State) (pa : PAddr) (w : Bool) : Prop where
  sound : s.Sound
  empty : (s.sTagFor w pa).state = .invalid
  absent : ∀ v, ¬ s.sHolds v pa
  outgoing : s.outgoingHolds pa = false

/-- From s to t way w of the set of an address took a tag for it, and the quadwords of memory. -/
structure State.Loads (s t : State) (pa : PAddr) (w : Bool) (tag : STag) : Prop where
  keeps : s.Keeps t
  dTag : t.caches.dTag = s.caches.dTag
  dData : t.caches.dData = s.caches.dData
  mem : t.mem = s.mem
  bus : t.bus = s.bus
  good : ∀ j, (t.sTagAt j).ecc = .good ∧ ∀ q, (t.sQuadAt j q).check = .good
  tags : ∀ v a, t.sTagFor v a = if s.sKey a v = s.sKey pa w then tag else s.sTagFor v a
  double : ∀ v a, t.sDouble v a = if s.sKey a v = s.sKey pa w then
    quadPart (s.memQuad ((s.blockBase pa).toNat + 16 * s.sQuadIndex a)) a else s.sDouble v a

theorem State.Sound.loads {s : State} (h : s.Sound) (pa : PAddr) (w : Bool) {tag : STag} (ht : tag.ecc = .good) :
    s.Loads ((s.sLoadQuads (s.sKey pa w) 0 (s.blockBase pa).toNat 0#16 s.sQuads).setSTag (s.sKey pa w) tag) pa w tag := by
  obtain ⟨dTag, dData, sTag, mem, bus⟩ := State.sLoadQuads_same s.sQuads s (s.sKey pa w) 0 (s.blockBase pa).toNat
  have loaded := State.sLoadQuads_keeps s.sQuads s (s.sKey pa w) 0 (s.blockBase pa).toNat 0#16
  have good := State.sLoadQuads_good s.sQuads h.wf (fun j i => (h.sGood j).2 i) (s.sKey pa w) 0 (s.blockBase pa).toNat
  have quad (j i : Nat) := State.sQuadAt_sLoadQuads s.sQuads h.wf (s.sKey pa w) 0 (s.blockBase pa).toNat j i (by omega)
  generalize s.sLoadQuads (s.sKey pa w) 0 (s.blockBase pa).toNat 0#16 s.sQuads = u at dTag dData sTag mem bus loaded good quad
  have wf := loaded.wf h.wf
  refine ⟨loaded.trans (u.setSTag_keeps _ _), dTag, dData, mem, bus, fun j => ⟨?_, good j⟩, fun v a => ?_, fun v a => ?_⟩
  · rw [State.sTagAt_setSTag wf]
    split
    · exact ht
    · rw [State.sTagAt_congr sTag]
      exact (h.sGood j).1
  · rw [State.sTagFor_setSTag wf, loaded.sKey_eq, loaded.sTagFor_eq sTag]
  · have index := s.sQuadIndex_lt a
    have at_ : (u.setSTag (s.sKey pa w) tag).sDouble v a = u.sDouble v a := rfl
    rw [at_, State.sDouble, loaded.sKey_eq, loaded.sQuadIndex_eq, quad _ _ index]
    by_cases e : s.sKey a v = s.sKey pa w
    · rw [if_pos e, if_pos ⟨e, by omega, by omega⟩, Nat.sub_zero]
    · rw [if_neg e, if_neg fun c => e c.1]
      rfl

section
variable {s t : State} {pa : PAddr} {w : Bool} {p : BitVec 2} {st : BlockState} (l : s.Loads t pa w (sTagOf pa p st)) (vacant : s.Vacant pa w)
  (hst : st ≠ .invalid)
include l

theorem State.Loads.dHas_iff (k : Nat) (a : PAddr) : t.dHas k a ↔ s.dHas k a := State.dHas_congr (State.dTagAt_congr l.dTag k) a

theorem State.Loads.dDouble (k j : Nat) : t.dDouble k j = s.dDouble k j := State.dDouble_congr l.keeps.core.memEnd_eq l.dData k j

theorem State.Loads.finalDouble (a : PAddr) : t.finalDouble a = s.finalDouble a := l.keeps.finalDouble_eq l.mem (by rw [l.bus]) a

/-- What another entry holds, it held before. -/
theorem State.Loads.held_before {v : Bool} {a : PAddr} (hv : t.sHolds v a) (e : s.sKey a v ≠ s.sKey pa w) : s.sHolds v a := by
  rw [State.sHolds_iff, l.tags, if_neg e] at hv
  exact hv

include hst in
/-- The entry itself holds the block. -/
theorem State.Loads.block_of_held {v : Bool} {a : PAddr} (hv : t.sHolds v a) (e : s.sKey a v = s.sKey pa w) :
    s.block a = s.block pa ∧ v = w := by
  rw [State.sHolds_iff, l.tags, if_pos e] at hv
  exact ⟨State.block_eq_of_holds e hv (sTagOf_holds pa p hst), State.way_eq_of_sKey e⟩

omit l
include vacant

theorem State.Vacant.key_ne {v : Bool} {a : PAddr} (hv : s.sHolds v a) : s.sKey a v ≠ s.sKey pa w := by
  intro e
  rw [State.sHolds_iff, State.sTagFor_of_sKey e] at hv
  exact ((STag.holds_iff _ _).1 hv).1 vacant.empty

theorem State.Vacant.not_held {v : Bool} {a : PAddr} (block : s.block a = s.block pa) : ¬ s.sHolds v a :=
  fun hv => vacant.absent v ((State.sHolds_of_block block v).1 hv)

theorem State.Vacant.memQuad {a : PAddr} (block : s.block a = s.block pa) :
    quadPart (s.memQuad ((s.blockBase pa).toNat + 16 * s.sQuadIndex a)) a = s.finalDouble a := by
  rw [vacant.sound.finalDouble_eq vacant.outgoing block, s.div_eight a, (s.blockBase_eq_iff a pa).2 block, State.memQuad, quadPart_append]
  split
  · next e => rw [e, Nat.mul_zero, Nat.add_zero]
  · next e => rw [show a.toNat / 8 % 2 = 1 by omega, Nat.mul_one]

include l

theorem State.Loads.held_after {v : Bool} {a : PAddr} (hv : s.sHolds v a) : t.sHolds v a := by
  rw [State.sHolds_iff, l.tags, if_neg (vacant.key_ne hv)]
  exact hv

theorem State.Loads.included {k : Nat} {a : PAddr} (hk : t.dHas k a) : t.Included k a := by
  obtain ⟨held, pidx, owned, dirty, data⟩ := vacant.sound.line k a ((l.dHas_iff k a).1 hk)
  have e := vacant.key_ne held
  constructor
  all_goals rw [State.dTagAt_congr l.dTag]
  · exact l.held_after vacant held
  · rw [l.tags, if_neg e]; exact pidx
  · exact owned
  · rw [l.tags, if_neg e]; exact dirty
  · rw [l.dDouble, l.double, if_neg e]; exact data

include hst

theorem State.Loads.sOnce {a : PAddr} {v x : Bool} (hv : t.sHolds v a) (hx : t.sHolds x a) : v = x := by
  by_cases ev : s.sKey a v = s.sKey pa w
  · obtain ⟨block, way⟩ := l.block_of_held hst hv ev
    by_cases ex : s.sKey a x = s.sKey pa w
    · exact way.trans (l.block_of_held hst hx ex).2.symm
    · exact absurd (l.held_before hx ex) (vacant.not_held block)
  · by_cases ex : s.sKey a x = s.sKey pa w
    · exact absurd (l.held_before hv ev) (vacant.not_held (l.block_of_held hst hx ex).1)
    · exact vacant.sound.sOnce a v x (l.held_before hv ev) (l.held_before hx ex)

theorem State.Loads.sound : t.Sound where
  wf := l.keeps.wf vacant.sound.wf
  replies := by
    rw [l.bus]
    exact vacant.sound.replies
  errAddrs := l.keeps.core.errAddrs.trans vacant.sound.errAddrs
  dTags k hk := by
    rw [State.dTagAt_congr l.dTag]
    exact vacant.sound.dTags k hk
  parity k hk hv := by
    rw [State.dTagAt_congr l.dTag] at hv
    rw [State.dBlockOk_congr l.dData]
    exact vacant.sound.parity k hk hv
  line _ _ hk := l.included vacant hk
  dOnce i j a hi hj := vacant.sound.dOnce i j a ((l.dHas_iff i a).1 hi) ((l.dHas_iff j a).1 hj)
  sGood := l.good
  sOnce _ _ _ hv hx := l.sOnce vacant hst hv hx
  sPlace a v hv := by
    rw [l.keeps.sKey_eq, l.keeps.sKey_eq, l.keeps.sBlockAddr_eq]
    by_cases e : s.sKey a v = s.sKey pa w
    · rw [l.tags, if_pos e]
      obtain rfl := State.way_eq_of_sKey e
      exact (State.sKey_of_block (State.block_sBlockAddr_of_sKey e) _).trans e.symm
    · rw [l.tags, if_neg e] at hv ⊢
      exact vacant.sound.sPlace a v hv
  outgoing o ho := by
    rw [l.keeps.blockBase_eq, l.keeps.sQuads_eq]
    exact vacant.sound.outgoing o (l.bus ▸ ho)
  clean a v hv hs := by
    rw [l.double, l.finalDouble]
    by_cases e : s.sKey a v = s.sKey pa w
    · rw [if_pos e]
      exact vacant.memQuad (l.block_of_held hst hv e).1
    · rw [l.tags, if_neg e] at hs
      rw [if_neg e]
      exact vacant.sound.clean a v (l.held_before hv e) hs

theorem State.Loads.delivers {a : PAddr} {x : DWord} (hx : s.Delivers a x) : t.Delivers a x := by
  refine ⟨fun k hk => ?_, fun none v hv => ?_, fun none => ?_⟩
  · rw [l.dDouble]
    exact hx.line k ((l.dHas_iff k a).1 hk)
  · rw [l.double]
    by_cases e : s.sKey a v = s.sKey pa w
    · have block := (l.block_of_held hst hv e).1
      rw [if_pos e, vacant.memQuad block]
      exact hx.memory fun _ => vacant.not_held block
    · rw [if_neg e]
      exact hx.block (fun k hk => none k ((l.dHas_iff k a).2 hk)) v (l.held_before hv e)
  · rw [l.finalDouble]
    exact hx.memory fun y hy => none y (l.held_after vacant hy)
end

/-- A block read fills way w, which was empty, with the block at an address (R276, R343). -/
theorem State.Vacant.fills {s : State} {pa : PAddr} {w : Bool} (h : s.Vacant pa w) (p : BitVec 2) {st : BlockState} (hst : st ≠ .invalid) :
    s.Evolves ((s.sLoadQuads (s.sKey pa w) 0 (s.blockBase pa).toNat 0#16 s.sQuads).setSTag (s.sKey pa w) (sTagOf pa p st)) := by
  have l := h.sound.loads pa w (tag := sTagOf pa p st) rfl
  exact ⟨l.keeps, l.sound h hst, fun _ _ => l.delivers h hst⟩

end Sys2Proof.Machine

end

section
/-! PROOFS. Coherent caches when a secondary block is owned, found or filled: what every address delivers stands (R267, R276, R278, R282, R296). -/

namespace Sys2Proof.Machine

/-! ## Owning a block -/

/-- Data tags took states, and nothing else moved. -/
structure State.Took (s t : State) : Prop where
  evolves : s.Evolves t
  dHas : ∀ k a, t.dHas k a ↔ s.dHas k a
  sTagFor : ∀ w a, t.sTagFor w a = s.sTagFor w a

theorem State.Sound.took_self {s : State} (h : s.Sound) : s.Took s := ⟨h.evolves_self, fun _ _ => Iff.rfl, fun _ _ => rfl⟩

theorem State.Took.trans {s t u : State} (h : s.Took t) (k : t.Took u) : s.Took u :=
  ⟨h.evolves.trans k.evolves, fun j a => (k.dHas j a).trans (h.dHas j a), fun w a => (k.sTagFor w a).trans (h.sTagFor w a)⟩

theorem DTag.taking_bad {t : DTag} (h : t.bad = false) (st : BlockState) : (t.taking st).bad = false := by
  obtain ⟨tag, _, mod⟩ := (DTag.bad_eq_false_iff t).1 h
  exact (DTag.bad_eq_false_iff _).2 ⟨tag, rfl, mod⟩

theorem State.setDTag_rewrites {s : State} (hc : s.canonical = true) (k : Nat) (t : DTag) : s.Rewrites (s.setDTag k t) k :=
  ⟨s.setDTag_keeps k t, rfl, rfl, rfl, rfl, fun j hj => ⟨(State.dTagAt_setDTag hc k j t).trans (if_neg hj), fun _ _ => rfl, id⟩⟩

/-- A line of an owned block becomes DirtyExclusive (R267). -/
theorem State.Sound.takes {s : State} (h : s.Sound) {k : Nat} {a : PAddr} (hk : s.dHas k a)
    (hd : (s.sTagFor (s.dTagAt k).scWay a).state = .dirtyExclusive) : s.Took (s.setDTag k ((s.dTagAt k).taking .dirtyExclusive)) := by
  have f := State.setDTag_rewrites h.wf k ((s.dTagAt k).taking .dirtyExclusive)
  have tag := (State.dTagAt_setDTag h.wf k k ((s.dTagAt k).taking .dirtyExclusive)).trans (if_pos rfl)
  have double (j i : Nat) : (s.setDTag k ((s.dTagAt k).taking .dirtyExclusive)).dDouble j i = s.dDouble j i := rfl
  have ok : (s.setDTag k ((s.dTagAt k).taking .dirtyExclusive)).dBlockOk k = s.dBlockOk k := rfl
  generalize s.setDTag k ((s.dTagAt k).taking .dirtyExclusive) = t at f tag double ok ⊢
  have dHas (j : Nat) (b : PAddr) : t.dHas j b ↔ s.dHas j b := by
    by_cases e : j = k
    · subst e
      unfold State.dHas State.dAddr
      rw [tag]
      exact and_congr_right fun _ => and_congr_left fun _ => ⟨fun _ => hk.2.1, fun _ => BlockState.noConfusion⟩
    · exact f.dHas_other e b
  refine ⟨⟨f.keeps, f.sound h ?_ (fun _ => ok.trans (h.parity k hk.1 hk.2.1)) (fun b hb => ?_) fun j b hb hj => h.dOnce j k b hj ((dHas k b).1 hb),
    fun b v hv => ⟨fun j hj => ?_, fun none x hx => ?_, fun none => ?_⟩⟩, dHas, f.sTagFor⟩
  · rw [tag]
    exact ⟨DTag.taking_bad (h.dTags k hk.1).1 _, (h.dTags k hk.1).2.1, fun c => BlockState.noConfusion c⟩
  · have line := (dHas k b).1 hb
    obtain ⟨held, pidx, _, _, data⟩ := h.line k b line
    have way : ((s.dTagAt k).taking .dirtyExclusive).scWay = (s.dTagAt k).scWay := rfl
    constructor
    all_goals rw [tag]
    · exact (f.sHolds _ b).2 held
    · rw [f.sTagFor, way]
      exact pidx
    · exact fun _ => rfl
    · intro _
      rw [f.sTagFor, way, State.sTagFor_of_block (s.block_of_lineOf (line.2.2.symm.trans hk.2.2))]
      exact hd
    · rw [double, f.sDouble, way]
      exact data
  · rw [double]
    exact hv.line j ((dHas j b).1 hj)
  · rw [f.sDouble]
    exact hv.block (fun j hj => none j ((dHas j b).2 hj)) x ((f.sHolds x b).1 hx)
  · rw [f.finalDouble]
    exact hv.memory fun x hx => none x ((f.sHolds x b).2 hx)

theorem State.Sound.dMatch {s : State} (h : s.Sound) {i : Nat} (hi : i < 512) {pa : PAddr} (set : i % 128 = pa.toNat / 32 % 128)
    (hd : ∀ v, s.sHolds v pa → (s.sTagFor v pa).state = .dirtyExclusive) (w : Bool) : s.Took (s.dMatch i pa .dirtyExclusive w) := by
  unfold State.dMatch
  dsimp only
  split
  · next c =>
    simp only [Bool.and_eq_true, bne_iff_ne, beq_iff_eq] at c
    have line : s.dHas (wayKey i w) pa :=
      ⟨wayKey_lt hi w, c.1.1, (lineOf_dAddr_eq_iff s _ pa).2 ⟨c.1.2, by rw [wayKey_div]; exact set⟩⟩
    exact h.takes line (hd _ (h.line _ _ line).held)
  · exact h.took_self

theorem State.Sound.dMatchFrom {p : BitVec 2} (n : Nat) {s : State} (h : s.Sound) {pa : PAddr} (hpa : pa.toNat % 32 = 0)
    (hb : pa.toNat + 32 * n ≤ 2 ^ 40)
    (hd : ∀ a, lineOf pa ≤ lineOf a → lineOf a < lineOf pa + n → ∀ v, s.sHolds v a → (s.sTagFor v a).state = .dirtyExclusive) :
    s.Took (s.dMatchFrom p pa .dirtyExclusive n) := by
  induction n generalizing s pa with
  | zero => exact h.took_self
  | succ n ih =>
    have set : dSet (aliasVa p pa) % 128 = pa.toNat / 32 % 128 := by
      rw [dSet_aliasVa]
      omega
    have here := hd pa (by omega) (by omega)
    have first := h.dMatch (dSet_lt _) set here false
    have second := first.trans (first.evolves.sound.dMatch (dSet_lt (aliasVa p pa)) set (fun v => by
      rw [State.sHolds_iff, first.sTagFor]
      exact here v) true)
    have next : (pa + 32#40).toNat = (pa.toNat + 32) % 2 ^ 40 := BitVec.toNat_add _ _
    refine second.trans (ih second.evolves.sound (by omega) (by omega) fun a low high v => ?_)
    rw [State.sHolds_iff, second.sTagFor]
    refine hd a ?_ ?_ v
    all_goals unfold lineOf at low high ⊢; omega

/-- A block that a way holds with its PIdx bits becomes DirtyExclusive, and its lines with it (R267, R276). -/
structure State.Owns (s t : State) (va : DWord) (pa : PAddr) (w : Bool) : Prop where
  evolves : s.Evolves t
  dHas : ∀ k a, t.dHas k a ↔ s.dHas k a
  tag : t.sTagFor w pa = sTagOf pa (pidxOf va) .dirtyExclusive

/-- The geometry of the lines of a block. -/
theorem State.blockBase_lines (s : State) (pa : PAddr) : (s.blockBase pa).toNat % 32 = 0 ∧
    (s.blockBase pa).toNat + 32 * 2 ^ (s.sBlkBits - 5) ≤ 2 ^ 40 ∧ ∀ a : PAddr, s.block a = s.block pa ↔
      lineOf (s.blockBase pa) ≤ lineOf a ∧ lineOf a < lineOf (s.blockBase pa) + 2 ^ (s.sBlkBits - 5) := by
  have lt := pa.isLt
  have geometry : s.sBlkBits = 6 ∨ s.sBlkBits = 7 := s.geometry_cases.imp And.left And.left
  unfold lineOf
  simp only [s.toNat_blockBase, State.block]
  rcases geometry with e | e <;> rw [e] <;> refine ⟨by omega, by omega, fun a => by omega⟩

/-- The lines of a block take its state, once it is owned. -/
theorem State.Sound.matches {s : State} (h : s.Sound) {p : BitVec 2} {pa : PAddr} {w : Bool} (hw : s.sHolds w pa)
    (hd : (s.sTagFor w pa).state = .dirtyExclusive) : s.Took (s.dMatchFrom p (s.blockBase pa) .dirtyExclusive (2 ^ (s.sBlkBits - 5))) := by
  obtain ⟨aligned, bound, lines⟩ := s.blockBase_lines pa
  refine h.dMatchFrom _ aligned bound fun a low high v hv => ?_
  have block := (lines a).2 ⟨low, high⟩
  rw [h.sOnce a v w hv ((State.sHolds_of_block block w).2 hw), State.sTagFor_of_block block]
  exact hd

theorem State.Sound.own {s : State} (h : s.Sound) {va : DWord} {pa : PAddr} {w : Bool} (hw : s.sHolds w pa)
    (hp : (s.sTagFor w pa).pidx = pidxOf va) : s.Owns (s.own va pa w) va pa w := by
  have tagged := h.retag hw (p := pidxOf va) (.inr rfl) (.inl hp.symm)
  have tag : (s.setSTag (s.sKey pa w) (sTagOf pa (pidxOf va) .dirtyExclusive)).sTagFor w pa = sTagOf pa (pidxOf va) .dirtyExclusive :=
    (State.sTagFor_setSTag h.wf _ _ w pa).trans (if_pos rfl)
  have took := tagged.sound.matches (p := pidxOf va) (pa := pa) (w := w)
    (by rw [State.sHolds_iff, tag]; exact sTagOf_holds pa _ BlockState.noConfusion) (by rw [tag]; rfl)
  exact ⟨tagged.trans took.evolves, took.dHas, (took.sTagFor w pa).trans tag⟩

/-! ## Requests that are answered at once -/

theorem State.Sound.askBlock_eq {s : State} (h : s.Sound) (read : Bool) (pa : PAddr) :
    s.askBlock read pa = (.ack (if read then some .plain else .none), s) := by
  unfold State.askBlock State.errBlock
  rw [h.replies, h.errAddrs]
  exact Prod.ext rfl (setReplies_self h.replies)

theorem State.Sound.upgrade_eq {s : State} (h : s.Sound) (va : DWord) (pa : PAddr) (w : Bool) :
    s.upgrade va pa w = .ok (.dirtyExclusive, false) (s.own va pa w) := by
  unfold State.upgrade
  rw [h.askBlock_eq]
  rfl

theorem State.Sound.sTags_eq {s : State} (h : s.Sound) (pa : PAddr) : s.sTags pa = .ok (s.sTagFor false pa, s.sTagFor true pa) s := by
  have checked (w : Bool) : (s.sTagAt (s.sKey pa w)).checked = ⟨s.sTagFor w pa, false, false⟩ := by
    unfold STag.checked
    rw [(h.sGood _).1]
    rfl
  unfold State.sTags
  dsimp only
  rw [checked, checked]
  exact congrArg (Res.ok _) s.pulseCor_false

/-! ## Finding or filling a secondary block -/

/-- Way w holds the block at an address, with the PIdx bits of a virtual address, in a state. -/
structure State.Ready (s : State) (va : DWord) (pa : PAddr) (w : Bool) (st : BlockState) : Prop where
  held : s.sHolds w pa
  pidx : (s.sTagFor w pa).pidx = pidxOf va
  state : (s.sTagFor w pa).state = st

theorem State.Ready.of_tag {s : State} {va : DWord} {pa : PAddr} {w : Bool} {st : BlockState} (hst : st ≠ .invalid)
    (h : s.sTagFor w pa = sTagOf pa (pidxOf va) st) : s.Ready va pa w st := by
  refine ⟨?_, ?_, ?_⟩
  · rw [State.sHolds_iff, h]
    exact sTagOf_holds pa _ hst
  all_goals rw [h]; rfl

/-- What addresses deliver stands, and a success makes the block ready in the way and state it answers. -/
structure Res.Readies (s : State) (va : DWord) (pa : PAddr) (x : Res (Bool × BlockState)) : Prop where
  meets : x.Meets s.Evolves fun r t => s.Evolves t ∧ t.Ready va pa r.1 r.2

theorem Res.Readies.of_ok {s t : State} {va : DWord} {pa : PAddr} {x : Res (Bool × BlockState)} (h : x.Readies s va pa)
    {r : Bool × BlockState} (e : x = .ok r t) : s.Evolves t ∧ t.Ready va pa r.1 r.2 := h.meets.of_ok e

theorem State.Sound.setMru {s : State} (h : s.Sound) (i : Nat) (b : Bool) : s.Evolves (s.setMru i b) := by
  refine State.SameLines.evolves_of_sound ?_ h
  exact ⟨⟨s.setMru_keeps i b, rfl, rfl, rfl, rfl, rfl⟩, rfl, rfl⟩

/-- An exclusive request to a Shared block (R276). -/
theorem State.Evolves.upgrades {s t : State} (h : s.Evolves t) {va : DWord} {pa : PAddr} {w : Bool} {st : BlockState}
    (ready : t.Ready va pa w st) : ((t.upgrade va pa w).bind fun r u => .ok (w, r.1) u).Readies s va pa := by
  rw [h.sound.upgrade_eq]
  have owns := h.sound.own ready.held ready.pidx
  exact ⟨⟨h.trans owns.evolves, .of_tag BlockState.noConfusion owns.tag⟩⟩

/-- A ready block, and its upgrade where the request is exclusive and the block Shared. -/
theorem State.Evolves.answers {s t : State} (h : s.Evolves t) {va : DWord} {pa : PAddr} {r : Bool × BlockState} (excl : Bool)
    (ready : t.Ready va pa r.1 r.2) :
    (if excl && r.2 == .shared then (t.upgrade va pa r.1).bind fun u v => .ok (r.1, u.1) v else .ok r t).Readies s va pa := by
  split
  · exact h.upgrades ready
  · exact ⟨⟨h, ready⟩⟩

/-- A block found under other PIdx bits: its lines are purged, and its tag takes the new bits (R278). -/
theorem State.Sound.reindexes {s : State} (h : s.Sound) (va : DWord) {pa : PAddr} {w : Bool} (hw : s.sHolds w pa) :
    s.Evolves ((s.purge .inconsistent (s.sTagFor w pa).pidx pa).setSTag (s.sKey pa w) (sTagOf pa (pidxOf va) (s.sTagFor w pa).state)) ∧
    ((s.purge .inconsistent (s.sTagFor w pa).pidx pa).setSTag (s.sKey pa w) (sTagOf pa (pidxOf va) (s.sTagFor w pa).state)).Ready va pa w
      (s.sTagFor w pa).state := by
  obtain ⟨purged, none⟩ := h.purge (s.sTagFor w pa).pidx pa
  generalize s.purge .inconsistent (s.sTagFor w pa).pidx pa = u at purged none ⊢
  have sound := purged.evolves.sound
  have keeps := purged.evolves.keeps
  have tag := purged.sTagFor w pa
  have held : u.sHolds w pa := (State.sHolds_congr tag).2 hw
  have key := keeps.sKey_eq pa w
  have noLine (k : Nat) (a : PAddr) (hk : u.dHas k a) : u.block a ≠ u.block pa := by
    refine sound.no_line held (fun k a hk hp => ?_) hk
    rw [keeps.block_eq, keeps.block_eq]
    exact none k a hk (tag ▸ hp)
  have retagged := sound.retag held (p := pidxOf va) (.inl (congrArg STag.state tag.symm)) (.inr noLine)
  rw [key] at retagged
  exact ⟨purged.evolves.trans retagged,
    .of_tag ((STag.holds_iff _ _).1 hw).1 ((State.sTagFor_setSTag sound.wf _ _ w pa).trans (if_pos key))⟩

theorem State.Sound.sHit {s : State} (h : s.Sound) (va : DWord) {pa : PAddr} (excl : Bool) {w : Bool} (hw : s.sHolds w pa) :
    (s.sHit va pa excl w (s.sTagFor w pa)).Readies s va pa := by
  have marked := h.setMru (s.mruIndex pa) w
  unfold State.sHit
  dsimp only
  by_cases same : (s.sTagFor w pa).pidx = pidxOf va
  · rw [if_pos (beq_iff_eq.2 same)]
    exact marked.answers (r := (w, (s.sTagFor w pa).state)) excl ⟨hw, same, rfl⟩
  · rw [if_neg (show ¬ ((s.sTagFor w pa).pidx == pidxOf va) = true by rwa [beq_iff_eq])]
    obtain ⟨evolves, ready⟩ := marked.sound.reindexes va (pa := pa) (w := w) hw
    exact (marked.trans evolves).answers (r := (w, (s.sTagFor w pa).state)) excl ready

theorem State.Vacant.install {s t : State} {pa : PAddr} {w : Bool} (h : t.Vacant pa w) (evolved : s.Evolves t) (va : DWord) {st : BlockState}
    (hst : st ≠ .invalid) : (t.install va pa w st 0#16).Readies s va pa := by
  have fills := h.fills (pidxOf va) hst
  have marked := fills.sound.setMru (t.mruIndex pa) w
  have flags : t.blockFlags 0#16 = 0#16 := by
    unfold State.blockFlags
    split
    · rfl
    · rfl
  have loaded := State.sLoadQuads_keeps t.sQuads t (t.sKey pa w) 0 (t.blockBase pa).toNat 0#16
  unfold State.install
  dsimp only
  rw [if_pos flags]
  refine ⟨⟨(evolved.trans fills).trans marked, .of_tag hst ?_⟩⟩
  exact (State.sTagFor_setSTag (loaded.wf h.sound.wf) _ _ w pa).trans (if_pos (loaded.sKey_eq pa w))

theorem State.Sound.sMiss {s : State} (h : s.Sound) (va : DWord) {pa : PAddr} (g : BitVec 3) (excl : Bool) (p : STag × STag)
    (absent : ∀ v, ¬ s.sHolds v pa) : (s.sMiss va pa g excl p).Readies s va pa := by
  have evicted := h.sEvict pa (s.sVictim pa p)
  unfold State.sMiss
  dsimp only
  split
  · exact ⟨h.evolves_self⟩
  · next free =>
    have out : s.outgoingHolds pa = false := by
      rw [Bool.or_eq_true, not_or] at free
      simpa using free.1
    have vacant : (s.sEvict .inconsistent pa (s.sVictim pa p)).Vacant pa (s.sVictim pa p) :=
      ⟨evicted.evolves.sound, evicted.empty, fun v hv => absent v (evicted.sHolds v pa hv), evicted.outgoing (absent _) out⟩
    generalize s.sEvict .inconsistent pa (s.sVictim pa p) = t at evicted vacant
    rw [vacant.sound.askBlock_eq]
    exact ⟨(vacant.install evicted.evolves va (t.filledState_ne_invalid _ _)).meets.bind fun _ _ k => (k.1.answers excl k.2).meets⟩

theorem hitWay_eq_none {free h0 h1 : Bool} (h : hitWay free h0 h1 = none) : h0 = false ∧ h1 = false := by
  revert free h0 h1
  decide

/-- Finding or filling a secondary block (R276): every address delivers what it delivered. -/
theorem State.Sound.sEnsure {s : State} (h : s.Sound) (va : DWord) (pa : PAddr) (g : BitVec 3) (excl : Bool) :
    (s.sEnsure va pa g excl).Readies s va pa := by
  unfold State.sEnsure
  rw [h.sTags_eq]
  change Res.Readies s va pa (match hitWay (Config.bothWays s.ctr) ((s.sTagFor false pa).holds pa) ((s.sTagFor true pa).holds pa) with
    | some w => s.sHit va pa excl w (pickWay (s.sTagFor false pa, s.sTagFor true pa) w)
    | .none => s.sMiss va pa g excl (s.sTagFor false pa, s.sTagFor true pa))
  split
  · next w hit =>
    have held : s.sHolds w pa := by
      have := hitWay_eq_some hit
      cases w <;> exact this
    have pick : pickWay (s.sTagFor false pa, s.sTagFor true pa) w = s.sTagFor w pa := by cases w <;> rfl
    rw [pick]
    exact h.sHit va excl held
  · next miss =>
    refine h.sMiss va g excl _ fun v hv => ?_
    obtain ⟨none0, none1⟩ := hitWay_eq_none miss
    cases v with
    | false => exact Bool.false_ne_true (none0.symm.trans hv)
    | true => exact Bool.false_ne_true (none1.symm.trans hv)

end Sys2Proof.Machine

end

section
/-! PROOFS. The words of a data block: after a refill and after a store (R265, R267, R268, R300). -/

namespace Sys2Proof.Machine

/-! ## Parity of a data word -/

theorem getLsbD_byteParity (w : Word) {j : Nat} (hj : j < 4) : (byteParity w).getLsbD j = parityBit (w.extractLsb' (8 * j) 8) := by
  have cases : j = 0 ∨ j = 1 ∨ j = 2 ∨ j = 3 := by omega
  unfold byteParity
  simp only [BitVec.getLsbD_append, BitVec.getLsbD_ofBool]
  rcases cases with rfl | rfl | rfl | rfl <;> rfl

theorem DLine.parityOk_iff (l : DLine) : l.parityOk 0xF#4 = true ↔ l.parity = byteParity l.data := by
  unfold DLine.parityOk
  rw [beq_iff_eq, show (0xF#4) = BitVec.allOnes 4 from rfl, BitVec.and_allOnes, BitVec.xor_eq_zero_iff]

theorem dLineOf_parityOk (w : Word) : (dLineOf w).parityOk 0xF#4 = true := (DLine.parityOk_iff _).2 rfl

/-- A store into a word with right parity leaves right parity (R300). -/
theorem DLine.merge_parityOk {l : DLine} (h : l.parityOk 0xF#4 = true) (lanes : BitVec 4) (w : Word) :
    (l.merge lanes w).parityOk 0xF#4 = true := by
  rw [DLine.parityOk_iff] at h ⊢
  have parity : (l.merge lanes w).parity = mergeMask lanes l.parity (byteParity (l.merge lanes w).data) := rfl
  rw [parity]
  apply BitVec.eq_of_getLsbD_eq
  intro j hj
  rw [getLsbD_mergeMask]
  split
  · rfl
  · next unselected =>
    rw [h, getLsbD_byteParity _ hj, getLsbD_byteParity _ hj]
    refine congrArg parityBit (BitVec.eq_of_getLsbD_eq fun i hi => ?_)
    rw [BitVec.getLsbD_extractLsb', BitVec.getLsbD_extractLsb', getLsbD_mergeWord _ _ _ (by omega), show (8 * j + i) / 8 = j by omega,
      if_neg unselected]

theorem State.dBlockOk_iff (s : State) (k : Nat) : s.dBlockOk k = true ↔ ∀ i < 8, (s.dWordAt k i).parityOk 0xF#4 = true := by
  unfold State.dBlockOk
  rw [List.all_eq_true]
  exact ⟨fun h i hi => h i (List.mem_range.2 hi), fun h i hi => h i (List.mem_range.1 hi)⟩

/-! ## A refill's words -/

theorem doubleOf_wordsOf (be : Bool) (d : DWord) : doubleOf be (wordsOf be d).1 (wordsOf be d).2 = d := by
  apply BitVec.eq_of_getLsbD_eq
  intro i hi
  have word : i % 32 < 32 := Nat.mod_lt _ (by omega)
  rw [getLsbD_doubleOf _ _ _ hi, (getLsbD_wordsOf be d word).1, (getLsbD_wordsOf be d word).2]
  by_cases h : i < 32
  · have e : i % 32 = i := Nat.mod_eq_of_lt h
    cases be <;> simp [h, e]
  · have e : 32 + i % 32 = i := by omega
    cases be <;> simp [h, e]

/-- The words of a data block, from its doublewords. -/
def blockWords (be : Bool) (f : Nat → DWord) : List Word :=
  [(wordsOf be (f 0)).1, (wordsOf be (f 0)).2, (wordsOf be (f 1)).1, (wordsOf be (f 1)).2,
    (wordsOf be (f 2)).1, (wordsOf be (f 2)).2, (wordsOf be (f 3)).1, (wordsOf be (f 3)).2]

/-- Those of two quadwords. -/
theorem quadWords_pair (be : Bool) (f : Nat → DWord) :
    quadWords be (f 0 ++ f 1) ++ quadWords be (f 2 ++ f 3) = blockWords be f := by
  unfold quadWords
  rw [quadEven_append, quadEven_append, quadOdd_append, quadOdd_append]
  rfl

theorem State.putDWords_same (l : List Word) (s : State) (k i : Nat) : (s.putDWords k i l).caches.dTag = s.caches.dTag ∧
    (s.putDWords k i l).caches.sTag = s.caches.sTag ∧ (s.putDWords k i l).caches.sData = s.caches.sData ∧
    (s.putDWords k i l).mem = s.mem ∧ (s.putDWords k i l).bus = s.bus := by
  induction l generalizing s i with
  | nil => exact ⟨rfl, rfl, rfl, rfl, rfl⟩
  | cons w l ih => exact ih _ _

theorem State.dWordAt_putDWords (l : List Word) {s : State} (hc : s.canonical = true) (k i k' i' : Nat) (hi : i + l.length ≤ 8) (hi' : i' < 8) :
    (s.putDWords k i l).dWordAt k' i' = if k' = k ∧ i ≤ i' ∧ i' < i + l.length then dLineOf (l.getD (i' - i) 0) else s.dWordAt k' i' := by
  induction l generalizing s i with
  | nil => rw [if_neg (by simp)]; rfl
  | cons w l ih =>
    rw [List.length_cons] at hi ⊢
    rw [State.putDWords, ih ((s.setDWord_keeps _ _ _).wf hc) _ (by omega), State.dWordAt_setDWord hc]
    by_cases first : k' = k ∧ i' = i
    · rw [if_neg (by omega), if_pos (by omega), if_pos (by omega), first.2, Nat.sub_self]
      rfl
    · rw [if_neg (show ¬ 8 * k' + i' = 8 * k + i by omega)]
      by_cases later : k' = k ∧ i + 1 ≤ i' ∧ i' < i + 1 + l.length
      · rw [if_pos later, if_pos (by omega), show i' - i = (i' - (i + 1)) + 1 by omega, List.getD_cons_succ]
      · rw [if_neg later, if_neg (by omega)]

theorem State.dWordAt_blockWords (s : State) (hc : s.canonical = true) (k : Nat) (f : Nat → DWord) (k' : Nat) {i : Nat} (hi : i < 8) :
    (s.putDWords k 0 (blockWords s.memEnd f)).dWordAt k' i =
      if k' = k then dLineOf ((blockWords s.memEnd f).getD i 0) else s.dWordAt k' i := by
  have size : 0 + (blockWords s.memEnd f).length = 8 := rfl
  rw [State.dWordAt_putDWords _ hc k 0 k' i (Nat.le_of_eq size) hi, size]
  by_cases e : k' = k
  · rw [if_pos ⟨e, Nat.zero_le i, hi⟩, if_pos e, Nat.sub_zero]
  · rw [if_neg fun c => e c.1, if_neg e]

/-- After a refill the entry has the doublewords, with right parity, and the others are as they were. -/
theorem State.dDouble_putDWords {s : State} (hc : s.canonical = true) (k : Nat) (f : Nat → DWord) (k' j : Nat) (hj : j < 4) :
    (s.putDWords k 0 (blockWords s.memEnd f)).dDouble k' j = if k' = k then f j else s.dDouble k' j := by
  have be : (s.putDWords k 0 (blockWords s.memEnd f)).memEnd = s.memEnd := (State.putDWords_keeps _ s k 0).core.memEnd_eq
  rw [State.dDouble, be, s.dWordAt_blockWords hc k f k' (by omega), s.dWordAt_blockWords hc k f k' (by omega)]
  by_cases e : k' = k
  · rw [if_pos e, if_pos e, if_pos e]
    refine Eq.trans ?_ (doubleOf_wordsOf s.memEnd (f j))
    have cases : j = 0 ∨ j = 1 ∨ j = 2 ∨ j = 3 := by omega
    rcases cases with rfl | rfl | rfl | rfl <;> rfl
  · rw [if_neg e, if_neg e, if_neg e]
    rfl

theorem State.dBlockOk_putDWords {s : State} (hc : s.canonical = true) (k : Nat) (f : Nat → DWord) {k' : Nat}
    (h : k' ≠ k → s.dBlockOk k' = true) : (s.putDWords k 0 (blockWords s.memEnd f)).dBlockOk k' = true := by
  rw [State.dBlockOk_iff]
  intro i hi
  rw [s.dWordAt_blockWords hc k f k' hi]
  split
  · exact dLineOf_parityOk _
  · next other => exact (s.dBlockOk_iff k').1 (h other) i hi

/-! ## A store's words -/

theorem State.dBlockOk_storeLine {s : State} (hc : s.canonical = true) {k j : Nat} (hj : j < 4) (lanes : BitVec 8) (d : DWord) {k' : Nat}
    (h : s.dBlockOk k' = true) : (s.storeLine k j lanes d).dBlockOk k' = true := by
  rw [State.dBlockOk_iff] at h ⊢
  intro i hi
  rw [State.dWordAt_storeLine hc]
  split
  · next e =>
    obtain ⟨rfl, rfl⟩ : k' = k ∧ i = 2 * j + 1 := by omega
    exact DLine.merge_parityOk (h _ hi) _ _
  · split
    · next e =>
      obtain ⟨rfl, rfl⟩ : k' = k ∧ i = 2 * j := by omega
      exact DLine.merge_parityOk (h _ hi) _ _
    · exact h i hi

end Sys2Proof.Machine

end

section
/-! PROOFS. Coherent caches when a data block is refilled and when it is stored into (R265, R267, R268, R276). -/

namespace Sys2Proof.Machine

/-! ## A refill -/

theorem dTagOf_bad (g : BitVec 28) (st : BlockState) (w : Bool) : (dTagOf g st 0b001#3 w).bad = false :=
  (DTag.bad_eq_false_iff _).2 ⟨rfl, rfl, show (0b001#3 == 0b001#3 || 0b001#3 == 0b010#3 || 0b001#3 == 0b100#3) = true by decide⟩

theorem dTagOf_consistent (g : BitVec 28) (st : BlockState) (w : Bool) : (dTagOf g st 0b001#3 w).inconsistent = false :=
  show (0b001#3 == 0b010#3) = false by decide

/-- From s to t entry k, which held nothing, comes to hold the data block at an address as way w of the secondary cache has it. -/
structure State.Fills (s t : State) (k : Nat) (pa : PAddr) (w : Bool) (st : BlockState) : Prop extends s.Rewrites t k where
  tag : t.dTagAt k = dTagOf (pageOf pa) st 0b001#3 w
  data : ∀ a, lineOf pa = lineOf a → t.dDouble k (dIdx a) = s.sDouble w a
  parity : t.dBlockOk k = true

/-- The refill itself. -/
theorem State.fills_putDWords {s : State} (hc : s.canonical = true) (k : Nat) (pa : PAddr) (w : Bool) (st : BlockState) {f : Nat → DWord}
    (hf : ∀ a, lineOf pa = lineOf a → f (dIdx a) = s.sDouble w a) :
    s.Fills ((s.putDWords k 0 (blockWords s.memEnd f)).setDTag k (dTagOf (pageOf pa) st 0b001#3 w)) k pa w st := by
  have put := State.putDWords_keeps (blockWords s.memEnd f) s k 0
  obtain ⟨dTag, sTag, sData, mem, bus⟩ := State.putDWords_same (blockWords s.memEnd f) s k 0
  have tag := State.dTagAt_setDTag (put.wf hc) k (t := dTagOf (pageOf pa) st 0b001#3 w)
  refine ⟨⟨put.trans (State.setDTag_keeps _ _ _), sTag, sData, mem, bus, fun j hj => ⟨((tag j).trans (if_neg hj)).trans
    (State.dTagAt_congr dTag j), fun i hi => (State.dDouble_putDWords hc k f j i hi).trans (if_neg hj),
      fun ok => State.dBlockOk_putDWords hc k f fun _ => ok⟩⟩, (tag k).trans (if_pos rfl), fun a ha => ?_,
    State.dBlockOk_putDWords hc k f fun e => absurd rfl e⟩
  exact ((State.dDouble_putDWords hc k f k _ (dIdx_lt a)).trans (if_pos rfl)).trans (hf a ha)

section
variable {s t : State} {k : Nat} {pa : PAddr} {w : Bool} {st : BlockState} (f : s.Fills t k pa w st)
include f

variable (hk : k < 1024) (set : k / 2 % 128 = pa.toNat / 32 % 128) (hst : st ≠ .invalid)
include hk set hst

theorem State.Fills.dHas_self (a : PAddr) : t.dHas k a ↔ lineOf pa = lineOf a := by
  have line : lineOf (t.dAddr k) = lineOf pa := (lineOf_dAddr_eq_iff t k pa).2 ⟨by rw [f.tag]; rfl, set⟩
  unfold State.dHas
  rw [line, f.tag]
  exact ⟨fun h => h.2.2, fun h => ⟨hk, hst, h⟩⟩

/-- A refill of an entry that held nothing, from the way that holds the block, where no entry held the line. -/
theorem State.Fills.evolves {va : DWord} (h : s.Sound) (ready : s.Ready va pa w st) (hp : k / 256 = (pidxOf va).toNat)
    (gone : ∀ a, ¬ s.dHas k a) (absent : ∀ j, ¬ s.dHas j pa) : s.Evolves t := by
  have self := f.dHas_self hk set hst
  have alone {a : PAddr} (line : lineOf pa = lineOf a) (j : Nat) : ¬ s.dHas j a :=
    fun hj => absent j ⟨hj.1, hj.2.1, hj.2.2.trans line.symm⟩
  refine ⟨f.keeps, f.sound h ?_ (fun _ => f.parity) (fun a hj => ?_) fun j a hj hi => absurd hi (alone ((self a).1 hj) j),
    fun a v hv => ⟨fun j hj => ?_, fun none x hx => ?_, fun none => ?_⟩⟩
  · rw [f.tag]
    exact ⟨dTagOf_bad _ _ _, show (0b001#3) ≠ 0b100#3 by decide, fun _ => dTagOf_consistent _ _ _⟩
  · have line := (self a).1 hj
    have block := s.block_of_lineOf line
    obtain ⟨held, pidx, state⟩ := ready
    rw [State.sTagFor_of_block block] at pidx state
    constructor
    all_goals rw [f.tag]
    · exact (f.sHolds w a).2 ((State.sHolds_of_block block w).1 held)
    · rw [hp, ← pidx]
      exact congrArg (fun t : STag => t.pidx.toNat) (f.sTagFor w a)
    · intro c
      rw [dTagOf_consistent] at c
      exact absurd c Bool.false_ne_true
    · intro c
      exact ((congrArg STag.state (f.sTagFor w a)).trans state).trans c
    · intro _
      exact (f.data a line).trans (f.sDouble w a).symm
  · by_cases e : j = k
    · subst e
      have line := (self a).1 hj
      rw [f.data a line]
      exact hv.block (alone line) w ((State.sHolds_of_block (s.block_of_lineOf line) w).1 ready.held)
    · rw [(f.other j e).2.1 _ (dIdx_lt a)]
      exact hv.line j ((f.dHas_other e a).1 hj)
  · rw [f.sDouble]
    refine hv.block (fun j hj => ?_) x ((f.sHolds x a).1 hx)
    have e : j ≠ k := fun e => gone a (e ▸ hj)
    exact none j ((f.dHas_other e a).2 hj)
  · rw [f.finalDouble]
    exact hv.memory fun x hx => none x ((f.sHolds x a).2 hx)
end

/-! ## A store -/

/-- A doubleword after a store of lanes of another into it. -/
def storedInto (pa : PAddr) (lanes : BitVec 8) (d : DWord) (a : PAddr) (v : DWord) : DWord :=
  if a.toNat / 8 = pa.toNat / 8 then mergeMask (laneMask lanes) v d else v

/-- From s to t the lanes of a doubleword were stored at an address; the addresses deliver that. -/
structure State.Stores (s t : State) (pa : PAddr) (lanes : BitVec 8) (d : DWord) : Prop where
  keeps : s.Keeps t
  sound : t.Sound
  delivers : ∀ a v, s.Delivers a v → t.Delivers a (storedInto pa lanes d a v)

theorem div_eight_eq_iff (a b : PAddr) : a.toNat / 8 = b.toNat / 8 ↔ lineOf a = lineOf b ∧ dIdx a = dIdx b := by
  unfold lineOf dIdx
  omega

theorem DTag.stored_bad {t : DTag} (h : t.bad = false) : t.stored.bad = false :=
  (DTag.bad_eq_false_iff _).2 ⟨((DTag.bad_eq_false_iff t).1 h).1, rfl,
    show (0b010#3 == 0b001#3 || 0b010#3 == 0b010#3 || 0b010#3 == 0b100#3) = true by decide⟩

theorem DTag.stored_inconsistent (t : DTag) : t.stored.inconsistent = true := show (0b010#3 == 0b010#3) = true by decide

theorem State.storeLine_rewrites {s : State} (hc : s.canonical = true) (k : Nat) {i : Nat} (hi : i < 4) (lanes : BitVec 8) (d : DWord) :
    s.Rewrites (s.storeLine k i lanes d) k :=
  ⟨s.storeLine_keeps k i lanes d, rfl, rfl, rfl, rfl, fun j hj => ⟨(State.dTagAt_storeLine hc k i lanes d j).trans (if_neg hj),
    fun n hn => (State.dDouble_storeLine hc hi lanes d j n hn).trans (if_neg fun c => hj c.1), State.dBlockOk_storeLine hc hi lanes d⟩⟩

/-- A store into a line of an owned block (R267). -/
theorem State.Sound.storeLine {s : State} (h : s.Sound) {k : Nat} {pa : PAddr} (hk : s.dHas k pa)
    (hd : (s.sTagFor (s.dTagAt k).scWay pa).state = .dirtyExclusive) (lanes : BitVec 8) (d : DWord) :
    s.Stores (s.storeLine k (dIdx pa) lanes d) pa lanes d := by
  have f := State.storeLine_rewrites h.wf k (dIdx_lt pa) lanes d
  have tag := (State.dTagAt_storeLine h.wf k (dIdx pa) lanes d k).trans (if_pos rfl)
  have double (a : PAddr) := State.dDouble_storeLine h.wf (dIdx_lt pa) lanes d (k := k) k (dIdx a) (dIdx_lt a)
  have ok := State.dBlockOk_storeLine h.wf (dIdx_lt pa) lanes d (k := k) (h.parity k hk.1 hk.2.1)
  generalize s.storeLine k (dIdx pa) lanes d = t at f tag double ok ⊢
  have dHas (j : Nat) (a : PAddr) : t.dHas j a ↔ s.dHas j a := by
    by_cases e : j = k
    · subst e
      unfold State.dHas State.dAddr
      rw [tag]
      exact and_congr_right fun _ => and_congr_left fun _ => ⟨fun _ => hk.2.1, fun _ => BlockState.noConfusion⟩
    · exact f.dHas_other e a
  have here {a : PAddr} (c : a.toNat / 8 = pa.toNat / 8) : s.dHas k a := ⟨hk.1, hk.2.1, hk.2.2.trans ((div_eight_eq_iff a pa).1 c).1.symm⟩
  refine ⟨f.keeps, f.sound h ?_ (fun _ => ok) (fun a hj => ?_) fun j a hj hi => h.dOnce j k a hi ((dHas k a).1 hj),
    fun a v hv => ⟨fun j hj => ?_, fun none x hx => ?_, fun none => ?_⟩⟩
  · rw [tag]
    exact ⟨DTag.stored_bad (h.dTags k hk.1).1, show (0b010#3) ≠ 0b100#3 by decide, fun c => BlockState.noConfusion c⟩
  · have line := (dHas k a).1 hj
    obtain ⟨held, pidx, _⟩ := h.line k a line
    have way : ((s.dTagAt k).stored).scWay = (s.dTagAt k).scWay := rfl
    constructor
    all_goals rw [tag]
    · exact (f.sHolds _ a).2 held
    · rw [f.sTagFor, way]
      exact pidx
    · exact fun _ => rfl
    · intro _
      rw [f.sTagFor, way, State.sTagFor_of_block (s.block_of_lineOf (line.2.2.symm.trans hk.2.2))]
      exact hd
    · intro c
      rw [DTag.stored_inconsistent] at c
      exact absurd c.symm Bool.false_ne_true
  · have line := (dHas j a).1 hj
    have old := hv.line j line
    unfold storedInto
    by_cases e : j = k
    · subst e
      rw [double]
      have same : a.toNat / 8 = pa.toNat / 8 ↔ dIdx a = dIdx pa := by
        rw [div_eight_eq_iff]
        exact and_iff_right (line.2.2.symm.trans hk.2.2)
      by_cases c : dIdx a = dIdx pa
      · rw [if_pos ⟨rfl, c⟩, if_pos (same.2 c), ← old, c]
      · rw [if_neg fun x => c x.2, if_neg fun x => c (same.1 x), old]
    · rw [(f.other j e).2.1 _ (dIdx_lt a), old, if_neg]
      exact fun c => e (h.dOnce j k a line (here c))
  · rw [f.sDouble, storedInto, if_neg fun c => none k ((dHas k a).2 (here c))]
    exact hv.block (fun j hj => none j ((dHas j a).2 hj)) x ((f.sHolds x a).1 hx)
  · rw [f.finalDouble, storedInto, if_neg fun c => none _ ((f.sHolds _ a).2 (h.line k a (here c)).held)]
    exact hv.memory fun x hx => none x ((f.sHolds x a).2 hx)

end Sys2Proof.Machine

end

section
/-! PROOFS. Cached loads and stores in coherent caches: what every address delivers stands, but for the bytes a store writes (R267, R268, R276,
R290, R500). -/

namespace Sys2Proof.Machine

/-! ## Finding or filling a data block -/

/-- The set index of a virtual address and the page of its physical address name one line; the PIdx bits are of the former (R265, R278). -/
theorem dSet_of_mod {va : DWord} {pa : PAddr} (h : va.toNat % 4096 = pa.toNat % 4096) (w : Bool) :
    wayKey (dSet va) w / 2 % 128 = pa.toNat / 32 % 128 ∧ wayKey (dSet va) w / 256 = (pidxOf va).toNat := by
  have pidxEq : (pidxOf va).toNat = va.toNat / 4096 % 4 := by
    rw [pidxOf, BitVec.extractLsb'_toNat, Nat.shiftRight_eq_div_pow]
  have half := wayKey_div (dSet va) w
  rw [dSet_eq] at half ⊢
  omega

theorem dIndex_of_mod {va : DWord} {pa : PAddr} (h : va.toNat % 4096 = pa.toNat % 4096) : dIndex va = dIdx pa := by
  rw [dIndex, BitVec.extractLsb'_toNat, Nat.shiftRight_eq_div_pow, dIdx]
  omega

/-- In coherent caches a tag holds a block exactly if its line does. -/
theorem State.Sound.holds_iff {s : State} (h : s.Sound) {va : DWord} {pa : PAddr} (hm : va.toNat % 4096 = pa.toNat % 4096) (w : Bool) :
    (s.dTagAt (wayKey (dSet va) w)).holds pa = true ↔ s.dHas (wayKey (dSet va) w) pa := by
  have bound := wayKey_lt (dSet_lt va) w
  have mod := (h.dTags _ bound).2.1
  unfold State.dHas
  rw [DTag.holds_iff, lineOf_dAddr_eq_iff]
  exact ⟨fun ⟨valid, tag⟩ => ⟨bound, valid.resolve_right mod, tag, (dSet_of_mod hm w).1⟩, fun ⟨_, valid, tag, _⟩ => ⟨.inl valid, tag⟩⟩

/-- A line of the block at an address, where a ready secondary block fixes its PIdx bits, stands in the set of the virtual address. -/
theorem State.Sound.key_of_ready {s : State} (h : s.Sound) {va : DWord} {pa : PAddr} (hm : va.toNat % 4096 = pa.toNat % 4096) {w : Bool}
    {st : BlockState} (ready : s.Ready va pa w st) {k : Nat} (hk : s.dHas k pa) : ∃ v, k = wayKey (dSet va) v := by
  obtain ⟨held, pidx, _⟩ := h.line k pa hk
  rw [h.sOnce pa _ w held ready.held, ready.pidx] at pidx
  obtain ⟨v, e⟩ := State.key_of_dHas hk pidx.symm rfl
  refine ⟨v, e.trans (congrArg (wayKey · v) ?_)⟩
  have set := dSet_of_mod hm false
  rw [wayKey_div] at set
  rw [dSet_aliasVa, ← set.2]
  have := wayKey_div (dSet va) false
  omega

theorem State.Sound.setDLru {s : State} (h : s.Sound) (i : Nat) (b : Bool) : s.Evolves (s.setDLru i b) := by
  refine State.SameLines.evolves_of_sound ?_ h
  exact ⟨⟨s.setDLru_keeps i b, rfl, rfl, rfl, rfl, rfl⟩, rfl, rfl⟩

/-- What addresses deliver stands, and a success has the line at the way it answers. -/
structure Res.Finds (s : State) (va : DWord) (pa : PAddr) (x : Res Bool) : Prop where
  meets : x.Meets s.Evolves fun w t => s.Evolves t ∧ t.dHas (wayKey (dSet va) w) pa

theorem Res.Finds.of_ok {s t : State} {va : DWord} {pa : PAddr} {x : Res Bool} (h : x.Finds s va pa) {w : Bool} (e : x = .ok w t) :
    s.Evolves t ∧ t.dHas (wayKey (dSet va) w) pa := h.meets.of_ok e

/-- The two quadwords of a data block, as a refill reads them. -/
theorem State.Sound.lineQuads {s : State} (h : s.Sound) {va : DWord} {pa : PAddr} (hm : va.toNat % 4096 = pa.toNat % 4096) (w : Bool) :
    ∃ f : Nat → DWord, (∀ a, lineOf pa = lineOf a → f (dIdx a) = s.sDouble w a) ∧
      s.sReadQuads (s.sKey pa w) (s.sQuadIndex (dBlockAddr (pageOf pa) (dSet va))) 2 =
        ⟨[(f 0 ++ f 1, false), (f 2 ++ f 3, false)], false, false⟩ := by
  have base : (dBlockAddr (pageOf pa) (dSet va)).toNat = pa.toNat / 32 * 32 := by
    have set := (dSet_of_mod hm false).1
    rw [wayKey_div] at set
    rw [toNat_dBlockAddr, toNat_pageOf, set]
    omega
  generalize hq : s.sQuadIndex (dBlockAddr (pageOf pa) (dSet va)) = q
  rw [s.sQuadIndex_eq, base] at hq
  refine ⟨fun j => (s.sQuadAt (s.sKey pa w) (q + j / 2)).data.extractLsb' (if j % 2 = 0 then 64 else 0) 64, fun a line => ?_, ?_⟩
  · have index : s.sQuadIndex a = q + dIdx a / 2 := by
      unfold lineOf at line
      rw [s.sQuadIndex_eq, dIdx]
      rcases s.geometry_cases with ⟨_, e⟩ | ⟨_, e⟩ <;> rw [e] at hq ⊢ <;> omega
    rw [State.sDouble, State.sKey_of_block (s.block_of_lineOf line.symm), index, quadPart_eq_of_dIdx]
  · rw [h.sReadQuads_eq]
    have list : s.sQuadsFrom (s.sKey pa w) q 2 = [s.sQuadAt (s.sKey pa w) q, s.sQuadAt (s.sKey pa w) (q + 1)] := rfl
    rw [list]
    have pair (i : Nat) := eq_append_extractLsb' (s.sQuadAt (s.sKey pa w) i).data
    rw [List.map_cons, List.map_cons, List.map_nil, pair q, pair (q + 1)]
    rfl

theorem State.Evolves.ready_of_sTagFor {s t : State} (hs : ∀ v a, t.sTagFor v a = s.sTagFor v a) {va : DWord} {pa : PAddr} {w : Bool}
    {st : BlockState} (h : s.Ready va pa w st) : t.Ready va pa w st := by
  obtain ⟨held, pidx, state⟩ := h
  rw [State.sHolds_iff] at held
  rw [← hs] at held pidx state
  exact ⟨held, pidx, state⟩

/-- A refill (R268). -/
theorem State.Sound.dFill {s : State} (h : s.Sound) {va : DWord} {pa : PAddr} (hm : va.toNat % 4096 = pa.toNat % 4096) (w : Bool) {sw : Bool}
    {st : BlockState} (ready : s.Ready va pa sw st) (absent : ∀ k, ¬ s.dHas k pa) : (s.dFill va pa w sw st).Finds s va pa := by
  obtain ⟨f, double, read⟩ := h.lineQuads hm sw
  have drops := h.drops (dSet_lt va) w
  unfold State.dFill
  dsimp only
  rw [read, State.reportSData_clean]
  generalize (s.dWriteBack (dSet va) w).dInvalidate (wayKey (dSet va) w) = t at drops ⊢
  have evolves := drops.evolves
  refine ⟨Res.Meets.bind (Q := fun _ u => u = t) (State.goOn_meets evolves rfl) ?_⟩
  rintro _ t rfl
  have none (k : Nat) : ¬ t.dHas k pa := fun hk => absent k (drops.dHas hk).1
  have readyT : t.Ready va pa sw st := State.Evolves.ready_of_sTagFor drops.sTagFor ready
  have doubleT (a : PAddr) (line : lineOf pa = lineOf a) : f (dIdx a) = t.sDouble sw a := by
    have block := s.block_of_lineOf line
    have alone {u : State} (hu : ∀ k, ¬ u.dHas k pa) (k : Nat) : ¬ u.dHas k a := fun hk => hu k ⟨hk.1, hk.2.1, hk.2.2.trans line.symm⟩
    have held := (State.sHolds_of_block block sw).1 ready.held
    have delivered : s.Delivers a (s.sDouble sw a) := ⟨fun k hk => absurd hk (alone absent k),
      fun _ v hv => by rw [h.sOnce a v sw hv held], fun c => absurd held (c sw)⟩
    rw [double a line, (evolves.delivers a _ delivered).block (alone none) sw]
    exact (State.sHolds_of_block (t.block_of_lineOf line) sw).1 readyT.held
  have words : [(f 0 ++ f 1, false), (f 2 ++ f 3, false)].flatMap (fun x : QWord × Bool => quadWords t.memEnd x.1) = blockWords t.memEnd f := by
    rw [← quadWords_pair]
    rfl
  rw [words]
  have valid : st ≠ .invalid := ready.state ▸ ((STag.holds_iff _ _).1 ready.held).1
  have bound := wayKey_lt (dSet_lt va) w
  obtain ⟨set, pidxEq⟩ := dSet_of_mod hm w
  have fills := State.fills_putDWords evolves.sound.wf (wayKey (dSet va) w) pa sw st doubleT
  have filled := fills.evolves bound set valid evolves.sound readyT pidxEq (fun a hk => (drops.dHas hk).2 rfl) none
  have line := (fills.dHas_self bound set valid pa).2 rfl
  exact ⟨(evolves.trans filled).trans (filled.sound.setDLru (dSet va) (!w)), line⟩

theorem State.Sound.dTags_eq {s : State} (h : s.Sound) (va : DWord) :
    s.dTags va = .ok (s.dTagAt (wayKey (dSet va) false), s.dTagAt (wayKey (dSet va) true)) s := by
  have good (w : Bool) : (s.dTagAt (wayKey (dSet va) w)).bad = false := (h.dTags _ (wayKey_lt (dSet_lt va) w)).1
  unfold State.dTags
  dsimp only
  rw [good, good]
  rfl

/-- A hit (R276). -/
theorem State.Sound.dHit {s : State} (h : s.Sound) {va : DWord} {pa : PAddr} (hm : va.toNat % 4096 = pa.toNat % 4096) (excl : Bool) {w : Bool}
    (hw : s.dHas (wayKey (dSet va) w) pa) : (s.dHit va pa excl w (s.dTagAt (wayKey (dSet va) w))).Finds s va pa := by
  have marked := h.setDLru (dSet va) (!w)
  obtain ⟨held, pidx, _⟩ := h.line _ pa hw
  unfold State.dHit
  dsimp only
  split
  · exact ⟨trivial⟩
  · split
    · rw [marked.sound.upgrade_eq]
      have pidxEq : (s.sTagFor (s.dTagAt (wayKey (dSet va) w)).scWay pa).pidx = pidxOf va :=
        BitVec.eq_of_toNat_eq (pidx.trans (dSet_of_mod hm w).2)
      have owns := marked.sound.own (va := va) (pa := pa) held pidxEq
      exact ⟨⟨marked.trans owns.evolves, (owns.dHas _ pa).2 hw⟩⟩
    · exact ⟨⟨marked, hw⟩⟩

/-- Finding or filling a data block (R266, R268, R276): every address delivers what it delivered. -/
theorem State.Sound.dEnsure {s : State} (h : s.Sound) {va : DWord} {pa : PAddr} (hm : va.toNat % 4096 = pa.toNat % 4096) (g : BitVec 3)
    (excl : Bool) (pref : Option Bool) : (s.dEnsure va pa g excl pref).Finds s va pa := by
  unfold State.dEnsure
  rw [h.dTags_eq]
  change Res.Finds s va pa (match hitWay (Config.bothWays s.ctr) ((s.dTagAt (wayKey (dSet va) false)).holds pa)
      ((s.dTagAt (wayKey (dSet va) true)).holds pa) with
    | some w => s.dHit va pa excl w (pickWay (s.dTagAt (wayKey (dSet va) false), s.dTagAt (wayKey (dSet va) true)) w)
    | .none => (s.sEnsure va pa g excl).bind fun r s =>
        s.dFill va pa (pref.getD (s.dLruAt (dSet va) != Config.dVictim s.ctr)) r.1 r.2)
  split
  · next w hit =>
    have held : (s.dTagAt (wayKey (dSet va) w)).holds pa = true := by
      have := hitWay_eq_some hit
      cases w <;> exact this
    have pick : pickWay (s.dTagAt (wayKey (dSet va) false), s.dTagAt (wayKey (dSet va) true)) w = s.dTagAt (wayKey (dSet va) w) := by
      cases w <;> rfl
    rw [pick]
    exact h.dHit hm excl ((h.holds_iff hm w).1 held)
  · next miss =>
    obtain ⟨none0, none1⟩ := hitWay_eq_none miss
    have moves := s.sEnsure_moves va pa g excl
    have readies := (h.sEnsure va pa g excl).meets
    generalize s.sEnsure va pa g excl = x at moves readies
    cases x with
    | ok r t =>
      obtain ⟨evolves, ready⟩ := readies
      have absent (k : Nat) (hk : t.dHas k pa) : False := by
        obtain ⟨v, rfl⟩ := evolves.sound.key_of_ready hm ready hk
        have old := moves.1.holds h.wf _ pa ((evolves.sound.holds_iff hm v).2 hk)
        cases v with
        | false => exact Bool.false_ne_true (none0.symm.trans old)
        | true => exact Bool.false_ne_true (none1.symm.trans old)
      exact ⟨(evolves.sound.dFill hm _ ready absent).meets.imp (fun _ => evolves.trans) fun _ _ k => ⟨evolves.trans k.1, k.2⟩⟩
    | busError t => exact ⟨readies⟩
    | cacheError t => exact ⟨readies⟩
    | wait t => exact ⟨readies⟩
    | stop => exact ⟨trivial⟩

/-! ## Loads and stores -/

/-- A cached load delivers what its address delivers. -/
theorem State.Sound.dLoad {s t : State} (h : s.Sound) {va : DWord} {pa : PAddr} (hm : va.toNat % 4096 = pa.toNat % 4096) {g : BitVec 3}
    {l : BitVec 8} {d : DWord} (load : s.dLoad va pa g l = .ok d t) : s.Evolves t ∧ ∀ v, s.Delivers pa v → d = v := by
  obtain ⟨w, u, ensured, load⟩ := Res.bind_eq_ok load
  obtain ⟨evolves, line⟩ := (h.dEnsure hm g false .none).of_ok ensured
  have right (i : Nat) (hi : i < 8) (lanes : BitVec 4) : (u.dWordAt (wayKey (dSet va) w) i).parityOk lanes = true := by
    have ok := (u.dBlockOk_iff _).1 (evolves.sound.parity _ line.1 line.2.1) i hi
    rw [DLine.parityOk_iff] at ok
    unfold DLine.parityOk
    rw [ok, BitVec.xor_self, BitVec.zero_and]
    exact beq_self_eq_true _
  have index : dIndex va < 4 := (va.extractLsb' 3 2).isLt
  dsimp only at load
  rw [right _ (by omega), right _ (by omega)] at load
  cases load
  refine ⟨evolves, fun v hv => ?_⟩
  rw [dIndex_of_mod hm]
  exact (evolves.delivers pa v hv).line _ line

/-- Storing into a line and owning its block, in the other order. -/
theorem State.own_storeLine (s : State) (k j : Nat) (lanes : BitVec 8) (d : DWord) (va : DWord) (pa : PAddr) (w : Bool) :
    (s.storeLine k j lanes d).own va pa w = ((s.setSTag (s.sKey pa w) (sTagOf pa (pidxOf va) .dirtyExclusive)).storeLine k j lanes d).dMatchFrom
      (pidxOf va) (s.blockBase pa) .dirtyExclusive (2 ^ (s.sBlkBits - 5)) := by
  have keeps := s.storeLine_keeps k j lanes d
  have swap (i : Nat) (t : STag) : (s.storeLine k j lanes d).setSTag i t = (s.setSTag i t).storeLine k j lanes d := rfl
  rw [State.own, swap, keeps.sKey_eq, keeps.blockBase_eq, keeps.sBlkBits_eq]

/-- A cached store (R267). -/
theorem State.Sound.dStore {s t : State} (h : s.Sound) {va : DWord} {pa : PAddr} (hm : va.toNat % 4096 = pa.toNat % 4096) {g : BitVec 3}
    {l : BitVec 8} {d : DWord} (store : s.dStore va pa g l d = .ok () t) : s.Stores t pa l d := by
  obtain ⟨w, u, ensured, rfl⟩ := State.dStore_ok store
  obtain ⟨evolves, line⟩ := (h.dEnsure hm g true .none).of_ok ensured
  obtain ⟨held, pidx, _, dirty, _⟩ := evolves.sound.line _ pa line
  rw [dIndex_of_mod hm]
  split
  · next state =>
    have stores := evolves.sound.storeLine line (dirty state) l d
    exact ⟨evolves.keeps.trans stores.keeps, stores.sound, fun a v hv => stores.delivers a v (evolves.delivers a v hv)⟩
  · rw [State.own_storeLine]
    have pidxEq : (u.sTagFor (u.dTagAt (wayKey (dSet va) w)).scWay pa).pidx = pidxOf va :=
      BitVec.eq_of_toNat_eq (pidx.trans (dSet_of_mod hm w).2)
    have retagged := evolves.sound.retag held (p := pidxOf va) (st := .dirtyExclusive) (.inr rfl) (.inl pidxEq.symm)
    have tag : (u.setSTag (u.sKey pa (u.dTagAt (wayKey (dSet va) w)).scWay) (sTagOf pa (pidxOf va) .dirtyExclusive)).sTagFor
        (u.dTagAt (wayKey (dSet va) w)).scWay pa = sTagOf pa (pidxOf va) .dirtyExclusive :=
      (State.sTagFor_setSTag evolves.sound.wf _ _ _ pa).trans (if_pos rfl)
    have stores := retagged.sound.storeLine (k := wayKey (dSet va) w) (pa := pa) line (congrArg STag.state tag) l d
    have stored := State.storeLine_rewrites retagged.sound.wf (wayKey (dSet va) w) (dIdx_lt pa) l d
    have took := stores.sound.matches (p := pidxOf va) (pa := pa) (w := (u.dTagAt (wayKey (dSet va) w)).scWay)
      (by rw [State.sHolds_iff, stored.sTagFor, tag]; exact sTagOf_holds pa _ BlockState.noConfusion) (by rw [stored.sTagFor, tag]; rfl)
    have geometry := retagged.keeps.trans stored.keeps
    rw [geometry.blockBase_eq, geometry.sBlkBits_eq] at took
    exact ⟨((evolves.keeps.trans retagged.keeps).trans stores.keeps).trans took.evolves.keeps, took.evolves.sound,
      fun a v hv => took.evolves.delivers a _ (stores.delivers a v (retagged.delivers a v (evolves.delivers a v hv)))⟩

end Sys2Proof.Machine

end

section
/-! PROOFS. Instruction fetches in coherent caches: what they deliver, and that every data address delivers what it did (R262, R263, R276,
R500). -/

namespace Sys2Proof.Machine

/-! ## Results that leave what addresses deliver -/

/-- Whatever came of it, every address delivers what it delivered. -/
structure Res.Evolves {α : Type} (s : State) (x : Res α) : Prop where
  meets : x.Meets s.Evolves fun _ => s.Evolves

theorem Res.Evolves.of_ok {α : Type} {s t : State} {x : Res α} (h : x.Evolves s) {a : α} (e : x = .ok a t) : s.Evolves t := h.meets.of_ok e

theorem Res.Evolves.after {α : Type} {s t : State} {x : Res α} (h : s.Evolves t) (k : x.Evolves t) : x.Evolves s :=
  ⟨k.meets.imp (fun _ => h.trans) fun _ _ => h.trans⟩

theorem Res.Evolves.bind {α β : Type} {s : State} {x : Res α} {f : α → State → Res β} (h : x.Evolves s)
    (k : ∀ a t, s.Evolves t → (f a t).Evolves t) : (x.bind f).Evolves s :=
  ⟨h.meets.bind fun a t e => (Res.Evolves.after e (k a t e)).meets⟩

theorem State.Evolves.goOn {α : Type} {s t : State} (h : s.Evolves t) (a : α) : (t.goOn a).Evolves s := by
  have k : (t.goOn a).Meets s.Evolves fun _ => s.Evolves := State.goOn_meets h h
  exact ⟨k⟩

theorem Res.Readies.evolves {s : State} {va : DWord} {pa : PAddr} {x : Res (Bool × BlockState)} (h : x.Readies s va pa) : x.Evolves s :=
  ⟨h.meets.imp (fun _ => id) fun _ _ k => k.1⟩

theorem Res.Finds.evolves {s : State} {va : DWord} {pa : PAddr} {x : Res Bool} (h : x.Finds s va pa) : x.Evolves s :=
  ⟨h.meets.imp (fun _ => id) fun _ _ k => k.1⟩

/-! ## Steps of the instruction cache -/

theorem State.record_sameLines (s : State) (e : BusEvent) : s.SameLines (s.record e) := ⟨⟨s.record_keeps e, rfl, rfl, rfl, rfl, rfl⟩, rfl, rfl⟩

theorem State.setILru_sameLines (s : State) (i : Nat) (b : Bool) : s.SameLines (s.setILru i b) :=
  ⟨⟨s.setILru_keeps i b, rfl, rfl, rfl, rfl, rfl⟩, rfl, rfl⟩

theorem State.putIWords_sameLines (l : List Word) (s : State) (k i : Nat) : s.SameLines (s.putIWords k i l) := by
  induction l generalizing s i with
  | nil => exact .refl s
  | cons w l ih => exact State.SameLines.trans ⟨⟨s.setIWord_keeps _ _ _, rfl, rfl, rfl, rfl, rfl⟩, rfl, rfl⟩ (ih _ _)

theorem State.setITag_sameLines (s : State) (k : Nat) (t : ITag) : s.SameLines (s.setITag k t) :=
  ⟨⟨s.setITag_keeps k t, rfl, rfl, rfl, rfl, rfl⟩, rfl, rfl⟩

/-- What a read of an instruction set delivers. -/
theorem State.iTags_ok {s t : State} {va : DWord} {p : ITag × ITag} (h : s.iTags va = .ok p t) :
    p = (s.iTagAt (wayKey (iSet va) false), s.iTagAt (wayKey (iSet va) true)) ∧ s.SameLines t := by
  unfold State.iTags at h
  dsimp only at h
  split at h
  · unfold State.goOn at h
    split at h
    · cases h
    · cases h
      exact ⟨rfl, s.checkITags_sameLines _⟩
  · cases h
    exact ⟨rfl, .refl s⟩

theorem State.Sound.iTags {s : State} (h : s.Sound) (va : DWord) : (s.iTags va).Evolves s := by
  unfold State.iTags
  dsimp only
  split
  · exact ((s.checkITags_sameLines _).evolves_of_sound h).goOn _
  · exact ⟨h.evolves_self⟩

/-- The words of the part of a block that an instruction block is filled from. -/
def State.iWords (s : State) (pa : PAddr) (w : Bool) : List Word :=
  (s.sQuadsFrom (s.sKey pa w) (s.sQuadIndex pa / 4 * 4) 4).flatMap fun x => quadWords s.memEnd x.data

/-- A refill of the instruction cache (R263). -/
theorem State.Sound.iFill_eq {s : State} (h : s.Sound) (va : DWord) (pa : PAddr) (w sw : Bool) : s.iFill va pa w sw =
    (s.goOn ()).bind fun _ s => .ok w ((s.putIWords (wayKey (iSet va) w) 0 (s.iWords pa sw)).setITag (wayKey (iSet va) w)
      ⟨pageOf pa, true, parityBit (pageOf pa), true⟩) := by
  unfold State.iFill
  dsimp only
  rw [h.sReadQuads_eq, State.reportSData_clean]
  have words : ((s.sQuadsFrom (s.sKey pa sw) (s.sQuadIndex pa / 4 * 4) 4).map fun x => (x.data, false)).flatMap
      (fun x : QWord × Bool => quadWords s.memEnd x.1) = s.iWords pa sw := List.flatMap_map ..
  unfold State.goOn
  split
  · dsimp only [Res.bind]
  · dsimp only [Res.bind]
    rw [words]

theorem State.Sound.iFill {s : State} (h : s.Sound) (va : DWord) (pa : PAddr) (w sw : Bool) : (s.iFill va pa w sw).Evolves s := by
  rw [h.iFill_eq]
  refine (h.evolves_self.goOn ()).bind fun _ t k => ?_
  exact ⟨((State.putIWords_sameLines _ t _ _).trans (State.setITag_sameLines _ _ _)).evolves_of_sound k.sound⟩

theorem State.Sound.iEnsure {s : State} (h : s.Sound) (va : DWord) (pa : PAddr) (g : BitVec 3) : (s.iEnsure va pa g).Evolves s := by
  refine Res.Evolves.bind ((h.iTags va).bind fun p t k => ?_) fun w t k => ⟨(t.setILru_sameLines _ _).evolves_of_sound k.sound⟩
  split
  · exact ⟨k.sound.evolves_self⟩
  · exact (k.sound.sEnsure va pa g false).evolves.bind fun r u k => k.sound.iFill va pa _ r.1

theorem State.Sound.iLoad {s : State} (h : s.Sound) (va : DWord) (pa : PAddr) (g : BitVec 3) : (s.iLoad va pa g).Evolves s := by
  refine (h.iEnsure va pa g).bind fun w t k => ?_
  dsimp only
  refine Res.Evolves.bind ?_ fun _ u k => ?_
  · split
    · exact ⟨k.sound.evolves_self⟩
    · exact ((t.postI_sameLines _).evolves_of_sound k.sound).goOn ()
  · split
    · exact ⟨k.sound.evolves_self⟩
    · exact ⟨trivial⟩

theorem State.Sound.fetchPhys {s : State} (h : s.Sound) (va : DWord) (p : Phys) : (s.fetchPhys va p).Evolves s := by
  unfold State.fetchPhys
  split
  · exact h.iLoad va p.pa p.alg
  · rw [State.readSingle_unanswered h.replies h.errAddrs]
    exact ⟨(s.record_sameLines _).evolves_of_sound h⟩

/-- A fetch that succeeds (R500). -/
theorem State.Sound.fetch {s t : State} (h : s.Sound) {w : Word} (e : s.fetch = .ok w t) : s.Evolves t := by
  unfold State.fetch at e
  split at e
  · split at e
    · split at e
      · cases e
      · exact (h.fetchPhys _ _).of_ok (Res.acc_eq_ok e)
    · cases e
  · cases e

end Sys2Proof.Machine

end

section
/-! PROOFS. Loads after loads, stores, prefetches and fetches (R217, R240, R276, R290, R345, R500). -/

namespace Sys2Proof.Machine

theorem State.SameStorage.sameLines {s t : State} (h : s.SameStorage t) : s.SameLines t :=
  ⟨⟨h.keeps, by rw [h.caches], by rw [h.caches], by rw [h.caches], by rw [h.caches], by rw [h.bus]⟩, h.mem, by rw [h.bus]⟩

/-- A cached load: what its address delivers, of its lanes. -/
theorem State.Sound.read {s t : State} (h : s.Sound) {va x : DWord} {n : Nat} {p : Phys} (hp : s.translate (s.dataAddress va) .load = .ok p)
    (cached : algCached p.alg = true) (e : s.read va n = .ok x t) : s.Evolves t ∧ ∀ v, s.Delivers p.pa v →
      x = lowBytes n (v >>> (8 * laneShift s.bigEndianCpu (s.dataAddress va) n)) := by
  obtain ⟨_, q, u, d, translate, storage, load, rfl⟩ := State.read_ok e
  rw [hp] at translate
  cases translate
  rw [State.loadPhys, if_pos cached] at load
  have first := storage.sameLines.evolves_of_sound h
  obtain ⟨second, value⟩ := first.sound.dLoad (State.translate_mod hp).symm load
  exact ⟨first.trans second, fun v hv => by rw [value v (first.delivers _ v hv)]⟩

/-- A cached store: its lanes, at its address. -/
theorem State.Sound.write {s t : State} (h : s.Sound) {va v : DWord} {n : Nat} {p : Phys} (hp : s.translate (s.dataAddress va) .store = .ok p)
    (cached : algCached p.alg = true) (e : s.write va n v = .ok () t) :
    s.Stores t p.pa (lanesFrom (laneShift s.bigEndianCpu (s.dataAddress va) n) n)
      (v <<< (8 * laneShift s.bigEndianCpu (s.dataAddress va) n)) := by
  obtain ⟨_, q, u, translate, storage, store⟩ := State.write_ok e
  rw [hp] at translate
  cases translate
  rw [State.storePhys, if_pos cached] at store
  have first := storage.sameLines.evolves_of_sound h
  have stores := first.sound.dStore (State.translate_mod hp).symm store
  exact ⟨first.keeps.trans stores.keeps, stores.sound, fun a v hv => stores.delivers a v (first.delivers a v hv)⟩

theorem State.breakLink_sameLines (s : State) : s.SameLines s.breakLink := ⟨⟨s.breakLink_keeps, rfl, rfl, rfl, rfl, rfl⟩, rfl, rfl⟩

/-- A prefetch changes no memory location (R500). -/
theorem State.Sound.prefetch {s t : State} (h : s.Sound) {va : DWord} {hint : BitVec 5} (e : s.prefetch va hint = .ok () t) :
    s.Evolves t := by
  have broken := (s.breakLink_sameLines).evolves_of_sound h
  unfold State.prefetch at e
  dsimp only at e
  split at e
  · next p translate =>
    split at e
    · have found := broken.sound.dEnsure (State.translate_mod translate).symm p.alg (prefExclusive hint) (prefWay hint)
      generalize s.breakLink.dEnsure _ _ _ _ _ = x at e found
      have evolves : s.Evolves (x.stateOr s.breakLink) :=
        broken.trans (found.evolves.meets.stateOr broken.sound.evolves_self)
      cases x with
      | stop => cases e
      | wait => cases e
      | ok a u => cases e; exact evolves
      | busError u => cases e; exact evolves
      | cacheError u => cases e; exact evolves
    · cases e
      exact broken
  · cases e
    exact broken

/-- After a state that delivers the same, a load delivers the same. -/
theorem State.Evolves.read {s t u u' : State} (h : s.Sound) (k : s.Evolves t) {va x y : DWord} {n : Nat} {p : Phys}
    (hp : s.translate (s.dataAddress va) .load = .ok p) (cached : algCached p.alg = true) (hy : s.read va n = .ok y u')
    (hx : t.read va n = .ok x u) : x = y := by
  have core := k.keeps.core
  obtain ⟨v, hv⟩ := h.exists_delivers p.pa
  rw [(h.read hp cached hy).2 v hv, (k.sound.read (by rw [core.translate_eq, core.dataAddress_eq, hp]) cached hx).2 v (k.delivers _ v hv),
    core.bigEndianCpu_eq, core.dataAddress_eq]

/-- After a store of other bytes too. -/
theorem State.Sound.read_apart_from_write {s t u u' : State} (h : s.Sound) {va va' v x y : DWord} {n m : Nat} {p p' : Phys}
    (hn : AccessSize n) (hm : AccessSize m) (hp : s.translate (s.dataAddress va) .store = .ok p) (cached : algCached p.alg = true)
    (hp' : s.translate (s.dataAddress va') .load = .ok p') (cached' : algCached p'.alg = true) (apart : Apart p.pa n p'.pa m)
    (hw : s.write va n v = .ok () t) (hy : s.read va' m = .ok y u') (hx : t.read va' m = .ok x u) : x = y := by
  have stores := h.write hp cached hw
  have core := stores.keeps.core
  have aligned := (State.write_ok hw).1
  have aligned' := (State.read_ok hy).1
  obtain ⟨d, hd⟩ := h.exists_delivers p'.pa
  rw [(h.read hp' cached' hy).2 d hd, (stores.sound.read (by rw [core.translate_eq, core.dataAddress_eq, hp']) cached' hx).2 _
    (stores.delivers _ d hd), core.bigEndianCpu_eq, core.dataAddress_eq, storedInto]
  split
  · next same =>
    exact lowBytes_mergeMask_apart (laneShift_add_le hm aligned' _) (fun j hj hj' =>
      lanesFrom_apart hn hm aligned aligned' (State.translate_mod hp) (State.translate_mod hp') same.symm apart hj hj') _ _
  · rfl

/-- Settles O38: the first clause by `State.read_after_write`, the second by `State.read_apart_from_uncached_write`, and the third by what
each access leaves of what every address delivers. -/
theorem loadAfterStoreDeliversWhatWasStored : Obligations.LoadAfterStoreDeliversWhatWasStored := by
  refine ⟨fun s t u va v x n hn hc ha hw hr => State.read_after_write hn hc ha hw hr,
    fun s t u u' va va' v x y n m pa pa' hn hm hc _ => ⟨?uncached, ?cached⟩⟩
  case uncached =>
    rintro ⟨p, hp, rfl, huc⟩ ⟨p', hp', rfl, huc'⟩ apart ha hw hy hx
    exact State.read_apart_from_uncached_write hn hm hc ha hp hp' huc huc' apart hw hy hx
  case cached =>
    rintro coherent hr he ⟨p', hp', rfl, cached'⟩ accessed
    have sound := coherent.sound hc hr he
    rcases accessed with ⟨⟨p, hp, rfl, cached⟩, apart, hw⟩ | accessed
    · exact ⟨(sound.write hp cached hw).sound.coherent, sound.read_apart_from_write hn hm hp cached hp' cached' apart hw⟩
    · have evolves : s.Evolves t := by
        rcases accessed with ⟨⟨p, hp, rfl, cached⟩, hr⟩ | ⟨hint, hf⟩ | ⟨w, hf⟩
        · exact (sound.read hp cached hr).1
        · exact sound.prefetch hf
        · exact sound.fetch hf
      exact ⟨evolves.sound.coherent, evolves.read sound hp' cached'⟩

end Sys2Proof.Machine

end

section
/-! PROOFS. What a fetch delivers: uncached, from the instruction cache, and from the secondary cache or memory (R187, R230, R245, R262, R263,
R276, R440). -/

namespace Sys2Proof.Machine

/-! ## The word of a doubleword -/

/-- Aligned to a word: the half of the doubleword that the lanes of the access select. -/
theorem fetchWord_eq {va : DWord} (ha : va.toNat % 4 = 0) (be : Bool) (d : DWord) :
    (fetchWord be va d).toNat = (lowBytes 4 (d >>> (8 * laneShift be va 4))).toNat := by
  have bit : va.getLsbD 2 = decide (va.toNat / 4 % 2 = 1) := by
    rw [← BitVec.testBit_toNat, Nat.testBit_eq_decide_div_mod_eq]
  apply Nat.eq_of_testBit_eq
  intro i
  rw [BitVec.testBit_toNat, BitVec.testBit_toNat, getLsbD_lowBytes, BitVec.getLsbD_ushiftRight, laneShift_eq]
  by_cases hi : i < 32
  · have words := getLsbD_wordsOf be d hi
    have cases : va.toNat % 8 = 0 ∨ va.toNat % 8 = 4 := by omega
    unfold fetchWord
    rw [bit]
    rcases cases with e | e
    · rw [if_neg (by simp; omega), words.1, e]
      cases be <;> simp [hi]
    · rw [if_pos (by simp; omega), words.2, e]
      cases be <;> simp [hi]
  · rw [BitVec.getLsbD_of_ge _ _ (by omega), decide_eq_false (by omega), Bool.false_and]

/-- The word of a doubleword of memory: its four bytes. -/
theorem fetchWord_readDouble {va : DWord} (ha : va.toNat % 4 = 0) (be : Bool) (m : List Host.Cell) (base : Nat) :
    fetchWord be va (Memory.readDouble be m base) = BitVec.ofNat 32 (bytesAt be m (base + va.toNat % 8) 4) := by
  apply BitVec.eq_of_toNat_eq
  rw [fetchWord_eq ha, lowBytes_readDouble (.inr (.inr (.inl rfl))) ha, BitVec.toNat_ofNat, Nat.mod_eq_of_lt (bytesAt_lt be m _ 4)]

/-! ## The address a fetch uses -/

/-- A physical address, with bit 2 inverted where `State.fetchVa` inverts it. -/
def State.fetchPa (s : State) (pa : PAddr) : PAddr := if s.params.reFetchSwap && s.reverseEndian then pa ^^^ 4#40 else pa

theorem xor_four (x : Nat) : (x ^^^ 4) / 8 = x / 8 ∧ (x ^^^ 4) % 8 = (x + 4) % 8 := by
  have low : ∀ r < 8, r ^^^ 4 = (r + 4) % 8 := by decide
  have high : (x ^^^ 4) >>> 3 = x >>> 3 := by
    rw [Nat.shiftRight_xor_distrib]
    exact Nat.xor_zero _
  have mod : (x ^^^ 4) % 8 = (x % 8) ^^^ 4 := Nat.xor_mod_two_pow (n := 3)
  rw [Nat.shiftRight_eq_div_pow, Nat.shiftRight_eq_div_pow] at high
  refine ⟨high, ?_⟩
  rw [mod, low _ (Nat.mod_lt _ (by decide))]
  omega

/-- The two addresses stay in their doublewords and name one word of it. -/
theorem State.fetch_addresses (s : State) {va : DWord} {pa : PAddr} (hm : pa.toNat % 4096 = va.toNat % 4096) :
    (s.fetchVa va).toNat / 8 = va.toNat / 8 ∧ (s.fetchPa pa).toNat / 8 = pa.toNat / 8 ∧
      (s.fetchPa pa).toNat % 8 = (s.fetchVa va).toNat % 8 ∧ (s.fetchVa va).toNat % 4 = va.toNat % 4 := by
  unfold State.fetchVa State.fetchPa
  split
  · have v := xor_four va.toNat
    have p := xor_four pa.toNat
    rw [BitVec.toNat_xor, BitVec.toNat_xor, show (4#64).toNat = 4 from rfl, show (4#40).toNat = 4 from rfl]
    omega
  · omega

/-! ## A fetch that is made -/

theorem State.fetch_of_translate {s : State} (aligned : s.pc.toNat % 4 = 0) {p : Phys} (ht : s.translate s.pc .fetch = .ok p)
    (hr : algReserved p.alg = false) : s.fetch = (s.fetchPhys (s.fetchVa s.pc) p).acc excIbe := by
  rw [State.fetch, if_pos aligned, ht]
  exact if_neg (by rw [hr]; exact Bool.false_ne_true)

/-- An uncached fetch: one read request (R245, R440). -/
theorem State.fetch_uncached {s : State} (aligned : s.pc.toNat % 4 = 0) {p : Phys} (ht : s.translate s.pc .fetch = .ok p)
    (he : s.bus.errAddrs = []) (hr : s.bus.replies = []) (alg : p.alg = 2#3 ∨ p.alg = 7#3) :
    s.fetch = .ok (BitVec.ofNat 32 (bytesAt s.memEnd s.mem (s.fetchPa p.pa).toNat 4))
      { s with bus := { s.bus with sent := s.bus.sent ++ [.read (s.fetchPa p.pa) 4 p.attr] } } := by
  obtain ⟨_, page, offset, word⟩ := s.fetch_addresses (State.translate_mod ht)
  rw [aligned] at word
  have kind : algReserved p.alg = false ∧ algCached p.alg = false := by
    rcases alg with e | e <;> rw [e] <;> decide
  have base : doubleBase p.pa = doubleBase (s.fetchPa p.pa) := BitVec.eq_of_toNat_eq (by rw [toNat_doubleBase, toNat_doubleBase, page])
  have address : (doubleBase (s.fetchPa p.pa)).toNat + (s.fetchVa s.pc).toNat % 8 = (s.fetchPa p.pa).toNat := by
    rw [toNat_doubleBase]
    omega
  rw [State.fetch_of_translate aligned ht kind.1, State.fetchPhys, if_neg (by rw [kind.2]; exact Bool.false_ne_true),
    State.readSingle_unanswered hr he, base, lowestLane_laneShift (.inr (.inr (.inl rfl))) word offset,
    laneCount_lanesFrom (.inr (.inr (.inl rfl))) (laneShift_add_le (.inr (.inr (.inl rfl))) word _)]
  dsimp only [Res.bind, Res.acc]
  have same : (s.record (.read (s.fetchPa p.pa) 4 p.attr)).memEnd = s.memEnd := rfl
  rw [same, fetchWord_readDouble word, address]
  rfl

/-- A cached fetch. -/
theorem State.fetch_cached {s : State} (aligned : s.pc.toNat % 4 = 0) {p : Phys} (ht : s.translate s.pc .fetch = .ok p)
    (cached : algCached p.alg = true) : s.fetch = (s.iLoad (s.fetchVa s.pc) p.pa p.alg).acc excIbe := by
  have kind : ∀ g, algCached g = true → algReserved g = false := by decide
  rw [State.fetch_of_translate aligned ht (kind _ cached), State.fetchPhys, if_pos cached]

/-- A hit in the instruction cache (R262). -/
theorem State.iLoad_hit {s : State} {va : DWord} {pa : PAddr} {w : Bool} {x : Word} (g : BitVec 3)
    (good : ∀ v, (s.iTagAt (wayKey (iSet va) v)).bad = false) (held : (s.iTagAt (wayKey (iSet va) w)).holds pa = true)
    (other : (s.iTagAt (wayKey (iSet va) !w)).holds pa = false) (word : s.iWordAt (wayKey (iSet va) w) (iIndex va) = ⟨.plain x, none⟩) :
    s.iLoad va pa g = .ok x (s.setILru (iSet va) (!w)) := by
  have tags : s.iTags va = .ok (s.iTagAt (wayKey (iSet va) false), s.iTagAt (wayKey (iSet va) true)) s := by
    unfold State.iTags
    dsimp only
    rw [good, good]
    rfl
  have hit : hitWay (Config.bothWays s.ctr) ((s.iTagAt (wayKey (iSet va) false)).holds pa)
      ((s.iTagAt (wayKey (iSet va) true)).holds pa) = some w := by
    refine hitWay_filled ?_ ?_
    · cases w <;> exact held
    · cases w <;> exact other
  have ensured : s.iEnsure va pa g = .ok w (s.setILru (iSet va) (!w)) := by
    unfold State.iEnsure
    rw [tags]
    dsimp only [Res.bind]
    rw [hit]
  have same : (s.setILru (iSet va) (!w)).iWordAt (wayKey (iSet va) w) (iIndex va) = ⟨.plain x, none⟩ := word
  unfold State.iLoad
  rw [ensured]
  dsimp only [Res.bind]
  rw [same]
  rfl

/-! ## A miss in the instruction cache -/

theorem State.iWordAt_putIWords (l : List Word) {s : State} (hc : s.canonical = true) (k i k' i' : Nat) (hi : i + l.length ≤ 16) (hi' : i' < 16) :
    (s.putIWords k i l).iWordAt k' i' = if k' = k ∧ i ≤ i' ∧ i' < i + l.length then ⟨.plain (l.getD (i' - i) 0), none⟩ else s.iWordAt k' i' := by
  induction l generalizing s i with
  | nil => rw [if_neg (by simp)]; rfl
  | cons w l ih =>
    have set : (s.setIWord k i ⟨.plain w, none⟩).iWordAt k' i' = if 16 * k' + i' = 16 * k + i then ⟨.plain w, none⟩ else s.iWordAt k' i' := by
      obtain ⟨_, _, _, wf, _⟩ := (State.canonical_iff s).1 hc
      exact Sparse.get_set wf _ _ _
    rw [List.length_cons] at hi ⊢
    rw [State.putIWords, ih ((s.setIWord_keeps _ _ _).wf hc) _ (by omega), set]
    by_cases first : k' = k ∧ i' = i
    · rw [if_neg (by omega), if_pos (by omega), if_pos (by omega), first.2, Nat.sub_self]
      rfl
    · rw [if_neg (show ¬ 16 * k' + i' = 16 * k + i by omega)]
      by_cases later : k' = k ∧ i + 1 ≤ i' ∧ i' < i + 1 + l.length
      · rw [if_pos later, if_pos (by omega), show i' - i = (i' - (i + 1)) + 1 by omega, List.getD_cons_succ]
      · rw [if_neg later, if_neg (by omega)]

theorem getD_four_quads (be : Bool) (q : Nat → QWord) {i : Nat} (hi : i < 16) :
    ([q 0, q 1, q 2, q 3].flatMap (quadWords be)).getD i 0 = (quadWords be (q (i / 4))).getD (i % 4) 0 := by
  interval_cases i <;> rfl

theorem getD_quadWords (be : Bool) (q : QWord) {i : Nat} (hi : i < 4) :
    (quadWords be q).getD i 0 = if i % 2 = 0 then (wordsOf be (if i / 2 = 0 then quadEven q else quadOdd q)).1
      else (wordsOf be (if i / 2 = 0 then quadEven q else quadOdd q)).2 := by
  interval_cases i <;> rfl

/-- The word that a fetch takes of the words that its block is filled with (R263). -/
theorem State.getD_iWords (s : State) {va : DWord} {pa : PAddr} (hm : va.toNat / 8 % 8 = pa.toNat / 8 % 8) (w : Bool) :
    (s.iWords pa w).getD (iIndex va) 0 = fetchWord s.memEnd va (s.sDouble w pa) := by
  have index : iIndex va = va.toNat / 4 % 16 := by
    rw [iIndex, BitVec.extractLsb'_toNat, Nat.shiftRight_eq_div_pow]
  have bit (n : Nat) (x : Nat) : Nat.testBit x n = decide (x / 2 ^ n % 2 = 1) := Nat.testBit_eq_decide_div_mod_eq
  have list : s.iWords pa w = [0, 1, 2, 3].flatMap fun j => quadWords s.memEnd
      (s.sQuadAt (s.sKey pa w) (s.sQuadIndex pa / 4 * 4 + j)).data := rfl
  have quad : s.sQuadIndex pa / 4 * 4 + iIndex va / 4 = s.sQuadIndex pa := by
    rw [index, s.sQuadIndex_eq]
    rcases s.geometry_cases with ⟨_, e⟩ | ⟨_, e⟩ <;> rw [e] <;> omega
  have words := getD_four_quads s.memEnd (fun j => (s.sQuadAt (s.sKey pa w) (s.sQuadIndex pa / 4 * 4 + j)).data) (i := iIndex va)
    (by rw [index]; exact Nat.mod_lt _ (by decide))
  rw [list]
  refine words.trans ?_
  rw [quad, getD_quadWords _ _ (Nat.mod_lt _ (by decide)), State.sDouble, quadPart, fetchWord, ← BitVec.testBit_toNat, ← BitVec.testBit_toNat,
    bit, bit, index]
  have third : va.toNat / 4 % 16 % 4 / 2 = 0 ↔ ¬ pa.toNat / 2 ^ 3 % 2 = 1 := by omega
  have second : va.toNat / 4 % 16 % 4 % 2 = 0 ↔ ¬ va.toNat / 2 ^ 2 % 2 = 1 := by omega
  simp only [third, second, decide_eq_true_eq, ite_not]

theorem State.length_iWords (s : State) (pa : PAddr) (w : Bool) : (s.iWords pa w).length = 16 := by
  simp only [State.iWords, State.sQuadsFrom, List.length_flatMap, List.map_map]
  rfl

/-- The words of a refill that succeeds. -/
theorem State.Sound.iFill_ok {s t : State} (h : s.Sound) {va : DWord} {pa : PAddr} {w w' sw : Bool} (e : s.iFill va pa w sw = .ok w' t) :
    w' = w ∧ s.SameLines t ∧ ∀ i < 16, t.iWordAt (wayKey (iSet va) w) i = ⟨.plain ((s.iWords pa sw).getD i 0), none⟩ := by
  rw [h.iFill_eq] at e
  obtain ⟨_, u, due, e⟩ := Res.bind_eq_ok e
  unfold State.goOn at due
  split at due
  · cases due
  · simp only [Res.ok.injEq, true_and] at due e
    obtain ⟨rfl, rfl⟩ := e
    subst due
    refine ⟨rfl, (State.putIWords_sameLines _ _ _ _).trans (State.setITag_sameLines _ _ _), fun i hi => ?_⟩
    have size : 0 + (s.iWords pa sw).length = 16 := by rw [s.length_iWords]
    have put := State.iWordAt_putIWords (s.iWords pa sw) h.wf (wayKey (iSet va) w) 0 (wayKey (iSet va) w) i (Nat.le_of_eq size) hi
    rw [if_pos ⟨rfl, Nat.zero_le i, by rw [size]; exact hi⟩, Nat.sub_zero] at put
    exact put

/-- A miss in the instruction cache that succeeds finds or fills the block in the secondary cache, and takes its words from it (R263). -/
theorem State.Sound.iEnsure_miss {s t : State} (h : s.Sound) {va : DWord} {pa : PAddr} {g : BitVec 3} {w : Bool}
    (miss : ∀ v, (s.iTagAt (wayKey (iSet va) v)).holds pa = false) (e : s.iEnsure va pa g = .ok w t) :
    ∃ s1 r u, s.SameLines s1 ∧ s1.sEnsure va pa g false = .ok r u ∧ u.SameLines t ∧
      ∀ i < 16, t.iWordAt (wayKey (iSet va) w) i = ⟨.plain ((u.iWords pa r.1).getD i 0), none⟩ := by
  unfold State.iEnsure at e
  obtain ⟨w', t1, looked, marked⟩ := Res.bind_eq_ok e
  simp only [Res.ok.injEq] at marked
  obtain ⟨rfl, rfl⟩ := marked
  obtain ⟨p, s1, tags, missed⟩ := Res.bind_eq_ok looked
  obtain ⟨rfl, same⟩ := State.iTags_ok tags
  have none : hitWay (Config.bothWays s1.ctr) false false = .none := rfl
  dsimp only at missed
  rw [miss, miss, none] at missed
  obtain ⟨r, u, found, filled⟩ := Res.bind_eq_ok missed
  have sound : u.Sound := (((same.evolves_of_sound h).sound.sEnsure va pa g false).of_ok found).1.sound
  obtain ⟨rfl, lines, words⟩ := sound.iFill_ok filled
  exact ⟨s1, r, u, same, found, lines.trans (State.setILru_sameLines _ _ _), words⟩

/-- And the fetch delivers one of them. -/
theorem State.Sound.iLoad_miss {s t : State} (h : s.Sound) {va : DWord} {pa : PAddr} {g : BitVec 3} {x : Word}
    (hm : va.toNat / 8 % 8 = pa.toNat / 8 % 8) (miss : ∀ v, (s.iTagAt (wayKey (iSet va) v)).holds pa = false)
    (e : s.iLoad va pa g = .ok x t) : ∃ s1 r u, s.SameLines s1 ∧ s1.sEnsure va pa g false = .ok r u ∧ u.SameLines t ∧
      x = fetchWord u.memEnd va (u.sDouble r.1 pa) := by
  unfold State.iLoad at e
  obtain ⟨w, t', ensured, e⟩ := Res.bind_eq_ok e
  obtain ⟨s1, r, u, same, found, lines, words⟩ := h.iEnsure_miss miss ensured
  dsimp only at e
  rw [words (iIndex va) (va.extractLsb' 2 4).isLt, u.getD_iWords hm] at e
  have done : Res.ok (fetchWord u.memEnd va (u.sDouble r.1 pa)) t' = Res.ok x t := e
  simp only [Res.ok.injEq] at done
  obtain ⟨rfl, rfl⟩ := done
  exact ⟨s1, r, u, same, found, lines, rfl⟩

/-! ## A miss in the secondary cache too -/

/-- Where the secondary cache does not hold the block, the outgoing buffer does not either, or the miss would wait (R344). -/
theorem State.Sound.outgoing_of_miss {s t : State} (h : s.Sound) {va : DWord} {pa : PAddr} {g : BitVec 3} {excl : Bool} {r : Bool × BlockState}
    (absent : ∀ v, (s.sTagFor v pa).holds pa = false) (e : s.sEnsure va pa g excl = .ok r t) : s.outgoingHolds pa = false := by
  have none : hitWay (Config.bothWays s.ctr) false false = .none := rfl
  unfold State.sEnsure at e
  rw [h.sTags_eq] at e
  dsimp only [Res.bind] at e
  rw [absent, absent, none] at e
  unfold State.sMiss at e
  dsimp only at e
  split at e
  · cases e
  · next free =>
    rw [Bool.or_eq_true, not_or] at free
    simpa using free.1

/-- No line comes up by a move. -/
theorem State.Moves.dHas {s t : State} (h : s.Moves t) (sound : s.Sound) {k : Nat} {a : PAddr} (hk : t.dHas k a) : s.dHas k a := by
  obtain ⟨bound, valid, line⟩ := hk
  obtain ⟨tag, set⟩ := (lineOf_dAddr_eq_iff t k a).1 line
  obtain ⟨held, tag⟩ := (DTag.holds_iff _ _).1 (h.holds sound.wf k a ((DTag.holds_iff _ _).2 ⟨.inl valid, tag⟩))
  exact ⟨bound, held.resolve_right (sound.dTags k bound).2.1, (lineOf_dAddr_eq_iff s k a).2 ⟨tag, set⟩⟩

/-- Then the block that is filled has what memory has (R263, R276). -/
theorem State.Sound.sDouble_of_miss {s t : State} (h : s.Sound) {va : DWord} {pa : PAddr} {g : BitVec 3} {excl : Bool} {r : Bool × BlockState}
    (absent : ∀ v, (s.sTagFor v pa).holds pa = false) (e : s.sEnsure va pa g excl = .ok r t) :
    t.sDouble r.1 pa = Memory.readDouble s.memEnd s.mem (pa.toNat / 8 * 8) := by
  have moves := (s.sEnsure_moves va pa g excl).of_ok e
  obtain ⟨evolves, ready⟩ := (h.sEnsure va pa g excl).of_ok e
  have notHeld (v : Bool) : ¬ s.sHolds v pa := fun k => Bool.false_ne_true ((absent v).symm.trans k)
  have noLine (k : Nat) (hk : s.dHas k pa) : False := notHeld _ (h.line k pa hk).held
  have delivers : s.Delivers pa (s.finalDouble pa) := ⟨fun k hk => (noLine k hk).elim, fun _ v hv => (notHeld v hv).elim, fun _ => rfl⟩
  rw [(evolves.delivers pa _ delivers).block (fun k hk => noLine k (moves.1.dHas h hk)) r.1 ready.held]
  exact h.finalDouble_eq (h.outgoing_of_miss absent e) rfl

/-! ## The obligation -/

/-- A cached fetch that misses in the instruction cache. -/
theorem State.fetch_missed {s t : State} (h : s.Sound) (aligned : s.pc.toNat % 4 = 0) {p : Phys} (ht : s.translate s.pc .fetch = .ok p)
    (cached : algCached p.alg = true) (miss : ∀ v, (s.iTagAt (wayKey (iSet (s.fetchVa s.pc)) v)).holds p.pa = false) {x : Word}
    (e : s.fetch = .ok x t) :
    (∃ w, (t.sTagAt (t.sKey p.pa w)).holds p.pa = true ∧
      x = fetchWord s.memEnd (s.fetchVa s.pc) (quadPart (t.sQuadAt (t.sKey p.pa w) (t.sQuadIndex p.pa)).data p.pa)) ∧
    ((∀ v, (s.sTagAt (s.sKey p.pa v)).holds p.pa = false) →
      x = BitVec.ofNat 32 (bytesAt s.memEnd s.mem (s.fetchPa p.pa).toNat 4)) := by
  have mod := State.translate_mod ht
  obtain ⟨double, page, offset, word⟩ := s.fetch_addresses mod
  rw [aligned] at word
  rw [State.fetch_cached aligned ht cached] at e
  obtain ⟨s1, r, u, same, found, lines, rfl⟩ := h.iLoad_miss (by omega) miss (Res.acc_eq_ok e)
  have sound := (same.evolves_of_sound h).sound
  obtain ⟨evolves, ready⟩ := (sound.sEnsure (s.fetchVa s.pc) p.pa p.alg false).of_ok found
  have memEnd : u.memEnd = s.memEnd := (same.keeps.trans evolves.keeps).core.memEnd_eq
  rw [memEnd]
  refine ⟨⟨r.1, (lines.sHolds_iff r.1 p.pa).2 ready.held, ?_⟩, fun absent => ?_⟩
  · exact congrArg _ (lines.sDouble_eq r.1 p.pa).symm
  · have absent1 (v : Bool) : (s1.sTagFor v p.pa).holds p.pa = false := by
      rw [same.sTagFor_eq]
      exact absent v
    have address : p.pa.toNat / 8 * 8 + (s.fetchVa s.pc).toNat % 8 = (s.fetchPa p.pa).toNat := by omega
    rw [sound.sDouble_of_miss absent1 found, same.keeps.core.memEnd_eq, same.mem, fetchWord_readDouble word, address]

/-- Settles O54, by `State.fetch_uncached`, `State.iLoad_hit` and `State.fetch_missed`; kseg1 is uncached, and RE is not in force there. -/
theorem fetchReadsTheWordAtThePc : Obligations.FetchReadsTheWordAtThePc := by
  refine fun s => ⟨fun hk low high aligned he hr => ?kseg1, fun misaligned => ?misaligned,
    fun p aligned ht he hr => ⟨fun alg => ?uncached, fun cached => ⟨fun w x good held other word => ?hit,
      fun x t coherent hc miss e => ?miss⟩⟩, fun x t e => ?frame⟩
  case kseg1 =>
    have same : s.fetchPa (BitVec.ofNat 40 (kseg1Pa s.pc)) = BitVec.ofNat 40 (kseg1Pa s.pc) := by
      unfold State.fetchPa State.reverseEndian
      rw [hk, if_neg (by simp)]
    have fetched := State.fetch_uncached aligned (State.translate_kseg1 hk low high .fetch) he hr (.inl rfl)
    rw [same, toNat_kseg1Pa high] at fetched
    exact fetched
  case misaligned =>
    rw [State.fetch, if_neg misaligned]
  case uncached =>
    exact State.fetch_uncached aligned ht he hr alg
  case hit =>
    rw [State.fetch_cached aligned ht cached]
    exact congrArg (Res.acc · excIbe) (State.iLoad_hit p.alg good held other word)
  case miss =>
    exact State.fetch_missed (coherent.sound hc hr he) aligned ht cached miss e
  case frame =>
    have keeps := s.fetch_keeps
    rw [e] at keeps
    exact ⟨keeps.of_ok.core, State.fetch_link e⟩

end Sys2Proof.Machine

end

section
/-! PROOFS. What the operations of the CACHE instruction may move (R533): the caches, memory, the posted errors and what goes out; an error that is
posted moves no cache and sends nothing out (R306, R308). -/

namespace Sys2Proof.Machine

/-! ## What may move -/

/-- From s to t at most the caches, memory, CP0, the posted errors, the error pulses, the outgoing buffer and the record of what the System
interface sent moved. -/
def State.Confined (s t : State) : Prop :=
  t = { s with
    caches := t.caches, mem := t.mem, cp0 := t.cp0
    pending := { s.pending with
      iErr := t.pending.iErr, dErr := t.pending.dErr, sErr := t.pending.sErr, siErr := t.pending.siErr }
    bus := { s.bus with
      corErr := t.bus.corErr, uncErr := t.bus.uncErr, outgoing := t.bus.outgoing, sent := t.bus.sent } }

theorem State.Confined.refl (s : State) : s.Confined s := rfl

theorem State.Confined.trans {s t u : State} (h : s.Confined t) (k : t.Confined u) : s.Confined u := by
  unfold State.Confined at *
  exact k.trans (by rw [h])

/-- The pc and the branch-delay state decide where execution goes on. -/
theorem State.advance_pc_congr {s t : State} (hp : t.pc = s.pc) (hd : t.delay = s.delay) : t.advance.pc = s.advance.pc := by
  unfold State.advance
  rw [hp, hd]
  split <;> rfl

/-- A CACHE operation that stays confined, and completes. -/
theorem State.Confined.onlyCachesAndErrors {s t : State} (h : s.breakLink.Confined t) : s.OnlyCachesAndErrors t.advance := by
  have pc : t.advance.pc = s.breakLink.advance.pc := by
    unfold State.Confined at h
    apply State.advance_pc_congr <;> rw [h]
  unfold State.Confined at h
  rw [State.OnlyCachesAndErrors, State.advance_eq t, State.advance_eq s.breakLink, pc, h]
  rfl

theorem State.NothingOut.refl (s : State) : s.NothingOut s := ⟨rfl, rfl, rfl⟩

theorem State.NothingOut.trans {s t u : State} (h : s.NothingOut t) (k : t.NothingOut u) : s.NothingOut u := by
  obtain ⟨mem, outgoing, sent⟩ := h
  obtain ⟨mem', outgoing', sent'⟩ := k
  exact ⟨mem'.trans mem, outgoing'.trans outgoing, sent'.trans sent⟩

/-! ## Errors -/

/-- From s to t at most errors were posted and pulsed. -/
structure State.Reports (s t : State) : Prop where
  keeps : s.Keeps t
  confined : s.Confined t
  caches : t.caches = s.caches
  out : s.NothingOut t

theorem State.Reports.refl (s : State) : s.Reports s := ⟨.refl s, .refl s, rfl, .refl s⟩

theorem State.Reports.trans {s t u : State} (h : s.Reports t) (k : t.Reports u) : s.Reports u :=
  ⟨h.keeps.trans k.keeps, h.confined.trans k.confined, k.caches.trans h.caches, h.out.trans k.out⟩

theorem State.Reports.ite {s t u : State} {c : Prop} [Decidable c] (h : s.Reports t) (k : s.Reports u) : s.Reports (if c then t else u) := by
  split <;> assumption

theorem State.pulseUnc_reports (s : State) (b : Bool) : s.Reports (s.pulseUnc b) := ⟨s.pulseUnc_keeps b, rfl, rfl, rfl, rfl, rfl⟩

theorem State.pulseCor_reports (s : State) (b : Bool) : s.Reports (s.pulseCor b) := ⟨s.pulseCor_keeps b, rfl, rfl, rfl, rfl, rfl⟩

theorem State.postI_reports (s : State) (w : Word) : s.Reports (s.postI w) := by
  have keeps := s.postI_keeps w
  unfold State.postI at keeps ⊢
  split
  · exact .refl s
  · next held => exact ⟨by rwa [if_neg held] at keeps, rfl, rfl, rfl, rfl, rfl⟩

theorem State.postD_reports (s : State) (w : Word) : s.Reports (s.postD w) := by
  have keeps := s.postD_keeps w
  unfold State.postD at keeps ⊢
  split
  · exact .refl s
  · next held => exact ⟨by rwa [if_neg held] at keeps, rfl, rfl, rfl, rfl, rfl⟩

theorem State.postS_reports (s : State) (w : Word) : s.Reports (s.postS w) := by
  have keeps := s.postS_keeps w
  unfold State.postS at keeps ⊢
  split
  · exact .refl s
  · next held => exact ⟨by rwa [if_neg held] at keeps, rfl, rfl, rfl, rfl, rfl⟩

theorem State.checkDTags_reports (s : State) (i : Nat) (x : BitVec 11) : s.Reports (s.checkDTags i x) := by
  unfold State.checkDTags
  exact .ite ((s.pulseUnc_reports true).trans (State.postD_reports _ _)) (.refl s)

theorem State.checkITags_reports (s : State) (i : Nat) : s.Reports (s.checkITags i) := by
  unfold State.checkITags
  exact .ite ((s.pulseUnc_reports true).trans (State.postI_reports _ _)) (.refl s)

theorem State.postDTag_reports (s : State) (a : DWord) (w : Bool) : s.Reports (s.postDTag a w) := by
  unfold State.postDTag
  exact .ite ((s.pulseUnc_reports true).trans (State.postD_reports _ _)) (.refl s)

theorem State.reportSData_reports {α : Type} (s : State) (pa : PAddr) (w : Bool) (r : Checked α) : s.Reports (s.reportSData pa w r) :=
  (s.pulseCor_reports r.fixed).trans (.ite (State.postS_reports _ _) (.refl _))

end Sys2Proof.Machine

end

section
/-! PROOFS. Emptying primary blocks, in any state: which tags become Invalid, which quadwords of the secondary cache the blocks that are written
back reach, and that nothing else moves (R278, R290, R536, R546). -/

namespace Sys2Proof.Machine

/-! ## Blocks that are emptied -/

/-- The tag of an invalidated instruction block. -/
def ITag.gone (t : ITag) : ITag := { t with valid := false, stateParity := false }

theorem Purge.writes_gone (m : Purge) (t : DTag) : m.writes t.gone = false := by
  cases m <;> rfl

theorem Purge.inconsistent_of_writes {m : Purge} {t : DTag} (h : m.writes t = true) : t.inconsistent = true := by
  cases m with
  | drop => cases h
  | inconsistent => exact h
  | dirty => exact (Bool.and_eq_true_iff.1 h).1

/-- Quadword q of entry e of the secondary cache is one of the two that data block k is written back to: those that its tag and SCWay name. -/
def State.WritesTo (s : State) (k e q : Nat) : Prop :=
  e = s.sKey (s.dAddr k) (s.dTagAt k).scWay ∧ (q = s.sQuadIndex (s.dAddr k) ∨ q = s.sQuadIndex (s.dAddr k) + 1)

/-- The two quadwords that data block k of s is written back to hold its eight words in t. -/
def State.Reached (s t : State) (k : Nat) : Prop :=
  t.sQuadAt (s.sKey (s.dAddr k) (s.dTagAt k).scWay) (s.sQuadIndex (s.dAddr k)) = ⟨s.dDouble k 0 ++ s.dDouble k 1, .good⟩ ∧
  t.sQuadAt (s.sKey (s.dAddr k) (s.dTagAt k).scWay) (s.sQuadIndex (s.dAddr k) + 1) = ⟨s.dDouble k 2 ++ s.dDouble k 3, .good⟩

/-- Data block k is among those that D selects, by its entry and its tag, and a purge writes it back. -/
def State.Saves (s : State) (m : Purge) (D : Nat → DTag → Prop) (k : Nat) : Prop := D k (s.dTagAt k) ∧ m.writes (s.dTagAt k) = true

/-- From s to t the data blocks that D selects and the instruction blocks that I selects were emptied, those that the purge writes back after
their words reached the secondary cache; nothing else moved in the primary tags, the secondary cache and memory, and nothing went out. -/
structure State.Emptied (s t : State) (m : Purge) (D : Nat → DTag → Prop) (I : Nat → ITag → Prop) : Prop where
  keeps : s.Keeps t
  confined : s.Confined t
  out : s.NothingOut t
  sTag : t.caches.sTag = s.caches.sTag
  dData : t.caches.dData = s.caches.dData
  dGone : ∀ k, D k (s.dTagAt k) → t.dTagAt k = (s.dTagAt k).gone
  dKept : ∀ k, ¬ D k (s.dTagAt k) → t.dTagAt k = s.dTagAt k
  iGone : ∀ k, I k (s.iTagAt k) → t.iTagAt k = (s.iTagAt k).gone
  iKept : ∀ k, ¬ I k (s.iTagAt k) → t.iTagAt k = s.iTagAt k
  reached : ∀ k, s.Saves m D k → (∀ j, s.Saves m D j → j ≠ k → ∀ e q, s.WritesTo k e q → ¬ s.WritesTo j e q) → s.Reached t k
  quads : ∀ e q, q < s.sQuads → (∀ k, s.Saves m D k → ¬ s.WritesTo k e q) → t.sQuadAt e q = s.sQuadAt e q
  still : (∀ k, m.writes (s.dTagAt k) = false) → t.caches.sData = s.caches.sData
  good : ∀ e q, (s.sQuadAt e q).check = .good → (t.sQuadAt e q).check = .good

theorem State.iTagAt_congr {s t : State} (h : t.caches.iTag = s.caches.iTag) (k : Nat) : t.iTagAt k = s.iTagAt k := by
  unfold State.iTagAt
  rw [h]

theorem State.WritesTo.lt {s : State} {k e q : Nat} (h : s.WritesTo k e q) : q < s.sQuads := by
  have := s.sQuadIndex_dAddr_lt k
  obtain ⟨_, rfl | rfl⟩ := h <;> omega

/-- Both quadwords, at once. -/
theorem State.reached_congr {s t u : State} {k : Nat} (h : ∀ e q, s.WritesTo k e q → u.sQuadAt e q = t.sQuadAt e q) (r : s.Reached t k) :
    s.Reached u k :=
  ⟨(h _ _ ⟨rfl, .inl rfl⟩).trans r.1, (h _ _ ⟨rfl, .inr rfl⟩).trans r.2⟩

section
variable {s t : State} (h : s.Keeps t) {k : Nat} (e : t.dTagAt k = s.dTagAt k)
include h e

theorem State.Keeps.writesTo_iff (x q : Nat) : t.WritesTo k x q ↔ s.WritesTo k x q := by
  unfold State.WritesTo
  rw [State.dAddr_congr e, h.sKey_eq, h.sQuadIndex_eq, e]

theorem State.Keeps.reached_iff (d : t.caches.dData = s.caches.dData) (u : State) : t.Reached u k ↔ s.Reached u k := by
  unfold State.Reached
  simp only [State.dAddr_congr e, h.sKey_eq, h.sQuadIndex_eq, e, State.dDouble_congr h.core.memEnd_eq d]
end

/-- Where nothing is selected. -/
theorem State.Reports.emptied {s t : State} (h : s.Reports t) (m : Purge) {D : Nat → DTag → Prop} {I : Nat → ITag → Prop}
    (none : ∀ k, ¬ D k (s.dTagAt k)) (none' : ∀ k, ¬ I k (s.iTagAt k)) : s.Emptied t m D I where
  keeps := h.keeps
  confined := h.confined
  out := h.out
  sTag := by rw [h.caches]
  dData := by rw [h.caches]
  dGone k hk := absurd hk (none k)
  dKept k _ := State.dTagAt_congr (by rw [h.caches]) k
  iGone k hk := absurd hk (none' k)
  iKept k _ := State.iTagAt_congr (by rw [h.caches]) k
  reached k hk := absurd hk.1 (none k)
  quads e q _ _ := h.keeps.sQuadAt_eq (by rw [h.caches]) e q
  still _ := by rw [h.caches]
  good e q hq := by rwa [h.keeps.sQuadAt_eq (by rw [h.caches])]

section
variable {s t u : State} {m : Purge} {D D' : Nat → DTag → Prop} {I I' : Nat → ITag → Prop}

/-- What is selected in s, said in another way. -/
theorem State.Emptied.of_iff (h : s.Emptied t m D I) (d : ∀ k, D' k (s.dTagAt k) ↔ D k (s.dTagAt k))
    (i : ∀ k, I' k (s.iTagAt k) ↔ I k (s.iTagAt k)) : s.Emptied t m D' I' where
  keeps := h.keeps
  confined := h.confined
  out := h.out
  sTag := h.sTag
  dData := h.dData
  dGone k hk := h.dGone k ((d k).1 hk)
  dKept k hk := h.dKept k (hk ∘ (d k).2)
  iGone k hk := h.iGone k ((i k).1 hk)
  iKept k hk := h.iKept k (hk ∘ (i k).2)
  reached k hk apart := h.reached k ⟨(d k).1 hk.1, hk.2⟩ fun j hj => apart j ⟨(d j).2 hj.1, hj.2⟩
  quads e q hq apart := h.quads e q hq fun k hk => apart k ⟨(d k).2 hk.1, hk.2⟩
  still := h.still
  good := h.good

/-- A block that the second purge writes back, the first left alone. -/
theorem State.Emptied.saves_later (h : s.Emptied t m D I) {k : Nat} (hk : t.Saves m D' k) :
    ¬ D k (s.dTagAt k) ∧ t.dTagAt k = s.dTagAt k ∧ s.Saves m D' k := by
  obtain ⟨selected, writes⟩ := hk
  have left : ¬ D k (s.dTagAt k) := fun gone => by
    rw [h.dGone k gone, m.writes_gone] at writes
    cases writes
  have same := h.dKept k left
  rw [same] at selected writes
  exact ⟨left, same, selected, writes⟩

theorem State.Emptied.trans (h : s.Emptied t m D I) (k : t.Emptied u m D' I') :
    s.Emptied u m (fun j x => D j x ∨ D' j x) (fun j x => I j x ∨ I' j x) where
  keeps := h.keeps.trans k.keeps
  confined := h.confined.trans k.confined
  out := h.out.trans k.out
  sTag := k.sTag.trans h.sTag
  dData := k.dData.trans h.dData
  dGone j hj := by
    by_cases first : D j (s.dTagAt j)
    · have gone := h.dGone j first
      by_cases again : D' j (t.dTagAt j)
      · rw [k.dGone j again, gone]; rfl
      · rw [k.dKept j again, gone]
    · have same := h.dKept j first
      rw [k.dGone j (same ▸ hj.resolve_left first), same]
  dKept j hj := by
    have same := h.dKept j (hj ∘ .inl)
    rw [k.dKept j (same ▸ hj ∘ .inr), same]
  iGone j hj := by
    by_cases first : I j (s.iTagAt j)
    · have gone := h.iGone j first
      by_cases again : I' j (t.iTagAt j)
      · rw [k.iGone j again, gone]; rfl
      · rw [k.iKept j again, gone]
    · have same := h.iKept j first
      rw [k.iGone j (same ▸ hj.resolve_left first), same]
  iKept j hj := by
    have same := h.iKept j (hj ∘ .inl)
    rw [k.iKept j (same ▸ hj ∘ .inr), same]
  reached j hj apart := by
    by_cases first : D j (s.dTagAt j)
    · refine State.reached_congr (fun e q hq => k.quads e q (h.keeps.sQuads_eq ▸ hq.lt) fun i hi => ?_)
        (h.reached j ⟨first, hj.2⟩ fun i hi => apart i ⟨.inl hi.1, hi.2⟩)
      obtain ⟨left, same, saves⟩ := h.saves_later hi
      rw [h.keeps.writesTo_iff same]
      exact apart i ⟨.inr saves.1, saves.2⟩ (fun e => left (e ▸ first)) e q hq
    · have same := h.dKept j first
      refine (h.keeps.reached_iff same h.dData u).1 (k.reached j ⟨same ▸ hj.1.resolve_left first, same ▸ hj.2⟩ fun i hi ne e q hq => ?_)
      obtain ⟨_, same', saves⟩ := h.saves_later hi
      rw [h.keeps.writesTo_iff same']
      exact apart i ⟨.inr saves.1, saves.2⟩ ne e q ((h.keeps.writesTo_iff same e q).1 hq)
  quads e q hq apart := by
    refine (k.quads e q (h.keeps.sQuads_eq ▸ hq) fun i hi => ?_).trans (h.quads e q hq fun i hi => apart i ⟨.inl hi.1, hi.2⟩)
    obtain ⟨_, same, saves⟩ := h.saves_later hi
    rw [h.keeps.writesTo_iff same]
    exact apart i ⟨.inr saves.1, saves.2⟩
  still none := by
    refine (k.still fun j => ?_).trans (h.still none)
    by_cases first : D j (s.dTagAt j)
    · rw [h.dGone j first, m.writes_gone]
    · rw [h.dKept j first, none j]
  good e q := k.good e q ∘ h.good e q

/-- After errors were posted. -/
theorem State.Reports.trans_emptied (h : s.Reports t) (k : t.Emptied u m D I) : s.Emptied u m D I :=
  ((h.emptied m (D := fun _ _ => False) (I := fun _ _ => False) (fun _ => id) fun _ => id).trans k).of_iff
    (fun _ => (false_or _).symm.to_iff) fun _ => (false_or _).symm.to_iff
end

/-! ## One block -/

theorem State.canonical_iTag {s : State} (h : s.canonical = true) : Sparse.wf ITag.default s.caches.iTag = true := by
  obtain ⟨_, _, h, _⟩ := (State.canonical_iff s).1 h
  exact h

theorem State.iTagAt_iInvalidate {s : State} (h : s.canonical = true) (k j : Nat) :
    (s.iInvalidate k).iTagAt j = if j = k then (s.iTagAt k).gone else s.iTagAt j := Sparse.get_set (State.canonical_iTag h) k j _

theorem State.dTagAt_dInvalidate {s : State} (h : s.canonical = true) (k j : Nat) :
    (s.dInvalidate k).dTagAt j = if j = k then (s.dTagAt k).gone else s.dTagAt j := State.dTagAt_setDTag h k j _

theorem State.setDTag_confined (s : State) (k : Nat) (t : DTag) : s.Confined (s.setDTag k t) := rfl

theorem State.setITag_confined (s : State) (k : Nat) (t : ITag) : s.Confined (s.setITag k t) := rfl

theorem State.setSTag_confined (s : State) (k : Nat) (t : STag) : s.Confined (s.setSTag k t) := rfl

theorem State.setMru_confined (s : State) (i : Nat) (b : Bool) : s.Confined (s.setMru i b) := rfl

theorem State.setSQuad_confined (s : State) (k q : Nat) (d : SQuad) : s.Confined (s.setSQuad k q d) := rfl

theorem State.putPair_confined (s : State) (k q : Nat) (x y : SQuad) : s.Confined (s.putPair k q x y) :=
  (s.setSQuad_confined _ _ _).trans (State.setSQuad_confined _ _ _ _)

/-- What a write back is: a parity error is posted, and the words go to the two quadwords. -/
theorem State.dWriteBack_eq {s : State} {i : Nat} {w : Bool} (h : (s.dTagAt (wayKey i w)).inconsistent = true) :
    ∃ r, s.Reports r ∧ s.dWriteBack i w = r.putPair (s.sKey (s.dAddr (wayKey i w)) (s.dTagAt (wayKey i w)).scWay)
      (s.sQuadIndex (s.dAddr (wayKey i w))) ⟨s.dDouble (wayKey i w) 0 ++ s.dDouble (wayKey i w) 1, .good⟩
      ⟨s.dDouble (wayKey i w) 2 ++ s.dDouble (wayKey i w) 3, .good⟩ := by
  rw [State.dAddr_wayKey]
  unfold State.dWriteBack
  dsimp only
  rw [if_pos h]
  exact ⟨_, .ite (.refl s) (s.postD_reports _), rfl⟩

/-- From s to t the words of data block k reached the secondary cache, where the purge writes it back, and nothing else moved but errors. -/
structure State.PutsBack (s t : State) (m : Purge) (k : Nat) : Prop where
  keeps : s.Keeps t
  confined : s.Confined t
  out : s.NothingOut t
  dTag : t.caches.dTag = s.caches.dTag
  iTag : t.caches.iTag = s.caches.iTag
  sTag : t.caches.sTag = s.caches.sTag
  dData : t.caches.dData = s.caches.dData
  reached : m.writes (s.dTagAt k) = true → s.Reached t k
  quads : ∀ e q, q < s.sQuads → (m.writes (s.dTagAt k) = true → ¬ s.WritesTo k e q) → t.sQuadAt e q = s.sQuadAt e q
  still : m.writes (s.dTagAt k) = false → t.caches.sData = s.caches.sData
  good : ∀ e q, (s.sQuadAt e q).check = .good → (t.sQuadAt e q).check = .good

theorem State.putPair_putsBack {s r : State} (hc : s.canonical = true) (h : s.Reports r) {m : Purge} {k : Nat}
    (writes : m.writes (s.dTagAt k) = true) : s.PutsBack (r.putPair (s.sKey (s.dAddr k) (s.dTagAt k).scWay) (s.sQuadIndex (s.dAddr k))
      ⟨s.dDouble k 0 ++ s.dDouble k 1, .good⟩ ⟨s.dDouble k 2 ++ s.dDouble k 3, .good⟩) m k := by
  have bound := s.sQuadIndex_dAddr_lt k
  have caches := h.caches
  generalize hx : (⟨s.dDouble k 0 ++ s.dDouble k 1, .good⟩ : SQuad) = x
  generalize hy : (⟨s.dDouble k 2 ++ s.dDouble k 3, .good⟩ : SQuad) = y
  have at_ {e q : Nat} (hq : q < s.sQuads) := State.sQuadAt_putPair (h.keeps.wf hc) (k := s.sKey (s.dAddr k) (s.dTagAt k).scWay) x y
    (j := e) (h.keeps.sQuads_eq ▸ bound) (h.keeps.sQuads_eq ▸ hq)
  exact {
    keeps := h.keeps.trans (r.putPair_keeps _ _ _ _)
    confined := h.confined.trans (r.putPair_confined _ _ _ _)
    out := h.out
    dTag := (congrArg Caches.dTag caches :)
    iTag := (congrArg Caches.iTag caches :)
    sTag := (congrArg Caches.sTag caches :)
    dData := (congrArg Caches.dData caches :)
    reached := fun _ => ⟨by rw [at_ (by omega), if_neg (by omega), if_pos ⟨rfl, rfl⟩, hx], by rw [at_ bound, if_pos ⟨rfl, rfl⟩, hy]⟩
    quads := fun e q hq apart => by
      have other := apart writes
      rw [at_ hq, if_neg fun c => other ⟨c.1, .inr c.2⟩, if_neg fun c => other ⟨c.1, .inl c.2⟩]
      exact h.keeps.sQuadAt_eq (by rw [caches]) e q
    still := fun none => absurd writes (by rw [none]; exact Bool.false_ne_true)
    good := fun e q hq => by
      rw [State.sQuadAt_putPair_raw (h.keeps.wf hc), h.keeps.sQuadAt_eq (by rw [caches]), ← hx, ← hy]
      split
      · rfl
      · split
        · rfl
        · exact hq }

theorem State.dWriteBack_putsBack {s : State} (hc : s.canonical = true) (m : Purge) (i : Nat) (w : Bool) :
    s.PutsBack (if m.writes (s.dTagAt (wayKey i w)) then s.dWriteBack i w else s) m (wayKey i w) := by
  split
  · next writes =>
    obtain ⟨r, reports, e⟩ := State.dWriteBack_eq (m.inconsistent_of_writes writes)
    rw [e]
    exact State.putPair_putsBack hc reports writes
  · next writes =>
    exact ⟨.refl s, .refl s, .refl s, rfl, rfl, rfl, rfl, fun h => absurd h writes, fun _ _ _ _ => rfl, fun _ => rfl,
      fun _ _ => id⟩

/-- And then it is invalidated. -/
theorem State.PutsBack.emptied {s t : State} {m : Purge} {k : Nat} (h : s.PutsBack t m k) (hc : s.canonical = true) :
    s.Emptied (t.dInvalidate k) m (fun j _ => j = k) (fun _ _ => False) := by
  have tags (j : Nat) := State.dTagAt_dInvalidate (h.keeps.wf hc) k j
  simp only [State.dTagAt_congr h.dTag] at tags
  exact {
    keeps := h.keeps.trans (t.dInvalidate_keeps k)
    confined := h.confined.trans (t.setDTag_confined _ _)
    out := h.out
    sTag := h.sTag
    dData := h.dData
    dGone := fun j hj => by rw [tags, if_pos hj, hj]
    dKept := fun j hj => by rw [tags, if_neg hj]
    iGone := fun _ hj => hj.elim
    iKept := fun j _ => State.iTagAt_congr (t := t.dInvalidate k) h.iTag j
    reached := fun j hj _ => by
      obtain ⟨rfl, writes⟩ := hj
      exact h.reached writes
    quads := fun e q hq apart => h.quads e q hq fun writes => apart k ⟨rfl, writes⟩
    still := fun none => h.still (none k)
    good := h.good }

/-- A data block is written back, where the purge does so, and invalidated. -/
theorem State.retire_emptied {s : State} (hc : s.canonical = true) (m : Purge) (i : Nat) (w : Bool) :
    s.Emptied ((if m.writes (s.dTagAt (wayKey i w)) then s.dWriteBack i w else s).dInvalidate (wayKey i w)) m
      (fun k _ => k = wayKey i w) (fun _ _ => False) := (State.dWriteBack_putsBack hc m i w).emptied hc

theorem State.iInvalidate_emptied {s : State} (hc : s.canonical = true) (m : Purge) (k : Nat) :
    s.Emptied (s.iInvalidate k) m (fun _ _ => False) (fun j _ => j = k) where
  keeps := s.iInvalidate_keeps k
  confined := s.setITag_confined _ _
  out := ⟨rfl, rfl, rfl⟩
  sTag := rfl
  dData := rfl
  dGone _ hj := hj.elim
  dKept _ _ := rfl
  iGone j hj := by rw [State.iTagAt_iInvalidate hc, if_pos hj, hj]
  iKept j hj := by rw [State.iTagAt_iInvalidate hc, if_neg hj]
  reached _ hj := hj.1.elim
  quads _ _ _ _ := rfl
  still _ := rfl
  good _ _ := id

/-! ## One set -/

/-- The way of a data set that holds a block, if it does. -/
theorem State.dPurge_emptied {s : State} (hc : s.canonical = true) (m : Purge) (i : Nat) (pa : PAddr) (w : Bool) :
    s.Emptied (s.dPurge m i pa w) m (fun k t => k = wayKey i w ∧ t.state ≠ .invalid ∧ t.tag = pageOf pa) (fun _ _ => False) := by
  unfold State.dPurge
  dsimp only
  split
  · next held =>
    simp only [Bool.and_eq_true, bne_iff_ne, beq_iff_eq] at held
    exact (State.retire_emptied hc m i w).of_iff (fun k => ⟨And.left, fun e => ⟨e, e ▸ held⟩⟩) fun _ => .rfl
  · next absent =>
    simp only [Bool.and_eq_true, bne_iff_ne, beq_iff_eq] at absent
    exact (State.Reports.refl s).emptied m (fun k hk => absent (hk.1 ▸ hk.2)) fun _ => id

theorem State.iPurge_emptied {s : State} (hc : s.canonical = true) (m : Purge) (i : Nat) (pa : PAddr) (w : Bool) :
    s.Emptied (s.iPurge i pa w) m (fun _ _ => False) (fun k t => k = wayKey i w ∧ t.valid = true ∧ t.tag = pageOf pa) := by
  unfold State.iPurge
  dsimp only
  split
  · next held =>
    simp only [Bool.and_eq_true, beq_iff_eq] at held
    exact (State.iInvalidate_emptied hc m (wayKey i w)).of_iff (fun _ => .rfl) fun k => ⟨And.left, fun e => ⟨e, e ▸ held⟩⟩
  · next absent =>
    simp only [Bool.and_eq_true, beq_iff_eq] at absent
    exact (State.Reports.refl s).emptied m (fun _ => id) fun k hk => absent (hk.1 ▸ hk.2)

theorem wayKey_or_iff (k i : Nat) : k = wayKey i false ∨ k = wayKey i true ↔ k / 2 = i := by
  simp only [wayKey, Bool.toNat_false, Bool.toNat_true]
  omega

/-- The blocks of a data set. -/
theorem State.dPurgeSet_emptied {s : State} (hc : s.canonical = true) (m : Purge) (i : Nat) (pa : PAddr) :
    s.Emptied (s.dPurgeSet m i pa) m (fun k t => k / 2 = i ∧ t.state ≠ .invalid ∧ t.tag = pageOf pa) (fun _ _ => False) := by
  have checked := s.checkDTags_reports i (BitVec.ofNat 9 i ++ 0#2)
  have first := State.dPurge_emptied (checked.keeps.wf hc) m i pa false
  have second := State.dPurge_emptied ((checked.keeps.trans first.keeps).wf hc) m i pa true
  refine (checked.trans_emptied (first.trans second)).of_iff (fun k => ?_) fun _ => by rw [or_self]
  rw [← wayKey_or_iff, or_and_right]

/-- The blocks of an instruction set. -/
theorem State.iPurgeSet_emptied {s : State} (hc : s.canonical = true) (m : Purge) (i : Nat) (pa : PAddr) :
    s.Emptied (s.iPurgeSet i pa) m (fun _ _ => False) (fun k t => k / 2 = i ∧ t.valid = true ∧ t.tag = pageOf pa) := by
  have checked := s.checkITags_reports i
  have first := State.iPurge_emptied (checked.keeps.wf hc) m i pa false
  have second := State.iPurge_emptied ((checked.keeps.trans first.keeps).wf hc) m i pa true
  refine (checked.trans_emptied (first.trans second)).of_iff (fun _ => by rw [or_self]) fun k => ?_
  rw [← wayKey_or_iff, or_and_right]

end Sys2Proof.Machine

end

section
/-! PROOFS. Purging the primary caches of a secondary block, in any state: exactly the blocks that lie in it under its PIdx bits become Invalid
(R278, R290), and the words of those that are written back reach the secondary cache first (R536, R547, R553). -/

namespace Sys2Proof.Machine

/-! ## A range of lines -/

/-- The block of an instruction tag in set i: the page from the tag, bits 11:6 from the index. -/
def iBlockAddr (tag : BitVec 28) (i : Nat) : PAddr := tag ++ BitVec.ofNat 6 i ++ 0#6

theorem toNat_iBlockAddr (tag : BitVec 28) (i : Nat) : (iBlockAddr tag i).toNat = tag.toNat * 4096 + i % 64 * 64 := by
  rw [iBlockAddr, BitVec.toNat_append, BitVec.toNat_append, BitVec.toNat_ofNat, BitVec.toNat_ofNat]
  have page : tag.toNat <<< 6 ||| i % 2 ^ 6 = tag.toNat * 64 + i % 64 := by
    rw [← Nat.shiftLeft_add_eq_or_of_lt (Nat.mod_lt _ (by omega)), Nat.shiftLeft_eq]
  rw [page, Nat.zero_mod, Nat.or_zero, Nat.shiftLeft_eq]
  omega

/-- The instruction set of an address under PIdx bits (R278). -/
theorem iSet_aliasVa (p : BitVec 2) (pa : PAddr) : iSet (aliasVa p pa) = p.toNat * 64 + pa.toNat / 64 % 64 := by
  have lt := p.isLt
  rw [iSet, BitVec.extractLsb'_toNat, Nat.shiftRight_eq_div_pow, toNat_aliasVa]
  omega

/-- The data block of an entry and a tag is under PIdx bits p one of the n lines from line `lo` on. -/
def dLines (p : BitVec 2) (lo n k : Nat) (t : DTag) : Prop :=
  t.state ≠ .invalid ∧ k / 256 = p.toNat ∧ lo ≤ lineOf (dBlockAddr t.tag (k / 2)) ∧ lineOf (dBlockAddr t.tag (k / 2)) < lo + n

/-- And the instruction block of an entry and a tag, whose first line counts. -/
def iLines (p : BitVec 2) (lo n k : Nat) (t : ITag) : Prop :=
  t.valid = true ∧ k / 128 = p.toNat ∧ lo ≤ lineOf (iBlockAddr t.tag (k / 2)) ∧ lineOf (iBlockAddr t.tag (k / 2)) < lo + n

theorem not_dLines_zero (p : BitVec 2) (lo k : Nat) (t : DTag) : ¬ dLines p lo 0 k t := fun ⟨_, _, low, high⟩ => by omega

theorem not_iLines_zero (p : BitVec 2) (lo k : Nat) (t : ITag) : ¬ iLines p lo 0 k t := fun ⟨_, _, low, high⟩ => by omega

theorem dLines_succ_iff (p : BitVec 2) (lo n k : Nat) (t : DTag) : dLines p lo (n + 1) k t ↔ dLines p lo 1 k t ∨ dLines p (lo + 1) n k t := by
  simp only [dLines, ← and_or_left]
  exact and_congr_right fun _ => and_congr_right fun _ => by omega

theorem iLines_succ_iff (p : BitVec 2) (lo n k : Nat) (t : ITag) : iLines p lo (n + 1) k t ↔ iLines p lo 1 k t ∨ iLines p (lo + 1) n k t := by
  simp only [iLines, ← and_or_left]
  exact and_congr_right fun _ => and_congr_right fun _ => by omega

/-- The one line at an address, as a purge of its data set finds it. -/
theorem dLines_one_iff (p : BitVec 2) (pa : PAddr) (k : Nat) (t : DTag) :
    dLines p (lineOf pa) 1 k t ↔ k / 2 = dSet (aliasVa p pa) ∧ t.state ≠ .invalid ∧ t.tag = pageOf pa := by
  rw [and_left_comm, dLines]
  refine and_congr_right fun _ => ?_
  rw [lineOf, lineOf, toNat_dBlockAddr, dSet_aliasVa, ← BitVec.toNat_inj, toNat_pageOf]
  omega

/-- And a purge of its instruction set, at the start of an instruction block. -/
theorem iLines_one_iff (p : BitVec 2) {pa : PAddr} (even : pa.toNat / 32 % 2 = 0) (k : Nat) (t : ITag) :
    iLines p (lineOf pa) 1 k t ↔ k / 2 = iSet (aliasVa p pa) ∧ t.valid = true ∧ t.tag = pageOf pa := by
  rw [and_left_comm, iLines]
  refine and_congr_right fun _ => ?_
  rw [lineOf, lineOf, toNat_iBlockAddr, iSet_aliasVa, ← BitVec.toNat_inj, toNat_pageOf]
  omega

theorem not_iLines_one {pa : PAddr} (odd : pa.toNat / 32 % 2 = 1) (p : BitVec 2) (k : Nat) (t : ITag) : ¬ iLines p (lineOf pa) 1 k t := by
  rintro ⟨_, _, low, high⟩
  have e := toNat_iBlockAddr t.tag (k / 2)
  unfold lineOf at low high
  omega

theorem getLsbD_five_iff (pa : PAddr) : pa.getLsbD 5 = true ↔ pa.toNat / 32 % 2 = 1 := by
  rw [← BitVec.testBit_toNat, Nat.testBit_eq_decide_div_mod_eq, decide_eq_true_eq]

/-- One piece: its line of the data cache and, at the start of one, the instruction block. -/
theorem State.purgePiece_emptied {s : State} (hc : s.canonical = true) (m : Purge) (p : BitVec 2) (pa : PAddr) :
    s.Emptied (if pa.getLsbD 5 then s.dPurgeSet m (dSet (aliasVa p pa)) pa
      else (s.dPurgeSet m (dSet (aliasVa p pa)) pa).iPurgeSet (iSet (aliasVa p pa)) pa) m (dLines p (lineOf pa) 1) (iLines p (lineOf pa) 1) := by
  have data := State.dPurgeSet_emptied hc m (dSet (aliasVa p pa)) pa
  have bit := getLsbD_five_iff pa
  split
  · next second =>
    exact data.of_iff (fun k => dLines_one_iff p pa k _) fun k => iff_of_false (not_iLines_one (bit.1 second) p k _) id
  · next first =>
    have even : pa.toNat / 32 % 2 = 0 := by
      rw [bit] at first
      omega
    refine (data.trans (State.iPurgeSet_emptied (data.keeps.wf hc) m _ pa)).of_iff (fun k => ?_) fun k => ?_
    · rw [dLines_one_iff, or_false]
    · rw [iLines_one_iff p even, false_or]

theorem State.purgeFrom_succ (s : State) (m : Purge) (p : BitVec 2) (pa : PAddr) (n : Nat) : s.purgeFrom m p pa (n + 1) =
    (if pa.getLsbD 5 then s.dPurgeSet m (dSet (aliasVa p pa)) pa
      else (s.dPurgeSet m (dSet (aliasVa p pa)) pa).iPurgeSet (iSet (aliasVa p pa)) pa).purgeFrom m p (pa + 32#40) n := rfl

theorem State.purgeFrom_emptied (n : Nat) {s : State} (hc : s.canonical = true) (m : Purge) (p : BitVec 2) {pa : PAddr}
    (bound : pa.toNat + 32 * n ≤ 2 ^ 40) : s.Emptied (s.purgeFrom m p pa n) m (dLines p (lineOf pa) n) (iLines p (lineOf pa) n) := by
  induction n generalizing s pa with
  | zero => exact (State.Reports.refl s).emptied m (fun k => not_dLines_zero p _ k _) fun k => not_iLines_zero p _ k _
  | succ n ih =>
    have piece := State.purgePiece_emptied hc m p pa
    have next : (pa + 32#40).toNat = (pa.toNat + 32) % 2 ^ 40 := BitVec.toNat_add _ _
    rw [State.purgeFrom_succ]
    by_cases last : n = 0
    · subst last
      exact piece
    · have line : lineOf (pa + 32#40) = lineOf pa + 1 := by
        rw [lineOf, lineOf, next]
        omega
      have later := ih (piece.keeps.wf hc) (pa := pa + 32#40) (by omega)
      rw [line] at later
      exact (piece.trans later).of_iff (fun k => dLines_succ_iff p _ n k _) fun k => iLines_succ_iff p _ n k _

/-! ## A block -/

/-- The data block of an entry and a tag lies, under PIdx bits p, in the secondary block at an address. -/
def State.dWithin (s : State) (p : BitVec 2) (pa : PAddr) (k : Nat) (t : DTag) : Prop :=
  t.state ≠ .invalid ∧ k / 256 = p.toNat ∧ s.block (dBlockAddr t.tag (k / 2)) = s.block pa

/-- And the instruction block of an entry and a tag. -/
def State.iWithin (s : State) (p : BitVec 2) (pa : PAddr) (k : Nat) (t : ITag) : Prop :=
  t.valid = true ∧ k / 128 = p.toNat ∧ s.block (iBlockAddr t.tag (k / 2)) = s.block pa

/-- The lines of a secondary block. -/
theorem State.lines_of_block (s : State) (pa a : PAddr) :
    (lineOf (s.blockBase pa) ≤ lineOf a ∧ lineOf a < lineOf (s.blockBase pa) + 2 ^ (s.sBlkBits - 5)) ↔ s.block a = s.block pa := by
  rw [lineOf, lineOf, s.toNat_blockBase, State.block, State.block]
  rcases s.geometry_cases with ⟨e, _⟩ | ⟨e, _⟩ <;> rw [e] <;> omega

theorem State.purge_emptied {s : State} (hc : s.canonical = true) (m : Purge) (p : BitVec 2) (pa : PAddr) :
    s.Emptied (s.purge m p pa) m (s.dWithin p pa) (s.iWithin p pa) := by
  have bound : (s.blockBase pa).toNat + 32 * 2 ^ (s.sBlkBits - 5) ≤ 2 ^ 40 := by
    have lt := pa.isLt
    rw [s.toNat_blockBase, State.block]
    rcases s.geometry_cases with ⟨e, _⟩ | ⟨e, _⟩ <;> rw [e] <;> omega
  refine (State.purgeFrom_emptied _ hc m p bound).of_iff (fun k => ?_) fun k => ?_
  · exact and_congr_right fun _ => and_congr_right fun _ => (s.lines_of_block pa _).symm
  · exact and_congr_right fun _ => and_congr_right fun _ => (s.lines_of_block pa _).symm

/-! ## What the statements say of it -/

section
variable {s t : State} {m : Purge} {p : BitVec 2} {base : PAddr} (h : s.Emptied t m (s.dWithin p base) (s.iWithin p base))
  (hb : s.blockBase base = base)
include h hb

theorem State.Emptied.primariesEmptied : s.PrimariesEmptied t p base := by
  have within (a : PAddr) : s.blockBase a = base ↔ s.block a = s.block base := by
    rw [← s.blockBase_eq_iff, hb]
  refine ⟨fun k _ hk => ?_, fun k _ hk => ?_, fun k _ hk => ?_, fun k _ hk => ?_⟩
  · rw [within] at hk
    rw [h.dGone k hk]
    rfl
  · rw [within] at hk
    rw [h.iGone k hk]
    rfl
  · rw [within]
    by_contra outside
    exact hk (h.dKept k fun inside => outside inside.2)
  · rw [within]
    by_contra outside
    exact hk (h.iKept k fun inside => outside inside.2)

/-- The purge of a WriteBack Invalidate: an Inconsistent block is written back or, with `dirty`, one that is DirtyExclusive too. -/
theorem State.Emptied.primaryDataMerged {dirty : Bool}
    (hm : ∀ x, m.writes x = true ↔ x.inconsistent = true ∧ (dirty = true → x.state = .dirtyExclusive)) :
    s.PrimaryDataMerged t dirty p base := by
  have saves (k : Nat) : s.Saves m (s.dWithin p base) k ↔ s.WritesInto dirty p base k := by
    rw [State.Saves, hm, State.dWithin, State.WritesInto, State.dAddr, ← s.blockBase_eq_iff, hb]
    have lt := p.isLt
    constructor
    · rintro ⟨⟨valid, pidx, within⟩, writes⟩
      exact ⟨by omega, valid, pidx, within, writes⟩
    · rintro ⟨_, valid, pidx, within, writes⟩
      exact ⟨⟨valid, pidx, within⟩, writes⟩
  refine ⟨fun k hk alone => h.reached k ((saves k).2 hk) fun j hj ne e q here there => ?_, fun e q hq apart => h.quads e q hq fun k hk here => ?_⟩
  · obtain ⟨valid, pidxJ, withinJ⟩ := hj.1
    obtain ⟨_, pidxK, withinK⟩ := ((saves k).2 hk).1
    have block : s.block (s.dAddr j) = s.block (s.dAddr k) := withinJ.trans withinK.symm
    have line : lineOf (s.dAddr j) = lineOf (s.dAddr k) := by
      have hither : s.sQuadIndex (s.dAddr j) = s.sQuadIndex (s.dAddr k) ∨ s.sQuadIndex (s.dAddr j) = s.sQuadIndex (s.dAddr k) + 1 ∨
          s.sQuadIndex (s.dAddr k) = s.sQuadIndex (s.dAddr j) + 1 := by
        have := here.2
        have := there.2
        omega
      rcases hither with same | after | before
      · exact (State.lineOf_eq_of_quad block (.inl same)).symm
      · exact (State.lineOf_eq_of_quad block (.inr after)).symm
      · exact State.lineOf_eq_of_quad block.symm (.inr before)
    refine alone j ?_ ne valid (State.dAddr_eq_of_lineOf line)
    rw [lineOf_dAddr, lineOf_dAddr] at line
    omega
  · obtain ⟨first, second⟩ := apart k ((saves k).1 hk) here.1
    exact here.2.elim first second
end

end Sys2Proof.Machine

end

section
/-! PROOFS. Emptying a block of the secondary cache, in any state: what reaches memory, by way of the outgoing buffer (R344, R347, R536), and what a
WriteBack Invalidate operation of the CACHE instruction leaves (R547, R553). -/

namespace Sys2Proof.Machine

/-! ## What the statements read -/

theorem State.PrimariesEmptied.congr {s t u : State} {p : BitVec 2} {base : PAddr} (h : s.PrimariesEmptied t p base)
    (d : ∀ k, u.dTagAt k = t.dTagAt k) (i : ∀ k, u.iTagAt k = t.iTagAt k) : s.PrimariesEmptied u p base := by
  unfold State.PrimariesEmptied
  simp only [d, i]
  exact h

theorem State.PrimaryDataMerged.congr {s t u : State} {dirty : Bool} {p : BitVec 2} {base : PAddr} (h : s.PrimaryDataMerged t dirty p base)
    (q : ∀ e q, u.sQuadAt e q = t.sQuadAt e q) : s.PrimaryDataMerged u dirty p base := by
  unfold State.PrimaryDataMerged
  simp only [q]
  exact h

/-- The primary tags, the data of the secondary cache, memory and the System interface of s stand in t. -/
structure State.SameBelow (s t : State) : Prop where
  dTag : t.caches.dTag = s.caches.dTag
  iTag : t.caches.iTag = s.caches.iTag
  sData : t.caches.sData = s.caches.sData
  mem : t.mem = s.mem
  bus : t.bus = s.bus

theorem State.SameBelow.trans {s t u : State} (h : s.SameBelow t) (k : t.SameBelow u) : s.SameBelow u :=
  ⟨k.dTag.trans h.dTag, k.iTag.trans h.iTag, k.sData.trans h.sData, k.mem.trans h.mem, k.bus.trans h.bus⟩

section
variable {t u : State} (h : t.SameBelow u)
include h

theorem State.SameBelow.sQuadAt_eq (e q : Nat) : u.sQuadAt e q = t.sQuadAt e q := by
  unfold State.sQuadAt State.sQuads State.scBlkSize
  rw [h.sData, h.bus]

theorem State.SameBelow.finalMem_eq : u.finalMem = t.finalMem := by
  unfold State.finalMem State.memEnd
  rw [h.mem, h.bus]

variable {s : State}

theorem State.SameBelow.nothingOut (k : s.NothingOut t) : s.NothingOut u := by
  unfold State.NothingOut
  rw [h.mem, h.bus]
  exact k

theorem State.SameBelow.primariesEmptied {p : BitVec 2} {base : PAddr} (k : s.PrimariesEmptied t p base) : s.PrimariesEmptied u p base :=
  k.congr (State.dTagAt_congr h.dTag) (State.iTagAt_congr h.iTag)

theorem State.SameBelow.primaryDataMerged {dirty : Bool} {p : BitVec 2} {base : PAddr} (k : s.PrimaryDataMerged t dirty p base) :
    s.PrimaryDataMerged u dirty p base := k.congr h.sQuadAt_eq

theorem State.SameBelow.writtenBack {e : Nat} {base : PAddr} (k : s.WrittenBack t e base) : s.WrittenBack u e base := by
  unfold State.WrittenBack at k ⊢
  simp only [State.sendOutgoing_mem, h.finalMem_eq, h.sQuadAt_eq, h.mem, h.bus, h.sData] at k ⊢
  exact k
end

/-! ## What goes out -/

theorem State.finalMem_of_empty {s : State} (h : s.bus.outgoing = []) : s.finalMem = s.mem := by
  unfold State.finalMem
  rw [h]
  rfl

/-- Where nothing was to go out, and nothing went. -/
theorem State.NothingOut.writtenBack {s t : State} (h : s.NothingOut t) (empty : s.bus.outgoing = []) {k : Nat}
    (clean : (s.sTagRead k).state ≠ .dirtyExclusive) (base : PAddr)
    (still : (∀ d, (s.dTagAt d).inconsistent = false) → t.caches.sData = s.caches.sData) : s.WrittenBack t k base := by
  obtain ⟨mem, outgoing, _⟩ := h
  have none : t.bus.outgoing = [] := outgoing.trans empty
  have sent : t.sendOutgoing.mem = t.mem := t.sendOutgoing_mem.trans (State.finalMem_of_empty none)
  exact ⟨fun _ => ⟨none, sent.symm⟩, fun _ => mem, fun a _ => by rw [sent, mem], fun _ dirty => absurd dirty clean, still⟩

/-- From s to t a block of quadwords came to the outgoing buffer: with SysWrRdy* asserted it has gone out, else it waits (R344, R347). -/
structure State.CastsOut (s t : State) (base : PAddr) (quads : List QWord) : Prop where
  keeps : s.Keeps t
  confined : s.Confined t
  caches : t.caches = s.caches
  gone : s.bus.wrRdy = true → t.bus.outgoing = [] ∧ t.mem = t.finalMem
  waits : s.bus.wrRdy = false → t.mem = s.mem
  final : t.finalMem = quadsTo s.memEnd s.finalMem base.toNat quads

theorem State.outgo_castsOut (s : State) {o : Outgoing} (h : o.kind.isWrite = true) :
    s.CastsOut (s.outgo o) o.pa (o.quads.map Prod.fst) := by
  have sends := s.outgo_sends h
  obtain ⟨confined, gone, waits⟩ : s.Confined (s.outgo o) ∧ (s.bus.wrRdy = true →
      (s.outgo o).bus.outgoing = [] ∧ (s.outgo o).mem = (s.outgo o).finalMem) ∧ (s.bus.wrRdy = false → (s.outgo o).mem = s.mem) := by
    unfold State.outgo
    dsimp only
    split
    · next ready =>
      obtain ⟨sent, e⟩ := (s.setOutgoing (s.bus.outgoing ++ [o])).sendOutgoing_eq
      rw [e]
      exact ⟨rfl, fun _ => ⟨rfl, (State.finalMem_of_empty rfl).symm⟩, fun waits => by rw [waits] at ready; cases ready⟩
    · next waits => exact ⟨rfl, fun ready => absurd ready waits, fun _ => rfl⟩
  exact ⟨sends.keeps, confined, sends.caches, gone, waits, sends.final⟩

theorem State.Reports.castsOut {s t u : State} {base : PAddr} {quads : List QWord} (h : s.Reports t) (k : t.CastsOut u base quads) :
    s.CastsOut u base quads := by
  obtain ⟨mem, outgoing, _⟩ := h.out
  have final : t.finalMem = s.finalMem := by
    unfold State.finalMem
    rw [h.keeps.core.memEnd_eq, mem, outgoing]
  have wrRdy := h.keeps.core.wrRdy
  exact ⟨h.keeps.trans k.keeps, h.confined.trans k.confined, k.caches.trans h.caches, fun ready => k.gone (wrRdy.trans ready),
    fun waits => (k.waits (wrRdy.trans waits)).trans mem, by rw [k.final, final, h.keeps.core.memEnd_eq]⟩

/-! ## Reading a block -/

theorem State.sReadQuads_length (s : State) (k q n : Nat) : (s.sReadQuads k q n).value.length = n := by
  unfold State.sReadQuads State.sQuadsFrom
  dsimp only
  split <;> simp

theorem SQuad.corrected_of_good {x : SQuad} (h : x.check = .good) : x.corrected = ⟨x.data, false, false⟩ := by
  unfold SQuad.corrected
  rw [h]

/-- Quadwords with right check bits are read as they stand. -/
theorem State.sReadQuads_of_good {s : State} {k n : Nat} (good : ∀ q < n, (s.sQuadAt k q).check = .good) :
    (s.sReadQuads k 0 n).value.map Prod.fst = (s.sQuadsFrom k 0 n).map SQuad.data := by
  have all : ∀ x ∈ s.sQuadsFrom k 0 n, x.check = .good := by
    intro x hx
    obtain ⟨j, hj, rfl⟩ := List.mem_map.1 hx
    rw [Nat.zero_add]
    exact good j (List.mem_range.1 hj)
  unfold State.sReadQuads
  dsimp only
  split
  · rw [List.map_map, List.map_map]
    exact List.map_congr_left fun x hx => by simp [SQuad.corrected_of_good (all x hx)]
  · rw [List.map_map]
    rfl

/-- A block is cast out to the address that its tag names. -/
theorem State.castOut_castsOut (s : State) (flags : List Bool) (pa : PAddr) (w : Bool) :
    s.CastsOut (s.castOut .write flags pa w) (s.sBlockAddr (s.sTagRead (s.sKey pa w)).tag pa)
      ((s.sReadQuads (s.sKey pa w) 0 s.sQuads).value.map Prod.fst) := by
  have out := (s.reportSData_reports pa w (s.sReadQuads (s.sKey pa w) 0 s.sQuads)).castsOut
    (State.outgo_castsOut _ (o := ⟨.write, s.sBlockAddr (s.sTagRead (s.sKey pa w)).tag pa, w,
      (s.sReadQuads (s.sKey pa w) 0 s.sQuads).value.mapIdx fun j x => (x.1, x.2 || flags.getD j false)⟩) rfl)
  have same : ((s.sReadQuads (s.sKey pa w) 0 s.sQuads).value.mapIdx fun j x => (x.1, x.2 || flags.getD j false)).map Prod.fst =
      (s.sReadQuads (s.sKey pa w) 0 s.sQuads).value.map Prod.fst := by
    apply List.ext_getElem?
    intro i
    simp only [List.getElem?_map, List.getElem?_mapIdx, Option.map_map]
    rfl
  rw [same] at out
  exact out

/-- What memory has of it, once it has gone out. -/
theorem State.CastsOut.writtenBack {s u v : State} {k : Nat} {base : PAddr} (h : u.CastsOut v base ((u.sReadQuads k 0 u.sQuads).value.map Prod.fst))
    (keeps : s.Keeps u) (hc : s.canonical = true) (out : s.NothingOut u) (empty : s.bus.outgoing = [])
    (dirty : (s.sTagRead k).state = .dirtyExclusive) (good : ∀ q, (s.sQuadAt k q).check = .good → (u.sQuadAt k q).check = .good)
    (still : (∀ d, (s.dTagAt d).inconsistent = false) → u.caches.sData = s.caches.sData) : s.WrittenBack v k base := by
  obtain ⟨mem, outgoing, _⟩ := out
  have wrRdy := keeps.core.wrRdy
  have wf : Memory.wf s.mem = true := ((State.canonical_iff s).1 hc).1
  have length : ((u.sReadQuads k 0 u.sQuads).value.map Prod.fst).length = s.sQuads := by
    rw [List.length_map, State.sReadQuads_length, keeps.sQuads_eq]
  have final : v.sendOutgoing.mem = quadsTo s.memEnd s.mem base.toNat ((u.sReadQuads k 0 u.sQuads).value.map Prod.fst) := by
    rw [v.sendOutgoing_mem, h.final, State.finalMem_of_empty (outgoing.trans empty), mem, keeps.core.memEnd_eq]
  refine ⟨fun ready => ?gone, fun waits => ?waits, fun a outside => ?outside, fun right _ q hq => ?block, fun none => ?still⟩
  case gone => rw [v.sendOutgoing_mem]; exact h.gone (wrRdy.trans ready)
  case waits => rw [h.waits (wrRdy.trans waits), mem]
  case outside =>
    rw [final]
    refine read_quadsTo_outside wf _ ?_
    rw [length, ← s.two_pow_sBlkBits]
    exact outside.imp id fun c => c.resolve_right fun clean => clean dirty
  case block =>
    rw [final, State.sReadQuads_of_good fun q hq => good q (right q (keeps.sQuads_eq ▸ hq))]
    have quad : ((u.sQuadsFrom k 0 u.sQuads).map SQuad.data)[q]? = some (u.sQuadAt k q).data := by
      rw [List.getElem?_map, u.sQuadsFrom_getElem? k (keeps.sQuads_eq.symm ▸ hq)]
      rfl
    rw [h.keeps.sQuadAt_eq (by rw [h.caches])]
    exact readDouble_quadsTo wf _ _ quad
  case still => rw [h.caches]; exact still none

/-! ## A block is emptied -/

/-- From s to t entry k of the secondary cache, whose block lies at an address, became Invalid, and the primary blocks in it. -/
structure State.BlockGone (s t : State) (k : Nat) (base : PAddr) : Prop where
  invalid : (t.sTagRead k).state = .invalid
  others : ∀ j, j ≠ k → t.sTagAt j = s.sTagAt j
  primaries : s.PrimariesEmptied t (s.sTagRead k).pidx base

/-- And first the block was written back, and the primary blocks in it: the Inconsistent ones, or with `dirty` those that are
DirtyExclusive too. -/
structure State.BlockSaved (s t : State) (dirty : Bool) (k : Nat) (base : PAddr) : Prop extends s.BlockGone t k base where
  merged : s.PrimaryDataMerged t dirty (s.sTagRead k).pidx base
  written : s.WrittenBack t k base

theorem State.sTagRead_congr {s t : State} (h : t.caches.sTag = s.caches.sTag) (k : Nat) : t.sTagRead k = s.sTagRead k := by
  unfold State.sTagRead
  rw [State.sTagAt_congr h]

section
variable {s t u : State} {dirty : Bool} {k : Nat} {base : PAddr} (below : t.SameBelow u) (sTag : u.caches.sTag = t.caches.sTag)
include below sTag

theorem State.SameBelow.blockGone (h : s.BlockGone t k base) : s.BlockGone u k base :=
  ⟨by rw [State.sTagRead_congr sTag, h.invalid], fun j hj => by rw [State.sTagAt_congr sTag, h.others j hj], below.primariesEmptied h.primaries⟩

theorem State.SameBelow.blockSaved (h : s.BlockSaved t dirty k base) : s.BlockSaved u dirty k base :=
  ⟨below.blockGone sTag h.toBlockGone, below.primaryDataMerged h.merged, below.writtenBack h.written⟩
end

/-- What emptying a way does to a block that is there (R536). -/
theorem State.sEvict_eq {s : State} {pa : PAddr} {w : Bool} {m : Purge} (h : (s.sTagRead (s.sKey pa w)).state ≠ .invalid) :
    let t := s.sTagRead (s.sKey pa w)
    let b := s.sBlockAddr t.tag pa
    s.sEvict m pa w = (if t.state = .dirtyExclusive then (s.purge m t.pidx b).castOut .write (s.purgeFlags m t.pidx b) pa w
      else s.purge m t.pidx b).setSTag (s.sKey pa w) { t with state := .invalid, ecc := .good } := by
  unfold State.sEvict
  simp [h]

/-- From s to t the tag of entry k of the secondary cache became Invalid, and MRU bits moved, and nothing else. -/
structure State.Untags (s t : State) (k : Nat) : Prop where
  keeps : s.Keeps t
  confined : s.Confined t
  below : s.SameBelow t
  invalid : (t.sTagRead k).state = .invalid
  others : ∀ j, j ≠ k → t.sTagAt j = s.sTagAt j

theorem State.setSTag_untags {s : State} (hc : s.canonical = true) (k : Nat) {x : STag} (state : x.state = .invalid) (good : x.ecc = .good) :
    s.Untags (s.setSTag k x) k := by
  have tags (j : Nat) := State.sTagAt_setSTag hc k j x
  refine ⟨s.setSTag_keeps k x, s.setSTag_confined k x, ⟨rfl, rfl, rfl, rfl, rfl⟩, ?_, fun j hj => by rw [tags, if_neg hj]⟩
  rw [State.sTagRead, tags, if_pos rfl, STag.checked, good]
  exact state

theorem State.Untags.trans {s t u : State} {k : Nat} (h : s.Untags t k) (h' : t.Untags u k) : s.Untags u k :=
  ⟨h.keeps.trans h'.keeps, h.confined.trans h'.confined, h.below.trans h'.below, h'.invalid, fun j hj => (h'.others j hj).trans (h.others j hj)⟩

theorem State.Untags.setMru {s t : State} {k : Nat} (h : s.Untags t k) (i : Nat) (b : Bool) : s.Untags (t.setMru i b) k :=
  ⟨h.keeps.trans (t.setMru_keeps i b), h.confined.trans (t.setMru_confined i b), h.below.trans ⟨rfl, rfl, rfl, rfl, rfl⟩, h.invalid, h.others⟩

theorem State.Untags.blockGone {s v t : State} {k : Nat} {base : PAddr} (h : v.Untags t k) (sTag : v.caches.sTag = s.caches.sTag)
    (primaries : s.PrimariesEmptied v (s.sTagRead k).pidx base) : s.BlockGone t k base :=
  ⟨h.invalid, fun j hj => (h.others j hj).trans (State.sTagAt_congr sTag j), h.below.primariesEmptied primaries⟩

/-- A purge, after errors of the tag were posted. -/
theorem State.Reports.purge_emptied {s r : State} (h : s.Reports r) (hc : s.canonical = true) (m : Purge) (p : BitVec 2) (pa : PAddr) :
    s.Emptied (r.purge m p pa) m (s.dWithin p pa) (s.iWithin p pa) := by
  refine (h.trans_emptied (State.purge_emptied (h.keeps.wf hc) m p pa)).of_iff (fun j => ?_) fun j => ?_
  · rw [State.dWithin, State.dWithin, h.keeps.block_eq, h.keeps.block_eq]
  · rw [State.iWithin, State.iWithin, h.keeps.block_eq, h.keeps.block_eq]

/-- Then a DirtyExclusive block goes out, as the secondary cache holds it. -/
theorem State.Emptied.castOut {s u : State} {m : Purge} {D : Nat → DTag → Prop} {I : Nat → ITag → Prop} (h : s.Emptied u m D I)
    (hc : s.canonical = true) (empty : s.bus.outgoing = []) (consistent : ∀ x : DTag, x.inconsistent = false → m.writes x = false)
    (flags : List Bool) (pa : PAddr) (w : Bool) :
    let v := if (s.sTagRead (s.sKey pa w)).state = .dirtyExclusive then u.castOut .write flags pa w else u
    u.Keeps v ∧ u.Confined v ∧ v.caches = u.caches ∧ s.WrittenBack v (s.sKey pa w) (s.sBlockAddr (s.sTagRead (s.sKey pa w)).tag pa) := by
  have still (none : ∀ d, (s.dTagAt d).inconsistent = false) : u.caches.sData = s.caches.sData := h.still fun d => consistent _ (none d)
  dsimp only
  split
  · next owned =>
    have out := u.castOut_castsOut flags pa w
    rw [h.keeps.sKey_eq, State.sTagRead_congr h.sTag, h.keeps.sBlockAddr_eq] at out
    exact ⟨out.keeps, out.confined, out.caches, out.writtenBack h.keeps hc h.out empty owned (h.good _) still⟩
  · next clean => exact ⟨.refl u, .refl u, rfl, h.out.writtenBack empty clean _ still⟩

/-- A WriteBack Invalidate operation on a block that is there, after errors of its tag were posted (R536, R547, R553). -/
theorem State.Reports.cacheEvict {s r : State} (h : s.Reports r) (hc : s.canonical = true) (empty : s.bus.outgoing = []) {m : Purge} {dirty : Bool}
    (hm : ∀ x, m.writes x = true ↔ x.inconsistent = true ∧ (dirty = true → x.state = .dirtyExclusive)) (a : DWord) (pa : PAddr) (w : Bool)
    (valid : (s.sTagRead (s.sKey pa w)).state ≠ .invalid) :
    s.Keeps (r.cacheEvict m a pa w) ∧ s.Confined (r.cacheEvict m a pa w) ∧
      s.BlockSaved (r.cacheEvict m a pa w) dirty (s.sKey pa w) (s.sBlockAddr (s.sTagRead (s.sKey pa w)).tag pa) := by
  have tag : r.sTagRead (s.sKey pa w) = s.sTagRead (s.sKey pa w) := State.sTagRead_congr (by rw [h.caches]) _
  have evict := State.sEvict_eq (s := r) (m := m) (pa := pa) (w := w) (by rwa [h.keeps.sKey_eq, tag])
  dsimp only at evict
  rw [h.keeps.sKey_eq, tag, h.keeps.sBlockAddr_eq] at evict
  unfold State.cacheEvict
  rw [evict, h.keeps.sKey_eq]
  have purged := h.purge_emptied hc m (s.sTagRead (s.sKey pa w)).pidx (s.sBlockAddr (s.sTagRead (s.sKey pa w)).tag pa)
  have sent := purged.castOut hc empty (fun x hx => by
    rw [← Bool.not_eq_true, hm, hx]
    exact fun c => Bool.false_ne_true c.1) (r.purgeFlags m (s.sTagRead (s.sKey pa w)).pidx (s.sBlockAddr (s.sTagRead (s.sKey pa w)).tag pa)) pa w
  generalize r.purge m _ _ = u at purged sent ⊢
  dsimp only at sent
  generalize (if (s.sTagRead (s.sKey pa w)).state = .dirtyExclusive then u.castOut .write _ pa w else u) = v at sent ⊢
  obtain ⟨keeps, confined, caches, written⟩ := sent
  have based := s.blockBase_sBlockAddr (s.sTagRead (s.sKey pa w)).tag pa
  generalize s.sBlockAddr _ _ = b at purged written based ⊢
  generalize s.sKey pa w = k at purged written ⊢
  have wf := (purged.keeps.trans keeps).wf hc
  have untags := ((State.setSTag_untags wf k (x := { s.sTagRead k with state := .invalid, ecc := .good }) rfl rfl).trans
    (State.setSTag_untags ((v.setSTag_keeps k _).wf wf) k (x := sTagOf pa (pidxOf a) .invalid) rfl rfl)).setMru (r.mruIndex pa) (!w)
  have primaries : s.PrimariesEmptied v (s.sTagRead k).pidx b :=
    (purged.primariesEmptied based).congr (State.dTagAt_congr (by rw [caches])) (State.iTagAt_congr (by rw [caches]))
  have merged : s.PrimaryDataMerged v dirty (s.sTagRead k).pidx b :=
    (purged.primaryDataMerged based hm).congr (keeps.sQuadAt_eq (by rw [caches]))
  exact ⟨(purged.keeps.trans keeps).trans untags.keeps, (purged.confined.trans confined).trans untags.confined,
    untags.blockGone (by rw [caches, purged.sTag]) primaries, untags.below.primaryDataMerged merged, untags.below.writtenBack written⟩

theorem State.purge_blockBase (s : State) (m : Purge) (p : BitVec 2) (pa : PAddr) : s.purge m p (s.blockBase pa) = s.purge m p pa := by
  unfold State.purge
  rw [s.blockBase_blockBase]

/-- Hit Invalidate (S) on a block that is there: the primary blocks in it go without write back (R550). -/
theorem State.Reports.dropBlock {s r : State} (h : s.Reports r) (hc : s.canonical = true) (a : DWord) (pa : PAddr) (w : Bool) (i : Nat) (b : Bool) :
    let t := ((r.purge .drop (s.sTagRead (s.sKey pa w)).pidx pa).setSTag (s.sKey pa w) (sTagOf pa (pidxOf a) .invalid)).setMru i b
    s.Keeps t ∧ s.Confined t ∧ s.NothingOut t ∧ t.caches.sData = s.caches.sData ∧ s.BlockGone t (s.sKey pa w) (s.blockBase pa) := by
  have purged := h.purge_emptied hc .drop (s.sTagRead (s.sKey pa w)).pidx (s.blockBase pa)
  rw [← h.keeps.blockBase_eq, r.purge_blockBase, h.keeps.blockBase_eq] at purged
  generalize r.purge _ _ _ = u at purged
  generalize s.sKey pa w = k at purged
  have untags := (State.setSTag_untags (purged.keeps.wf hc) k (x := sTagOf pa (pidxOf a) .invalid) rfl rfl).setMru i b
  exact ⟨purged.keeps.trans untags.keeps, purged.confined.trans untags.confined, untags.below.nothingOut purged.out,
    untags.below.sData.trans (purged.still fun _ => rfl),
    untags.blockGone purged.sTag (purged.primariesEmptied (s.blockBase_blockBase pa))⟩

end Sys2Proof.Machine

end

section
/-! PROOFS. The operations of the CACHE instruction that invalidate by index, where they reach the caches (R533, R534, R541, R545 to R547), and
CacheBarrier (R551). -/

namespace Sys2Proof.Machine

/-! ## Reaching the caches -/

theorem algReserved_of_cached {c : BitVec 3} (h : algCached c = true) : algReserved c = false := by
  revert c
  decide

/-- What comes before the operation lets it pass (R533, R534, R541), and it breaks the link. -/
theorem State.ReachesCaches.cacheOp {s : State} {va : DWord} {pa : PAddr} (h : s.ReachesCaches va pa) {index : Bool}
    (low : index = true ∨ (s.dataAddress va).getLsbD 0 = false) (k : State → DWord → PAddr → Out) :
    s.cacheOp va index k = k s.breakLink (s.dataAddress va) pa := by
  obtain ⟨usable, aligned, ⟨p, translate, rfl, cached⟩, outgoing⟩ := h
  have passes : ((s.dataAddress va).getLsbD 1 || (!index && (s.dataAddress va).getLsbD 0)) = false := by
    rw [aligned]
    rcases low with low | low <;> simp only [low, Bool.not_true, Bool.false_and, Bool.and_false, Bool.or_false]
  unfold State.cacheOp State.requireCp0
  dsimp only
  rw [if_pos usable, if_neg (by rw [passes]; exact Bool.false_ne_true), translate]
  dsimp only
  rw [if_neg (by rw [algReserved_of_cached cached]; exact Bool.false_ne_true), if_pos cached, outgoing]
  rfl

theorem State.ReachesCaches.cacheIndex {s : State} {va : DWord} {pa : PAddr} (h : s.ReachesCaches va pa) (f : State → DWord → PAddr → State) :
    s.cacheIndex va f = .next (f s.breakLink (s.dataAddress va) pa).advance := h.cacheOp (.inl rfl) _

/-! ## Completing -/

theorem State.advance_sameBelow (s : State) : s.SameBelow s.advance := by
  constructor <;> simp

@[simp] theorem State.advance_iTagAt (s : State) (k : Nat) : s.advance.iTagAt k = s.iTagAt k := State.iTagAt_congr (by simp) k

@[simp] theorem State.advance_dTagAt (s : State) (k : Nat) : s.advance.dTagAt k = s.dTagAt k := State.dTagAt_congr (by simp) k

@[simp] theorem State.advance_sTagAt (s : State) (k : Nat) : s.advance.sTagAt k = s.sTagAt k := State.sTagAt_congr (by simp) k

@[simp] theorem State.advance_sTagRead (s : State) (k : Nat) : s.advance.sTagRead k = s.sTagRead k := State.sTagRead_congr (by simp) k

@[simp] theorem State.advance_sQuadAt (s : State) (k q : Nat) : s.advance.sQuadAt k q = s.sQuadAt k q := s.advance_sameBelow.sQuadAt_eq k q

/-- An operation that moved the caches alone, and completes. -/
theorem State.advance_of_caches {s t : State} (h : t = { s with caches := t.caches }) :
    t.advance = { s.advance with caches := t.advance.caches } := by
  rw [State.advance_caches, h]
  unfold State.advance
  dsimp only
  split <;> rfl

/-! ## Index operations -/

/-- What an Index or a Hit WriteBack Invalidate operation does to data entry k, as the statements say it. -/
theorem State.Emptied.dataEntry {s u : State} {k : Nat} (h : s.breakLink.Emptied u .inconsistent (fun j _ => j = k) fun _ _ => False) :
    s.OnlyCachesAndErrors u.advance ∧ s.NothingOut u.advance ∧ u.advance.cp0 = s.cp0 ∧ (u.advance.dTagAt k).state = .invalid ∧
      (∀ j, j ≠ k → u.advance.dTagAt j = s.dTagAt j) ∧ ((s.dTagAt k).inconsistent = true → s.Reached u.advance k) := by
  refine ⟨h.confined.onlyCachesAndErrors, u.advance_sameBelow.nothingOut h.out, u.advance_cp0.trans h.keeps.core.cp0, ?_, fun j hj => ?_,
    fun inconsistent => ?_⟩
  · rw [State.advance_dTagAt, h.dGone _ rfl]
    rfl
  · rw [State.advance_dTagAt, h.dKept j hj]
    rfl
  · have reached : s.Reached u k := h.reached _ ⟨rfl, inconsistent⟩ fun j hj ne => absurd hj.1 ne
    exact State.reached_congr (fun e q _ => u.advance_sQuadAt e q) reached

/-- The two quadwords, by the set and the way of the data block. -/
theorem State.Reached.of_wayKey {s t : State} {i : Nat} {w : Bool} (h : s.Reached t (wayKey i w)) :
    let dest := dBlockAddr (s.dTagAt (wayKey i w)).tag i
    let key := s.sKey dest (s.dTagAt (wayKey i w)).scWay
    t.sQuadAt key (s.sQuadIndex dest) = ⟨s.dDouble (wayKey i w) 0 ++ s.dDouble (wayKey i w) 1, .good⟩ ∧
      t.sQuadAt key (s.sQuadIndex dest + 1) = ⟨s.dDouble (wayKey i w) 2 ++ s.dDouble (wayKey i w) 3, .good⟩ := by
  rw [State.Reached, s.dAddr_wayKey] at h
  exact h

/-- The whole data cache operation is a purge of its entry. -/
theorem State.writeBackInvalidate_emptied {s : State} (hc : s.canonical = true) (i : Nat) (w : Bool) :
    s.Emptied ((s.dWriteBack i w).dInvalidate (wayKey i w)) .inconsistent (fun j _ => j = wayKey i w) fun _ _ => False := by
  have retired := State.retire_emptied hc .inconsistent i w
  split at retired
  · exact retired
  · next consistent =>
    have same : s.dWriteBack i w = s := if_neg consistent
    rwa [same]

/-- What a completed operation on secondary entry k leaves, as the statements say it. -/
theorem State.BlockGone.advance {s u : State} {k : Nat} {base : PAddr} (h : s.breakLink.BlockGone u k base) : s.BlockGone u.advance k base :=
  u.advance_sameBelow.blockGone (by simp) ⟨h.invalid, h.others, h.primaries⟩

theorem State.BlockSaved.advance {s u : State} {dirty : Bool} {k : Nat} {base : PAddr} (h : s.breakLink.BlockSaved u dirty k base) :
    s.BlockSaved u.advance dirty k base :=
  ⟨h.toBlockGone.advance, u.advance_sameBelow.primaryDataMerged h.merged, u.advance_sameBelow.writtenBack h.written⟩

/-- The tag in way w of a secondary set was read: what its checker found is pulsed and posted (R302, R547). -/
def State.sTagReported (s : State) (pa : PAddr) (w : Bool) : State :=
  let c := (s.sTagAt (s.sKey pa w)).checked
  let s1 := s.pulseCor c.fixed
  if c.bad then (s1.pulseUnc true).postS (s.sErrInfo pa 0 (wayBit w true)) else s1

theorem State.sTagReported_reports (s : State) (pa : PAddr) (w : Bool) : s.Reports (s.sTagReported pa w) :=
  .ite (((s.pulseCor_reports _).trans (State.pulseUnc_reports _ _)).trans (State.postS_reports _ _)) (s.pulseCor_reports _)

section
variable {s : State} {base : BitVec 5} {off : BitVec 16} {pa : PAddr} (h : s.ReachesCaches (s.ea base off) pa)
include h

/-- Index Invalidate (I) (R545). -/
theorem exec_cacheIndexInvalidateI : exec (.cacheIndexInvalidateI base off) s =
    let a := s.dataAddress (s.ea base off)
    .next (s.breakLink.iInvalidate (wayKey (iSet a) (wayOf a))).advance := by
  change execCacheIndexInvalidateI base off s = _
  rw [execCacheIndexInvalidateI, h.cacheIndex]

/-- Index WriteBack Invalidate (D) (R546). -/
theorem exec_cacheIndexWritebackInvalidateD : exec (.cacheIndexWritebackInvalidateD base off) s =
    let a := s.dataAddress (s.ea base off)
    .next (((s.breakLink.postDTag a (wayOf a)).dWriteBack (dSet a) (wayOf a)).dInvalidate (wayKey (dSet a) (wayOf a))).advance := by
  change execCacheIndexWritebackInvalidateD base off s = _
  rw [execCacheIndexWritebackInvalidateD, h.cacheIndex]

/-- Index WriteBack Invalidate (S): the tag is read first, and where it is Invalid that is all (R547). -/
theorem exec_cacheIndexWritebackInvalidateS : let a := s.dataAddress (s.ea base off)
    ((s.sTagRead (s.sKey pa (wayOf a))).state = .invalid →
      exec (.cacheIndexWritebackInvalidateS base off) s = .next (s.breakLink.sTagReported pa (wayOf a)).advance) ∧
    ((s.sTagRead (s.sKey pa (wayOf a))).state ≠ .invalid →
      exec (.cacheIndexWritebackInvalidateS base off) s =
        .next ((s.breakLink.sTagReported pa (wayOf a)).cacheEvict .dirty a pa (wayOf a)).advance) := by
  intro a
  have run := h.cacheIndex fun s a pa => if (s.sTagRead (s.sKey pa (wayOf a))).state == .invalid then s.sTagReported pa (wayOf a)
    else (s.sTagReported pa (wayOf a)).cacheEvict .dirty a pa (wayOf a)
  have next {t u : State} (e : t = u) : (.next t.advance : Out) = .next u.advance := by rw [e]
  exact ⟨fun invalid => run.trans (next (if_pos (beq_iff_eq.2 invalid))),
    fun valid => run.trans (next (if_neg (beq_iff_eq.not.2 valid)))⟩

/-- CacheBarrier (R551). -/
theorem exec_cacheBarrier (low : (s.dataAddress (s.ea base off)).getLsbD 0 = false) :
    exec (.cacheBarrier base off) s = .next s.breakLink.advance := by
  change execCacheBarrier base off s = _
  rw [execCacheBarrier, h.cacheOp (.inr low)]
end

theorem Purge.writes_dirty_iff (x : DTag) : Purge.dirty.writes x = true ↔ x.inconsistent = true ∧ (true = true → x.state = .dirtyExclusive) := by
  simp [Purge.writes]

theorem Purge.writes_inconsistent_iff (x : DTag) :
    Purge.inconsistent.writes x = true ↔ x.inconsistent = true ∧ (false = true → x.state = .dirtyExclusive) := by
  simp [Purge.writes]

/-- Settles O48: each operation is a purge of the entry that its index names, and of the primary blocks in it. -/
theorem indexInvalidationsEmptyTheirBlockAndKeepTheOthers : Obligations.IndexInvalidationsEmptyTheirBlockAndKeepTheOthers := by
  intro s base off pa hc reaches a w ki kd ks
  have canonical : s.breakLink.canonical = true := hc
  refine ⟨⟨_, exec_cacheIndexInvalidateI reaches, ?indexI⟩, ⟨_, exec_cacheIndexWritebackInvalidateD reaches, ?indexD⟩, ?indexS,
    exec_cacheBarrier reaches⟩
  case indexI =>
    have tags := State.iTagAt_iInvalidate canonical ki
    refine ⟨State.advance_of_caches rfl, ?_, fun k hk => ?_⟩
    · rw [State.advance_iTagAt]
      exact (congrArg ITag.valid (tags ki)).trans (by rw [if_pos rfl]; rfl)
    · rw [State.advance_iTagAt]
      exact (tags k).trans (if_neg hk)
  case indexD =>
    have posted := s.breakLink.postDTag_reports a w
    obtain ⟨confined, out, cp0, invalid, others, reached⟩ :=
      (posted.trans_emptied (State.writeBackInvalidate_emptied (posted.keeps.wf canonical) (dSet a) w)).dataEntry
    exact ⟨confined, out, cp0, invalid, others, fun inconsistent => (reached inconsistent).of_wayKey⟩
  case indexS =>
    obtain ⟨absent, present⟩ := exec_cacheIndexWritebackInvalidateS reaches
    have reports := s.breakLink.sTagReported_reports pa (wayOf (s.dataAddress (s.ea base off)))
    generalize s.breakLink.sTagReported pa _ = r at absent present reports
    by_cases invalid : (s.sTagRead ks).state = .invalid
    · have caches := reports.caches
      refine ⟨_, absent invalid, reports.confined.onlyCachesAndErrors, (State.advance_cp0 _).trans reports.keeps.core.cp0,
        ?_, fun k _ => ?_, ?_, ?_⟩
      · rw [State.advance_sTagRead, State.sTagRead_congr (congrArg Caches.sTag caches)]
        exact invalid
      · rw [State.advance_sTagAt]
        exact State.sTagAt_congr (congrArg Caches.sTag caches) k
      · rw [if_pos invalid, State.advance_caches, caches]
        exact ⟨rfl, rfl, rfl⟩
      · refine (State.advance_sameBelow _).writtenBack
          (reports.out.writtenBack reaches.outgoing (k := ks) ?_ _ fun _ => congrArg Caches.sData caches)
        intro dirty
        cases invalid.symm.trans dirty
    · obtain ⟨keeps, confined, saved⟩ := reports.cacheEvict canonical reaches.outgoing Purge.writes_dirty_iff a pa w invalid
      have done := saved.advance
      refine ⟨_, present invalid, confined.onlyCachesAndErrors, (State.advance_cp0 _).trans keeps.core.cp0,
        done.invalid, done.others, ?_, done.written⟩
      rw [if_neg invalid]
      exact ⟨done.primaries, done.merged⟩

end Sys2Proof.Machine

end

section
/-! PROOFS. The Hit operations of the CACHE instruction that invalidate: which way hits (R535), what becomes of the block, and of what lies in it
(R536, R537, R548 to R550, R552, R553). -/

namespace Sys2Proof.Machine

/-! ## The way that hits -/

/-- Way w of instruction set i holds the block at an address (R548). -/
def State.iHits (s : State) (i : Nat) (pa : PAddr) (w : Bool) : Bool := (s.iTagAt (wayKey i w)).holds pa

/-- Way w of data set i holds it, for a Hit operation (R549). -/
def State.dHits (s : State) (i : Nat) (pa : PAddr) (w : Bool) : Bool := (s.dTagAt (wayKey i w)).hitBy pa

/-- Way w of its secondary set holds it, by the tag that the checker delivers (R302). -/
def State.sHits (s : State) (pa : PAddr) (w : Bool) : Bool := (s.sTagRead (s.sKey pa w)).holds pa

/-- The outcome of a Hit operation, where `hit` tells of each way whether it hits (R535): a hit in both is undefined, and the model stops. -/
def HitOutcome (hit : Bool → Bool) (o : Out) (found : Bool → State) (missed : State) : Prop :=
  ((hit false && hit true) = true → o = .fault .cacheOpBothWays) ∧
  ((hit false && hit true) = false →
    (∃ w, hit w = true ∧ hit (!w) = false ∧ o = .next (found w)) ∨ (∀ w, hit w = false) ∧ o = .next missed)

theorem oneWay_outcome (hit : Bool → Bool) {k : Option Bool → Out} {found : Bool → State} {missed : State}
    (atHit : ∀ w, k (some w) = .next (found w)) (atMiss : k none = .next missed) :
    HitOutcome hit (oneWay (hit false) (hit true) k) found missed := by
  unfold oneWay
  refine ⟨fun both => if_pos both, fun single => ?_⟩
  rw [if_neg (by rw [single]; exact Bool.false_ne_true)]
  unfold hitWay
  rw [if_neg (by rw [single]; exact Bool.false_ne_true)]
  by_cases first : hit false = true
  · rw [first, Bool.true_and] at single
    rw [if_pos first]
    exact .inl ⟨false, first, single, atHit false⟩
  · rw [if_neg first]
    by_cases second : hit true = true
    · rw [if_pos second]
      exact .inl ⟨true, second, Bool.not_eq_true _ ▸ first, atHit true⟩
    · rw [if_neg second]
      exact .inr ⟨fun w => Bool.eq_false_iff.2 (by cases w <;> assumption), atMiss⟩

theorem or_eq_true_of_hit {hit : Bool → Bool} {w : Bool} (h : hit w = true) : (hit false || hit true) = true := by
  cases w <;> simp [h]

theorem or_eq_false_of_miss {hit : Bool → Bool} (h : ∀ w, hit w = false) : (hit false || hit true) = false := by
  rw [h, h]
  rfl

theorem not_miss_of_hit (hit : Bool → Bool) {w : Bool} (h : hit w = true) : ¬ (hit false || hit true) = false := by
  rw [or_eq_true_of_hit h]
  exact Bool.noConfusion

/-- The way that hits alone. -/
theorem eq_of_hit {hit : Bool → Bool} {v w : Bool} (other : hit (!w) = false) (h : hit v = true) : v = w := by
  rcases Bool.eq_or_eq_not v w with e | rfl
  · exact e
  · rw [other] at h
    cases h

/-- The tag in the way that hits goes: neither way then holds the block, and no other tag changes. -/
theorem held_in_neither_way {α : Type} {tag tag' : Nat → α} {holds : α → Bool} {key : Bool → Nat} {w : Bool}
    (hit : holds (tag (key w)) = true) (other : holds (tag (key (!w))) = false) (gone : holds (tag' (key w)) = false)
    (kept : ∀ k, k ≠ key w → tag' k = tag k) : (∀ v, holds (tag' (key v)) = false) ∧
      ∀ k, (∀ v, holds (tag (key v)) = true → k ≠ key v) → tag' k = tag k := by
  refine ⟨fun v => ?_, fun k hk => kept k (hk w hit)⟩
  by_cases same : key v = key w
  · rw [same]
    exact gone
  · rw [kept _ same]
    rcases Bool.eq_or_eq_not v w with rfl | rfl
    · exact absurd rfl same
    · exact other

/-! ## Tags without errors -/

theorem State.iTags_of_good {s : State} {va : DWord} (good : ∀ w, (s.iTagAt (wayKey (iSet va) w)).bad = false) :
    s.iTags va = .ok (s.iTagAt (wayKey (iSet va) false), s.iTagAt (wayKey (iSet va) true)) s := by
  unfold State.iTags
  dsimp only
  rw [good, good]
  rfl

theorem State.dTags_of_good {s : State} {va : DWord} (good : ∀ w, (s.dTagAt (wayKey (dSet va) w)).bad = false) :
    s.dTags va = .ok (s.dTagAt (wayKey (dSet va) false), s.dTagAt (wayKey (dSet va) true)) s := by
  unfold State.dTags
  dsimp only
  rw [good, good]
  rfl

/-- A corrected error is pulsed (R302, R305). -/
theorem State.sTags_of_good {s : State} {pa : PAddr} (good : ∀ w, (s.sTagAt (s.sKey pa w)).checked.bad = false) :
    ∃ b, s.sTags pa = .ok (s.sTagRead (s.sKey pa false), s.sTagRead (s.sKey pa true)) (s.pulseCor b) := by
  refine ⟨(s.sTagAt (s.sKey pa false)).checked.fixed || (s.sTagAt (s.sKey pa true)).checked.fixed, ?_⟩
  unfold State.sTags
  dsimp only
  rw [good, good]
  rfl

/-! ## What the Hit operations run -/

section
variable {s : State} {base : BitVec 5} {off : BitVec 16} {pa : PAddr} (h : s.ReachesCaches (s.ea base off) pa)
  (low : (s.dataAddress (s.ea base off)).getLsbD 0 = false)
include h low

/-- Hit Invalidate (I) (R548). -/
theorem exec_cacheHitInvalidateI : let a := s.dataAddress (s.ea base off)
    (∀ w, (s.iTagAt (wayKey (iSet a) w)).bad = false) →
    HitOutcome (s.iHits (iSet a) pa) (exec (.cacheHitInvalidateI base off) s)
      (fun w => (s.breakLink.iInvalidate (wayKey (iSet a) w)).advance) s.breakLink.advance := by
  intro a good
  change HitOutcome _ (execCacheHitInvalidateI base off s) _ _
  rw [execCacheHitInvalidateI, h.cacheOp (.inr low), State.iTags_of_good (s := s.breakLink) good]
  dsimp only [Res.acc, Acc.done]
  exact oneWay_outcome (s.iHits (iSet a) pa) (fun _ => rfl) rfl

/-- Hit Invalidate (D) (R549). -/
theorem exec_cacheHitInvalidateD : let a := s.dataAddress (s.ea base off)
    (∀ w, (s.dTagAt (wayKey (dSet a) w)).bad = false) →
    HitOutcome (s.dHits (dSet a) pa) (exec (.cacheHitInvalidateD base off) s)
      (fun w => (s.breakLink.dInvalidate (wayKey (dSet a) w)).advance) s.breakLink.advance := by
  intro a good
  change HitOutcome _ (execCacheHitInvalidateD base off s) _ _
  rw [execCacheHitInvalidateD, h.cacheOp (.inr low), State.dTags_of_good (s := s.breakLink) good]
  dsimp only [Res.acc, Acc.done]
  exact oneWay_outcome (s.dHits (dSet a) pa) (fun _ => rfl) rfl

/-- Hit WriteBack Invalidate (D) (R552). -/
theorem exec_cacheHitWritebackInvalidateD : let a := s.dataAddress (s.ea base off)
    (∀ w, (s.dTagAt (wayKey (dSet a) w)).bad = false) →
    HitOutcome (s.dHits (dSet a) pa) (exec (.cacheHitWritebackInvalidateD base off) s)
      (fun w => ((s.breakLink.dWriteBack (dSet a) w).dInvalidate (wayKey (dSet a) w)).advance) s.breakLink.advance := by
  intro a good
  change HitOutcome _ (execCacheHitWritebackInvalidateD base off s) _ _
  rw [execCacheHitWritebackInvalidateD, h.cacheOp (.inr low), State.dTags_of_good (s := s.breakLink) good]
  dsimp only [Res.acc, Acc.done]
  exact oneWay_outcome (s.dHits (dSet a) pa) (fun _ => rfl) rfl

/-- Hit Invalidate (S), after its tags were read (R550). -/
theorem exec_cacheHitInvalidateS (good : ∀ w, (s.sTagAt (s.sKey pa w)).checked.bad = false) : let a := s.dataAddress (s.ea base off)
    ∃ r, s.breakLink.Reports r ∧
    HitOutcome (s.sHits pa) (exec (.cacheHitInvalidateS base off) s)
      (fun w => ((((r.purge .drop (s.sTagRead (s.sKey pa w)).pidx pa).setSTag (s.sKey pa w) (sTagOf pa (pidxOf a) .invalid)).setMru
        (r.mruIndex pa) (!w)).setCh true).advance) (r.setCh false).advance := by
  intro a
  obtain ⟨b, tags⟩ := State.sTags_of_good (s := s.breakLink) good
  refine ⟨_, s.breakLink.pulseCor_reports b, ?_⟩
  change HitOutcome _ (execCacheHitInvalidateS base off s) _ _
  rw [execCacheHitInvalidateS, h.cacheOp (.inr low), tags]
  dsimp only [Res.acc, Acc.done]
  exact oneWay_outcome (s.sHits pa) (fun w => by cases w <;> rfl) rfl

/-- Hit WriteBack Invalidate (S), after its tags were read (R553). -/
theorem exec_cacheHitWritebackInvalidateS (good : ∀ w, (s.sTagAt (s.sKey pa w)).checked.bad = false) : let a := s.dataAddress (s.ea base off)
    ∃ r, s.breakLink.Reports r ∧
    HitOutcome (s.sHits pa) (exec (.cacheHitWritebackInvalidateS base off) s)
      (fun w => ((r.cacheEvict .inconsistent a pa w).setCh true).advance) (r.setCh false).advance := by
  intro a
  obtain ⟨b, tags⟩ := State.sTags_of_good (s := s.breakLink) good
  refine ⟨_, s.breakLink.pulseCor_reports b, ?_⟩
  change HitOutcome _ (execCacheHitWritebackInvalidateS base off s) _ _
  rw [execCacheHitWritebackInvalidateS, h.cacheOp (.inr low), tags]
  dsimp only [Res.acc, Acc.done]
  exact oneWay_outcome (s.sHits pa) (fun _ => rfl) rfl
end

/-! ## What they leave -/

/-- In t CP0 is as in s, but that Status.CH tells whether the block was there (R537). -/
def State.TellsCh (s t : State) (b : Bool) : Prop :=
  t.cp0 = { s.cp0 with status := (s.cp0.status &&& 0xFFFBFFFF#32) ||| (if b then 0x00040000#32 else 0#32) }

theorem State.setCh_tellsCh (s : State) (b : Bool) : s.TellsCh (s.setCh b) b := by
  have bit : putBit s.cp0.status 18 b = (s.cp0.status &&& 0xFFFBFFFF#32) ||| (if b then 0x00040000#32 else 0#32) := by
    cases b <;> rfl
  rw [State.TellsCh, ← bit]
  rfl

theorem State.setCh_confined (s : State) (b : Bool) : s.Confined (s.setCh b) := rfl

theorem State.setCh_sameBelow (s : State) (b : Bool) : s.SameBelow (s.setCh b) := ⟨rfl, rfl, rfl, rfl, rfl⟩

/-- What a Hit operation leaves of the tags of instruction set i: neither way holds the block, and where it misses nothing changes. -/
def State.InNeitherI (s t : State) (i : Nat) (pa : PAddr) : Prop :=
  (∀ w, (t.iTagAt (wayKey i w)).holds pa = false) ∧
  (∀ k, (∀ w, s.iHits i pa w = true → k ≠ wayKey i w) → t.iTagAt k = s.iTagAt k) ∧
  ((s.iHits i pa false || s.iHits i pa true) = false → t.caches = s.caches)

/-- Of the tags of data set i. -/
def State.InNeitherD (s t : State) (i : Nat) (pa : PAddr) : Prop :=
  (∀ w, (t.dTagAt (wayKey i w)).hitBy pa = false) ∧
  (∀ k, (∀ w, s.dHits i pa w = true → k ≠ wayKey i w) → t.dTagAt k = s.dTagAt k) ∧ t.caches.sTag = s.caches.sTag ∧
  ((s.dHits i pa false || s.dHits i pa true) = false → t.caches = s.caches)

/-- And of the secondary set of an address, with the primary blocks in the block. -/
def State.InNeitherS (s t : State) (pa : PAddr) : Prop :=
  (∀ w, (t.sTagRead (s.sKey pa w)).holds pa = false) ∧
  (∀ k, (∀ w, s.sHits pa w = true → k ≠ s.sKey pa w) → t.sTagAt k = s.sTagAt k) ∧
  (∀ w, s.sHits pa w = true → s.PrimariesEmptied t (s.sTagRead (s.sKey pa w)).pidx (s.blockBase pa)) ∧
  ((s.sHits pa false || s.sHits pa true) = false → t.caches = s.caches)

section
variable {s t : State} {i : Nat} {pa : PAddr} (caches : t.caches = s.caches)
include caches

theorem State.inNeitherI_of_miss (none : ∀ w, s.iHits i pa w = false) : s.InNeitherI t i pa := by
  have same := State.iTagAt_congr (congrArg Caches.iTag caches)
  exact ⟨fun w => by rw [same]; exact none w, fun k _ => same k, fun _ => caches⟩

theorem State.inNeitherD_of_miss (none : ∀ w, s.dHits i pa w = false) : s.InNeitherD t i pa := by
  have same := State.dTagAt_congr (congrArg Caches.dTag caches)
  exact ⟨fun w => by rw [same]; exact none w, fun k _ => same k, congrArg Caches.sTag caches, fun _ => caches⟩

theorem State.inNeitherS_of_miss (none : ∀ w, s.sHits pa w = false) : s.InNeitherS t pa := by
  have sTag := congrArg Caches.sTag caches
  exact ⟨fun w => by rw [State.sTagRead_congr sTag]; exact none w, fun k _ => State.sTagAt_congr sTag k,
    fun w hw => absurd hw (Bool.eq_false_iff.1 (none w)), fun _ => caches⟩
end

theorem State.inNeitherI_of_hit {s u : State} {i : Nat} {pa : PAddr} {w : Bool} (tags : ∀ j, u.iTagAt j = if j = wayKey i w then
    (s.iTagAt (wayKey i w)).gone else s.iTagAt j) (hit : s.iHits i pa w = true)
    (other : s.iHits i pa (!w) = false) : s.InNeitherI u i pa := by
  obtain ⟨gone, kept⟩ := held_in_neither_way (tag := s.iTagAt) (tag' := u.iTagAt) (holds := (·.holds pa)) (key := wayKey i) hit other
    (by rw [tags, if_pos rfl]; rfl) fun k hk => by rw [tags, if_neg hk]
  exact ⟨gone, kept, fun miss => absurd miss (not_miss_of_hit (s.iHits i pa) hit)⟩

/-- A Hit operation of the data cache that found its block in way w, and emptied that entry alone. -/
theorem State.Emptied.inNeitherD {s u : State} {m : Purge} {i : Nat} {pa : PAddr} {w : Bool}
    (h : s.breakLink.Emptied u m (fun j _ => j = wayKey i w) fun _ _ => False) (hit : s.dHits i pa w = true)
    (other : s.dHits i pa (!w) = false) : s.InNeitherD u.advance i pa := by
  obtain ⟨gone, kept⟩ := held_in_neither_way (tag := s.dTagAt) (tag' := u.advance.dTagAt) (holds := (·.hitBy pa)) (key := wayKey i) hit other
    (by rw [State.advance_dTagAt, h.dGone _ rfl]; rfl) fun k hk => by rw [State.advance_dTagAt, h.dKept k hk]; rfl
  exact ⟨gone, kept, (congrArg Caches.sTag u.advance_caches).trans h.sTag,
    fun miss => absurd miss (not_miss_of_hit (s.dHits i pa) hit)⟩

/-- A Hit operation of the secondary cache that found its block in way w. -/
theorem State.BlockGone.inNeitherS {s t : State} {pa : PAddr} {w : Bool} (h : s.BlockGone t (s.sKey pa w) (s.blockBase pa))
    (hit : s.sHits pa w = true) (other : s.sHits pa (!w) = false) : s.InNeitherS t pa := by
  obtain ⟨gone, kept⟩ := held_in_neither_way (tag := s.sTagAt) (tag' := t.sTagAt) (holds := (·.checked.value.holds pa))
    (key := s.sKey pa) hit other
    (by rw [STag.holds]; exact congrArg (· && _) (bne_eq_false_iff_eq.2 h.invalid)) h.others
  refine ⟨gone, kept, fun v hv => ?_, fun miss => absurd miss (not_miss_of_hit (s.sHits pa) hit)⟩
  rw [eq_of_hit (hit := s.sHits pa) other hv]
  exact h.primaries

/-- The block that an address hits is the one its tag names. -/
theorem State.sBlockAddr_of_holds {s : State} {t : STag} {pa : PAddr} (h : t.holds pa = true) : s.sBlockAddr t.tag pa = s.blockBase pa := by
  rw [((STag.holds_iff _ _).1 h).2]
  refine ((s.blockBase_eq_iff _ _).2 ?_)
  exact (s.block_blockBase _).symm.trans (State.block_sBlockAddr_of_sKey (v := false) (w := false) rfl)

/-- An operation of the secondary cache completes, and tells in Status.CH whether its block was there. -/
theorem State.Confined.completed {s t : State} (h : s.breakLink.Confined t) (cp0 : t.cp0 = s.cp0) (b : Bool) :
    s.OnlyCachesAndErrors (t.setCh b).advance ∧ s.TellsCh (t.setCh b).advance b := by
  have tells := t.setCh_tellsCh b
  rw [State.TellsCh, cp0] at tells
  exact ⟨(h.trans (t.setCh_confined b)).onlyCachesAndErrors, (State.advance_cp0 _).trans tells⟩

theorem State.TellsCh.of_eq {s t : State} {b c : Bool} (h : s.TellsCh t b) (e : c = b) : s.TellsCh t c := e ▸ h

/-- The caches, memory and the System interface stand. -/
theorem State.setCh_advance_sameBelow (s : State) (b : Bool) : s.SameBelow (s.setCh b).advance :=
  (s.setCh_sameBelow b).trans (State.advance_sameBelow _)

/-! ## Where one way hits, or none -/

section
variable {s : State} {base : BitVec 5} {off : BitVec 16} {pa : PAddr} (hc : s.canonical = true) (reaches : s.ReachesCaches (s.ea base off) pa)
  (low : (s.dataAddress (s.ea base off)).getLsbD 0 = false)
include hc reaches low

theorem cacheHitInvalidateI_single : let a := s.dataAddress (s.ea base off)
    (∀ w, (s.iTagAt (wayKey (iSet a) w)).bad = false) →
    (s.iHits (iSet a) pa false && s.iHits (iSet a) pa true) = false →
    ∃ t, exec (.cacheHitInvalidateI base off) s = .next t ∧ t = { s.breakLink.advance with caches := t.caches } ∧
      s.InNeitherI t (iSet a) pa := by
  intro a good one
  rcases (exec_cacheHitInvalidateI reaches low good).2 one with ⟨w, hit, other, run⟩ | ⟨none, run⟩
  · refine ⟨_, run, State.advance_of_caches rfl, State.inNeitherI_of_hit (fun j => ?_) hit other⟩
    exact (State.advance_iTagAt _ j).trans (State.iTagAt_iInvalidate (s := s.breakLink) hc _ j)
  · exact ⟨_, run, State.advance_of_caches rfl, State.inNeitherI_of_miss (State.advance_caches s.breakLink) none⟩

theorem cacheHitInvalidateD_single : let a := s.dataAddress (s.ea base off)
    (∀ w, (s.dTagAt (wayKey (dSet a) w)).bad = false) →
    (s.dHits (dSet a) pa false && s.dHits (dSet a) pa true) = false →
    ∃ t, exec (.cacheHitInvalidateD base off) s = .next t ∧ t = { s.breakLink.advance with caches := t.caches } ∧
      t.caches.sData = s.caches.sData ∧ s.InNeitherD t (dSet a) pa := by
  intro a good one
  rcases (exec_cacheHitInvalidateD reaches low good).2 one with ⟨w, hit, other, run⟩ | ⟨none, run⟩
  · have emptied := State.retire_emptied (s := s.breakLink) hc .drop (dSet a) w
    exact ⟨_, run, State.advance_of_caches rfl, (State.advance_sameBelow _).sData.trans (emptied.still fun _ => rfl),
      emptied.inNeitherD hit other⟩
  · exact ⟨_, run, State.advance_of_caches rfl, (State.advance_sameBelow _).sData,
      State.inNeitherD_of_miss (State.advance_caches s.breakLink) none⟩

theorem cacheHitWritebackInvalidateD_single : let a := s.dataAddress (s.ea base off)
    (∀ w, (s.dTagAt (wayKey (dSet a) w)).bad = false) →
    (s.dHits (dSet a) pa false && s.dHits (dSet a) pa true) = false →
    ∃ t, exec (.cacheHitWritebackInvalidateD base off) s = .next t ∧ s.OnlyCachesAndErrors t ∧ s.NothingOut t ∧ t.cp0 = s.cp0 ∧
      s.InNeitherD t (dSet a) pa ∧ ∀ w, s.dHits (dSet a) pa w = true → (s.dTagAt (wayKey (dSet a) w)).inconsistent = true →
        s.Reached t (wayKey (dSet a) w) := by
  intro a good one
  rcases (exec_cacheHitWritebackInvalidateD reaches low good).2 one with ⟨w, hit, other, run⟩ | ⟨none, run⟩
  · have emptied := State.writeBackInvalidate_emptied (s := s.breakLink) hc (dSet a) w
    obtain ⟨confined, out, cp0, _, _, reached⟩ := emptied.dataEntry
    refine ⟨_, run, confined, out, cp0, emptied.inNeitherD hit other, fun v hv => ?_⟩
    rw [eq_of_hit (hit := s.dHits (dSet a) pa) other hv]
    exact reached
  · exact ⟨_, run, State.Confined.onlyCachesAndErrors rfl, (State.advance_sameBelow _).nothingOut (.refl s), State.advance_cp0 _,
      State.inNeitherD_of_miss (State.advance_caches s.breakLink) none, fun w hit => absurd hit (Bool.eq_false_iff.1 (none w))⟩

variable (good : ∀ w, (s.sTagAt (s.sKey pa w)).checked.bad = false)
  (one : (s.sHits pa false && s.sHits pa true) = false)
include good one

theorem cacheHitInvalidateS_single : ∃ t, exec (.cacheHitInvalidateS base off) s = .next t ∧ s.OnlyCachesAndErrors t ∧
    s.TellsCh t (s.sHits pa false || s.sHits pa true) ∧ s.NothingOut t ∧
    t.caches.sData = s.caches.sData ∧ s.InNeitherS t pa := by
  obtain ⟨r, reports, outcome⟩ := exec_cacheHitInvalidateS reaches low good
  rcases outcome.2 one with ⟨w, hit, other, run⟩ | ⟨none, run⟩
  · obtain ⟨keeps, confined, out, sData, gone⟩ := reports.dropBlock hc (s.dataAddress (s.ea base off)) pa w (r.mruIndex pa) (!w)
    obtain ⟨onlyCaches, tells⟩ := confined.completed keeps.core.cp0 true
    have done := ((State.setCh_sameBelow _ true).blockGone rfl gone).advance
    exact ⟨_, run, onlyCaches, tells.of_eq (or_eq_true_of_hit hit), (State.setCh_advance_sameBelow _ true).nothingOut out,
      (State.setCh_advance_sameBelow _ true).sData.trans sData, done.inNeitherS hit other⟩
  · obtain ⟨onlyCaches, tells⟩ := reports.confined.completed reports.keeps.core.cp0 false
    have caches := (State.advance_caches (r.setCh false)).trans reports.caches
    exact ⟨_, run, onlyCaches, tells.of_eq (or_eq_false_of_miss none), (State.setCh_advance_sameBelow r false).nothingOut reports.out,
      congrArg Caches.sData caches, State.inNeitherS_of_miss caches none⟩

theorem cacheHitWritebackInvalidateS_single : ∃ t, exec (.cacheHitWritebackInvalidateS base off) s = .next t ∧ s.OnlyCachesAndErrors t ∧
    s.TellsCh t (s.sHits pa false || s.sHits pa true) ∧ s.InNeitherS t pa ∧
    (∀ w, s.sHits pa w = true → s.PrimaryDataMerged t false (s.sTagRead (s.sKey pa w)).pidx (s.blockBase pa) ∧
      s.WrittenBack t (s.sKey pa w) (s.blockBase pa)) ∧
    ((s.sHits pa false || s.sHits pa true) = false → s.NothingOut t) := by
  obtain ⟨r, reports, outcome⟩ := exec_cacheHitWritebackInvalidateS reaches low good
  rcases outcome.2 one with ⟨w, hit, other, run⟩ | ⟨none, run⟩
  · obtain ⟨keeps, confined, saved⟩ := reports.cacheEvict hc reaches.outgoing Purge.writes_inconsistent_iff (s.dataAddress (s.ea base off)) pa w
      ((STag.holds_iff _ _).1 hit).1
    rw [show s.breakLink.sBlockAddr (s.breakLink.sTagRead (s.breakLink.sKey pa w)).tag pa = s.blockBase pa from s.sBlockAddr_of_holds hit] at saved
    obtain ⟨onlyCaches, tells⟩ := confined.completed keeps.core.cp0 true
    have done := ((State.setCh_sameBelow _ true).blockSaved rfl saved).advance
    refine ⟨_, run, onlyCaches, tells.of_eq (or_eq_true_of_hit hit),
      done.toBlockGone.inNeitherS hit other, fun v hv => ?_, fun miss => absurd miss (not_miss_of_hit (s.sHits pa) hit)⟩
    rw [eq_of_hit (hit := s.sHits pa) other hv]
    exact ⟨done.merged, done.written⟩
  · obtain ⟨onlyCaches, tells⟩ := reports.confined.completed reports.keeps.core.cp0 false
    exact ⟨_, run, onlyCaches, tells.of_eq (or_eq_false_of_miss none),
      State.inNeitherS_of_miss ((State.advance_caches (r.setCh false)).trans reports.caches) none,
      fun w hit => absurd hit (Bool.eq_false_iff.1 (none w)), fun _ => (State.setCh_advance_sameBelow r false).nothingOut reports.out⟩
end

/-- Settles O49: of the two ways one hits, and its entry is purged, or none, and nothing is. -/
theorem hitOperationsLeaveTheBlockInNeitherWay : Obligations.HitOperationsLeaveTheBlockInNeitherWay := by
  intro s base off pa hc reaches low a ki kd ks hitI hitD hit ch
  refine ⟨fun good => ⟨(exec_cacheHitInvalidateI reaches low good).1, cacheHitInvalidateI_single hc reaches low good⟩,
    fun good => ⟨fun both => ⟨?_, ?_⟩, fun one => ⟨?_, ?_⟩⟩, fun good => ⟨fun both => ⟨?_, ?_⟩, fun one => ⟨?_, ?_⟩⟩⟩
  · exact (exec_cacheHitInvalidateD reaches low good).1 both
  · exact (exec_cacheHitWritebackInvalidateD reaches low good).1 both
  · exact cacheHitInvalidateD_single hc reaches low good one
  · obtain ⟨t, run, confined, out, cp0, neither, reached⟩ := cacheHitWritebackInvalidateD_single hc reaches low good one
    exact ⟨t, run, confined, out, cp0, neither, fun w hit inconsistent => (reached w hit inconsistent).of_wayKey⟩
  · obtain ⟨_, _, outcome⟩ := exec_cacheHitInvalidateS reaches low good
    exact outcome.1 both
  · obtain ⟨_, _, outcome⟩ := exec_cacheHitWritebackInvalidateS reaches low good
    exact outcome.1 both
  · exact cacheHitInvalidateS_single hc reaches low good one
  · exact cacheHitWritebackInvalidateS_single hc reaches low good one

end Sys2Proof.Machine

end

section
/-! PROOFS. Events from outside the processor (R18) keep the invariant: coherency requests (R391, R393, R400, R401), errors of the arrays and
units (R308, R316), cache test mode (R1206 to R1208), resets and mode bits (R1150, R1203), pins and answers (R331, R388). -/

namespace Sys2Proof.Machine

/-! ## Coherency requests -/

theorem State.dShare_keeps (s : State) (i : Nat) (pa : PAddr) (w : Bool) : s.Keeps (s.dShare i pa w) :=
  .ite ((s.dWriteBack_keeps i w).trans (State.setDTag_keeps ..)) (.refl s)

/-- Both ways of a set, whose tags are checked. -/
theorem State.shareSet_keeps (s : State) (i : Nat) (x : BitVec 11) (pa : PAddr) :
    s.Keeps (((s.checkDTags i x).dShare i pa false).dShare i pa true) :=
  ((s.checkDTags_keeps i x).trans (State.dShare_keeps ..)).trans (State.dShare_keeps ..)

theorem State.shareFrom_keeps (n : Nat) (s : State) (p : BitVec 2) (pa : PAddr) :
    s.Keeps (s.shareFrom p pa n) := by
  induction n generalizing s pa with
  | zero => exact .refl s
  | succ n ih =>
    unfold State.shareFrom
    exact (s.shareSet_keeps _ _ _).trans (ih _ _)

/-- Reading the secondary tags may report an error of them (R302). -/
theorem State.sExternal_keeps (s : State) (pa : PAddr) : s.Keeps (s.sExternal pa).1 :=
  (s.pulseCor_keeps _).trans (.ite ((State.pulseUnc_keeps _ _).trans (State.postS_keeps ..)) (.refl _))

theorem State.intervene_keeps (s : State) (r : CoherencyRequest) (p : BitVec 2) (pa : PAddr) : s.Keeps (s.intervene r p pa) :=
  .ite (State.shareFrom_keeps ..) (s.purge_keeps ..)

theorem State.respond_keeps (s : State) (r : CoherencyRequest) (pa : PAddr) (w : Bool) (t : STag) : s.Keeps (s.respond r pa w t) := by
  have given := s.intervene_keeps r t.pidx pa
  unfold State.respond
  dsimp only
  split
  · exact given.trans (State.castOut_keeps ..)
  · exact given

theorem State.breakLinkOn_keeps (s : State) (pa : PAddr) : s.Keeps (s.breakLinkOn pa) := .ite s.breakLink_keeps (.refl s)

/-- The secondary cache answers (R400). -/
theorem State.probe_keeps (s : State) (r : CoherencyRequest) (pa : PAddr) : s.Keeps (s.probe r pa) := by
  have read := s.sExternal_keeps pa
  unfold State.probe
  dsimp only
  split
  · exact .ite read (read.trans (State.breakLinkOn_keeps ..))
  · cases r with
    | interventionShared => exact (read.trans (State.respond_keeps ..)).trans (State.setSTag_keeps ..)
    | interventionExclusive =>
      exact ((read.trans (State.respond_keeps ..)).trans (State.setSTag_keeps ..)).trans (State.breakLinkOn_keeps ..)
    | invalidate => exact ((read.trans (State.purge_keeps ..)).trans (State.setSTag_keeps ..)).trans (State.breakLinkOn_keeps ..)

theorem State.resolveWrite_keeps (s : State) (r : CoherencyRequest) (pa : PAddr) : s.Keeps (s.resolveWrite r pa) :=
  .ite (s.setOutgoing_keeps _) (s.setOutgoing_keeps _)

/-- The outgoing buffer answers (R401), or the secondary cache. -/
theorem State.resolve_keeps (s : State) (r : CoherencyRequest) (pa : PAddr) : s.Keeps (s.resolve r pa) := by
  have written := (s.sExternal_keeps pa).trans (State.resolveWrite_keeps _ r pa)
  unfold State.resolve
  split
  · exact s.probe_keeps r pa
  · exact .ite written (written.trans (State.breakLinkOn_keeps ..))

theorem State.coherency_keeps (s : State) (r : CoherencyRequest) (pa : PAddr) : s.Keeps (s.coherency r pa) :=
  (s.record_keeps _).trans (State.resolve_keeps ..)

/-! ## Errors -/

theorem State.systemError_keeps (s : State) (e : SystemError) : s.Keeps (s.systemError e) := by
  cases e with
  | corrected => exact s.pulseCor_keeps true
  | address => exact (s.pulseUnc_keeps true).trans (State.postSi_keeps ..)
  | command => exact (s.pulseUnc_keeps true).trans (State.postSi_keeps ..)
  | response => exact s.postResponse_keeps
  | blockData pa owned w => exact s.postSi_keeps _

theorem State.unitError_keeps (s : State) (u : ErrorUnit) (info : Word) : s.Keeps (s.unitError u info) := by
  cases u with
  | instruction => exact s.postI_keeps info
  | data => exact s.postD_keeps info
  | secondary => exact s.postS_keeps info
  | systemInterface => exact s.postSi_keeps info

theorem State.flipBits_keeps (s : State) (e : ArrayError) : s.Keeps (s.flipBits e) := by
  cases e with
  | iTag k f => exact s.setITag_keeps ..
  | iWord k i f => exact s.setIWord_keeps ..
  | dTag k f => exact s.setDTag_keeps ..
  | dWord k i f => exact s.setDWord_keeps ..
  | sTag k f => exact s.setSTag_keeps ..
  | sQuad k q f => exact s.setSQuad_keeps ..

/-! ## The pins and other agents -/

theorem State.writeByAgent_keeps (s : State) (pa : PAddr) (l : BitVec 8) (d : DWord) : s.Keeps (s.writeByAgent pa l d) :=
  s.setMem_keeps _ fun h => Memory.wf_writeDouble h _ _ _ _

/-- Asserted, SysWrRdy* lets both buffers go out. -/
theorem State.setWriteReady_sameBits (s : State) (b : Bool) : s.SameBits (s.setWriteReady b) := by
  have pin : s.SameBits { s with bus := { s.bus with wrRdy := b } } := .of_eq rfl rfl rfl rfl rfl rfl rfl
  exact .ite (pin.trans ((State.sendOutgoing_keeps _).trans (State.flushBuffer_keeps _)).sameBits) pin

/-! ## Resets -/

theorem State.fresh_sameBits (s : State) : s.SameBits s.fresh := .of_eq rfl rfl rfl rfl rfl rfl rfl

theorem State.leaveRefilling_keeps (l : List Nat) (s : State) : s.Keeps (s.leaveRefilling l) := by
  induction l generalizing s with
  | nil => exact .refl s
  | cons k l ih => exact (s.setDTag_keeps ..).trans (ih _)

/-- Into cache test mode the processor goes through a Cold Reset; else one is due. -/
theorem State.loadModeBits_sameBits (s : State) (m : DWord) : s.SameBits (s.loadModeBits m) :=
  .ite ((s.coldReset_sameBits m).trans (.of_eq rfl rfl rfl rfl rfl rfl rfl)) (.of_eq rfl rfl rfl rfl rfl rfl rfl)

/-! ## Cache test mode -/

/-- A write of an array (R1206). -/
theorem State.ctmStore_keeps {s t : State} {arr : BitVec 3} {a : BitVec 12} {w : Bool} {d : BitVec 40} (h : s.ctmStore arr a w d = some t) :
    s.Keeps t := by
  unfold State.ctmStore at h
  dsimp only at h
  split at h
  · cases h; exact s.setDWord_keeps ..
  · split at h
    · cases h; exact (s.setDTag_keeps ..).trans (State.setDLru_keeps ..)
    · cases h
  · cases h; exact s.setIWord_keeps ..
  · split at h
    · cases h; exact (s.setITag_keeps ..).trans (State.setILru_keeps ..)
    · cases h
  · cases h; exact s.setMru_keeps ..
  · cases h

theorem State.ctmLearn_keeps (s : State) (arr : BitVec 3) (a : BitVec 12) (w : Bool) : s.Keeps (s.ctmLearn arr a w) :=
  .ite (s.learn_keeps _) (.refl s)

theorem State.ctmRemember_sameBits (s : State) (a : BitVec 12) (w : Bool) (d : BitVec 40) (b : Bool) : s.SameBits (s.ctmRemember a w d b) :=
  .of_eq rfl rfl rfl rfl rfl rfl rfl

theorem State.ctmCommand_sameBits {s : State} {c : BitVec 58} {x : State × Option (BitVec 40)} (h : s.ctmCommand c = some x) :
    s.SameBits x.1 := by
  unfold State.ctmCommand at h
  split at h
  · cases h
  · split at h
    · cases h
    · split at h
      · split at h
        · cases h
        · obtain ⟨t, stored, rfl⟩ := Option.map_eq_some_iff.1 h
          exact (State.ctmStore_keeps stored).sameBits.trans (State.ctmRemember_sameBits ..)
      · obtain ⟨v, _, rfl⟩ := Option.map_eq_some_iff.1 h
        exact (s.ctmLearn_keeps ..).sameBits.trans (State.ctmRemember_sameBits ..)

/-! ## The events -/

theorem State.deliverRunning_sameBits {s t : State} {e : ExternalEvent} (h : s.deliverRunning e = some t) : s.SameBits t := by
  cases e with
  | softReset l => cases h; exact (State.leaveRefilling_keeps l s).sameBits.trans (.of_eq rfl rfl rfl rfl rfl rfl rfl)
  | nmi => cases h; exact .of_eq rfl rfl rfl rfl rfl rfl rfl
  | interrupt en v => cases h; exact .of_eq rfl rfl rfl rfl rfl rfl rfl
  | coherency r pa => obtain ⟨_, ⟨⟩⟩ := Option.ite_none_right_eq_some.1 h; exact (s.coherency_keeps r pa).sameBits
  | systemError x => cases h; exact (s.systemError_keeps x).sameBits
  | cacheError u info => cases h; exact (s.unitError_keeps u info).sameBits
  | arrayError x => cases h; exact (s.flipBits_keeps x).sameBits
  | memory pa l d => cases h; exact (s.writeByAgent_keeps pa l d).sameBits
  | reply r => cases h; exact (s.setReplies_keeps _).sameBits
  | strayData => cases h; exact .refl s
  | writeReady b => cases h; exact s.setWriteReady_sameBits b
  | globallyPerformed b => cases h; exact .of_eq rfl rfl rfl rfl rfl rfl rfl
  | speculate l k va => obtain ⟨_, ⟨⟩⟩ := Option.ite_none_right_eq_some.1 h; exact (s.speculate_keeps ..).sameBits
  | jtag tms tdi pins => obtain ⟨j, _, rfl⟩ := Option.map_eq_some_iff.1 h; exact .of_eq rfl rfl rfl rfl rfl rfl rfl
  | coldReset _ => cases h; exact .refl s
  | cacheTest _ => cases h

/-- Whether the processor runs or is held in cache test mode, nothing the invariant speaks of moves but by the operations above. -/
theorem State.deliver_sameBits {s t : State} {e : ExternalEvent} (h : s.deliver e = some t) : s.SameBits t := by
  unfold State.deliver at h
  split at h
  · obtain ⟨_, ⟨⟩⟩ := Option.ite_none_right_eq_some.1 h
    exact s.fresh_sameBits.trans (State.loadModeBits_sameBits ..)
  · obtain ⟨x, command, rfl⟩ := Option.map_eq_some_iff.1 h
    exact State.ctmCommand_sameBits command
  · cases h; exact (s.writeByAgent_keeps ..).sameBits
  · cases h; exact (s.flipBits_keeps _).sameBits
  · split at h
    · cases h; exact .refl s
    · exact s.fresh_sameBits.trans (State.deliverRunning_sameBits h)

/-- Settles O59, by `State.deliver_sameBits`. -/
theorem externalEventsKeepInv : Obligations.ExternalEventsKeepInv := fun _ _ _ inv h => (State.deliver_sameBits h).inv inv

end Sys2Proof.Machine

end

section
/-! PROOFS. An uncached access to any row of lanes of a doubleword, in kseg1: the bytes it reads or writes, in either byte order, and its one
request (R230, R350, R359, R377, R378, R440). -/

namespace Sys2Proof.Machine

/-! ## Rows of lanes -/

/-- The place in its doubleword of the first byte, by address, of lanes k to k + n - 1 (R230). -/
def laneStart (be : Bool) (k n : Nat) : Nat := if be then 8 - n - k else k

theorem pow_256 (n : Nat) : 256 ^ n = 2 ^ (8 * n) := Nat.pow_mul 2 8 n ▸ rfl

/-- The lanes of an aligned access start at its address. -/
theorem laneStart_laneShift {n : Nat} {va : DWord} (hn : AccessSize n) (ha : va.toNat % n = 0) (be : Bool) :
    laneStart be (laneShift be va n) n = va.toNat % 8 := by
  have := offset_add_size_le hn ha
  rw [laneStart, laneShift_eq]
  split <;> omega

section
variable {k n : Nat} (hn : 0 < n) (hk : k + n ≤ 8)
include hn hk

theorem lowestLane_lanesFrom (be : Bool) (base : PAddr) :
    lowestLane be base (lanesFrom k n) = base + BitVec.ofNat 40 (laneStart be k n) := by
  have find : ∀ be : Bool, ∀ n < 9, ∀ k < 8, 0 < n → k + n ≤ 8 →
      (List.range 8).find? (fun j => (lanesFrom k n).getLsbD (laneAddress be j)) = some (laneStart be k n) := by decide
  rw [lowestLane, find be n (by omega) k (by omega) hn hk, Option.getD_some]

theorem laneCount_of_pos : laneCount (lanesFrom k n) = n := by
  have count : ∀ n < 9, ∀ k < 8, 0 < n → k + n ≤ 8 → laneCount (lanesFrom k n) = n := by decide
  exact count n (by omega) k (by omega) hn hk
end

/-! ## The bytes of a doubleword -/

/-- The low n bytes of a number determine its first n bytes. -/
theorem byteOf_congr {v w n i : Nat} (h : v % 256 ^ n = w % 256 ^ n) (be : Bool) (hi : i < n) : byteOf be v n i = byteOf be w n i := by
  have digit (x p : Nat) (hp : p < n) : x / 256 ^ p % 256 = x % 256 ^ n / 256 ^ p % 256 := by
    rw [show 256 ^ n = 256 ^ p * (256 * 256 ^ (n - p - 1)) by rw [← Nat.pow_succ', ← Nat.pow_add]; congr 1; omega,
      Nat.mod_mul_right_div_self, Nat.mod_mul_right_mod]
  have inside : (if be then n - 1 - i else i) < n := by split <;> omega
  rw [byteOf, byteOf, digit v _ inside, digit w _ inside, h]

/-- A lane as a digit of its doubleword. -/
theorem laneOf_eq_ofNat (d : DWord) (k : Nat) : laneOf d k = BitVec.ofNat 8 (d.toNat / 256 ^ k % 256) := by
  apply BitVec.eq_of_toNat_eq
  rw [laneOf, BitVec.extractLsb'_toNat, Nat.shiftRight_eq_div_pow, pow_256, BitVec.toNat_ofNat, Nat.mod_mod]

/-- What n lanes of a doubleword of memory hold: the bytes from the first of them on. -/
theorem Memory.readDouble_lanes {k n : Nat} (hk : k + n ≤ 8) (be : Bool) (m : List Host.Cell) (base : Nat) :
    (Memory.readDouble be m base).toNat / 256 ^ k % 256 ^ n = bytesAt be m (base + laneStart be k n) n := by
  apply Nat.eq_of_testBit_eq
  intro i
  rw [pow_256, pow_256, Nat.testBit_mod_two_pow, Nat.testBit_div_two_pow, BitVec.testBit_toNat, testBit_bytesAt]
  by_cases hi : i < 8 * n
  · have address : base + laneAddress be ((i + 8 * k) / 8) = base + laneStart be k n + if be then n - 1 - i / 8 else i / 8 := by
      rw [laneStart, laneAddress]
      split <;> omega
    rw [Memory.getLsbD_readDouble _ _ _ (by omega), address, Nat.add_mul_mod_self_left]
  · simp [hi]

/-- What a write of n lanes does to memory, byte by byte: v is what the lanes hold. -/
theorem Memory.read_writeDouble_lanes {m : List Host.Cell} (h : Memory.wf m = true) {k n v : Nat} {d : DWord} (hk : k + n ≤ 8)
    (hv : d.toNat / 256 ^ k % 256 ^ n = v % 256 ^ n) (be : Bool) {base start : Nat} (hs : base + laneStart be k n = start) (x : Nat) :
    Memory.read (Memory.writeDouble be m base (lanesFrom k n) d) x =
      if start ≤ x ∧ x < start + n then BitVec.ofNat 8 (byteOf be v n (x - start)) else Memory.read m x := by
  subst hs
  rw [Memory.read_writeDouble h]
  by_cases inside : base + laneStart be k n ≤ x ∧ x < base + laneStart be k n + n
  · have lane : laneFor be (x - base) < 8 ∧ k ≤ laneFor be (x - base) ∧ laneFor be (x - base) < k + n ∧
        laneFor be (x - base) = k + if be then n - 1 - (x - (base + laneStart be k n)) else x - (base + laneStart be k n) := by
      revert inside
      rw [laneStart, laneFor]
      split <;> omega
    have double : base ≤ x ∧ x < base + 8 := by
      revert inside
      rw [laneStart]
      split <;> omega
    obtain ⟨low, from_, to_, place⟩ := lane
    rw [if_pos inside, if_pos ⟨double.1, double.2, by simp [getLsbD_lanesFrom _ _ low, from_, to_]⟩, laneOf_eq_ofNat,
      ← byteOf_congr hv be (by omega), byteOf, place, Nat.pow_add, Nat.div_div_eq_div_mul]
  · rw [if_neg inside, if_neg]
    rintro ⟨from_, to_, selected⟩
    have low : laneFor be (x - base) < 8 := by unfold laneFor; split <;> omega
    rw [getLsbD_lanesFrom _ _ low, decide_eq_true_eq] at selected
    revert inside selected
    rw [laneStart, laneFor]
    split <;> omega

/-- A number shifted up to lane k, read there. -/
theorem toNat_shiftLeft_lanes {k n : Nat} (hk : k + n ≤ 8) (v : DWord) :
    (v <<< (8 * k)).toNat / 256 ^ k % 256 ^ n = v.toNat % 256 ^ n := by
  apply Nat.eq_of_testBit_eq
  intro i
  rw [pow_256, pow_256, Nat.testBit_mod_two_pow, Nat.testBit_div_two_pow, BitVec.testBit_toNat, Nat.testBit_mod_two_pow, BitVec.testBit_toNat,
    BitVec.getLsbD_shiftLeft]
  by_cases hi : i < 8 * n
  · simp [hi, show i + 8 * k < 64 by omega]
  · simp [hi]

/-! ## One request -/

/-- A load in kseg1 of a row of lanes: one read request for the bytes from the first of them on. -/
theorem State.Plain.loadAt_lanes {s : State} {va : DWord} {a k n start : Nat} (h : s.Plain va a false) (hn : 0 < n) (hk : k + n ≤ 8)
    (hs : (doubleBase (BitVec.ofNat 40 (kseg1Pa va))).toNat + laneStart s.memEnd k n = start) :
    ∃ p d, s.loadAt va (lanesFrom k n) = .ok (p, d) (s.breakLink.afterRead start n) ∧
      d.toNat / 256 ^ k % 256 ^ n = bytesAt s.memEnd s.mem start n := by
  refine ⟨⟨BitVec.ofNat 40 (kseg1Pa va), 2#3, s.kseg1Attr⟩, _, (h.loadAt _).trans ?_, hs ▸ Memory.readDouble_lanes hk ..⟩
  rw [lowestLane_lanesFrom hn hk, laneCount_of_pos hn hk, State.afterRead, ← hs, BitVec.ofNat_add, BitVec.ofNat_toNat, BitVec.setWidth_eq]
  rfl

/-- After one write request for lanes of a doubleword, by an access in kseg1. -/
def State.afterWrite (s : State) (pa : PAddr) (l : BitVec 8) (d : DWord) : State :=
  (s.setMem (Memory.writeDouble s.memEnd s.mem (doubleBase pa).toNat l d)).record
    (.single (lowestLane s.memEnd (doubleBase pa) l) 1#2 s.kseg1Attr ⟨doubleBase pa, l, d⟩)

theorem State.Plain.storeAt_eq {s : State} {va : DWord} {a : Nat} (h : s.Plain va a true) (l : BitVec 8) (size : Option Nat) (d : DWord) :
    s.storeAt va l size d = .ok () (s.breakLink.afterWrite (BitVec.ofNat 40 (kseg1Pa va)) l d) := h.storeAt l size d

/-- Between s and t one write request went out, and memory holds the low n bytes of v from `start` on, in its byte order, and elsewhere what it
held (R230, R359). -/
def State.WroteBytes (s t : State) (start v n : Nat) : Prop :=
  s.WroteOnce t start n ∧ ∀ a, Memory.read t.mem a =
    if start ≤ a ∧ a < start + n then BitVec.ofNat 8 (byteOf s.memEnd v n (a - start)) else Memory.read s.mem a

theorem State.WroteBytes.congr {s t u : State} {start v n : Nat} (h : s.WroteBytes t start v n) (hm : u.mem = t.mem) (hb : u.bus = t.bus) :
    s.WroteBytes u start v n := by
  unfold State.WroteBytes State.WroteOnce
  rw [hm, hb]
  exact h

/-- A write request for a row of lanes that hold v. -/
theorem State.afterWrite_wroteBytes {s : State} (hm : Memory.wf s.mem = true) {pa : PAddr} {k n start v : Nat} {d : DWord} (hn : 0 < n)
    (hk : k + n ≤ 8) (hs : (doubleBase pa).toNat + laneStart s.memEnd k n = start) (hv : d.toNat / 256 ^ k % 256 ^ n = v % 256 ^ n) :
    s.WroteBytes (s.afterWrite pa (lanesFrom k n) d) start v n := by
  refine ⟨⟨⟨doubleBase pa, lanesFrom k n, d⟩, ?request, laneCount_of_pos hn hk⟩, Memory.read_writeDouble_lanes hm hk hv _ hs⟩
  case request =>
    rw [State.afterWrite, lowestLane_lanesFrom hn hk, ← hs, BitVec.ofNat_add, BitVec.ofNat_toNat, BitVec.setWidth_eq]
    rfl

end Sys2Proof.Machine

end

section
/-! PROOFS. In kseg1: the floating-point loads and stores (R622, R830 to R837), and Load Linked and Store Conditional (R510 to R514). -/

namespace Sys2Proof.Machine

/-! ## Floating-point loads and stores -/

theorem low32_ofNat (x : Nat) : low32 (BitVec.ofNat 64 x) = BitVec.ofNat 32 x := by
  apply BitVec.eq_of_toNat_eq
  rw [low32, BitVec.extractLsb'_toNat, Nat.shiftRight_zero, BitVec.toNat_ofNat, BitVec.toNat_ofNat]
  omega

theorem toNat_zext32 (w : Word) : (zext32 w).toNat = w.toNat := by
  rw [zext32, BitVec.toNat_setWidth_of_le (by omega)]

/-- R830. -/
theorem State.Plain.loadFpr32 {s : State} {va : DWord} (h : s.Plain va 4 false) (ft : BitVec 5) : s.loadFpr32 va ft =
    .next ((s.breakLink.afterRead (kseg1Pa va) 4).setFpr32 ft (BitVec.ofNat 32 (bytesAt s.memEnd s.mem (kseg1Pa va) 4))).advance := by
  rw [State.loadFpr32, h.read (.inr (.inr (.inl rfl))), ← low32_ofNat]
  rfl

/-- R831. -/
theorem State.Plain.loadFpr64 {s : State} {va : DWord} (h : s.Plain va 8 false) {ft : BitVec 5} (valid : s.fr = true ∨ ft.getLsbD 0 = false) :
    s.loadFpr64 va ft =
      .next ((s.breakLink.afterRead (kseg1Pa va) 8).setFpr ft (BitVec.ofNat 64 (bytesAt s.memEnd s.mem (kseg1Pa va) 8))).advance := by
  rw [State.loadFpr64, State.requireFpr64_of_valid valid, h.read (.inr (.inr (.inr rfl)))]
  rfl

/-- The store of a value of at most n bytes. -/
theorem State.Plain.storeValue_of_lt {s : State} {va : DWord} {n : Nat} (h : s.Plain va n true) (hn : AccessSize n) (hm : Memory.wf s.mem = true)
    {v : DWord} (hv : v.toNat < 256 ^ n) : ∃ t, s.storeValue va n v = .next t ∧ t = { s.breakLink with mem := t.mem, bus := t.bus }.advance ∧
      s.WroteBytes t (kseg1Pa va) v.toNat n := by
  have stored := h.storeValue hn hm v
  rwa [Nat.mod_eq_of_lt hv] at stored

/-- R832. -/
theorem State.Plain.storeFpr32 {s : State} {va : DWord} (h : s.Plain va 4 true) (hm : Memory.wf s.mem = true) (ft : BitVec 5) :
    ∃ t, s.storeFpr32 va ft = .next t ∧ t = { s.breakLink with mem := t.mem, bus := t.bus }.advance ∧
      s.WroteBytes t (kseg1Pa va) (s.fpr32 ft).toNat 4 := by
  have value := toNat_zext32 (s.fpr32 ft)
  exact value ▸ h.storeValue_of_lt (.inr (.inr (.inl rfl))) hm (value ▸ (s.fpr32 ft).isLt)

/-- R833. -/
theorem State.Plain.storeFpr64 {s : State} {va : DWord} (h : s.Plain va 8 true) (hm : Memory.wf s.mem = true) {ft : BitVec 5}
    (valid : s.fr = true ∨ ft.getLsbD 0 = false) :
    ∃ t, s.storeFpr64 va ft = .next t ∧ t = { s.breakLink with mem := t.mem, bus := t.bus }.advance ∧
      s.WroteBytes t (kseg1Pa va) (s.fpr ft).toNat 8 := by
  rw [State.storeFpr64, State.requireFpr64_of_valid valid]
  exact h.storeValue_of_lt (.inr (.inr (.inr rfl))) hm (s.fpr ft).isLt

/-- A list that a mode leaves empty. -/
theorem forall_mem_ite_nil {α : Type} {c : Bool} {l : List α} {P : α → Prop} :
    (∀ p ∈ if c then l else [], P p) ↔ (c = true → ∀ p ∈ l, P p) := by
  cases c <;> simp

/-- The forms with an offset, and in MIPS IV those with an index. -/
theorem forall_mem_forms {α : Type} {c : Bool} {a b : α} {P : α → Prop} :
    (∀ p ∈ a :: (if c then [b] else []), P p) ↔ P a ∧ (c = true → P b) := by
  rw [List.forall_mem_cons, forall_mem_ite_nil, List.forall_mem_singleton]

/-- Settles O32: past its checks each form runs one of the four shared loads and stores. -/
theorem floatingPointLoadsAndStoresMoveBits : Obligations.FloatingPointLoadsAndStoresMoveBits := by
  intro s base index ft off hcu1 hm n stored
  have usable (k : Out) : s.requireCp1 k = k := State.requireCp1_of_usable hcu1 k
  have indexed (h4 : s.mips4 = true) (k : Out) : s.requireMips4 (s.requireCp1 k) = k :=
    (State.requireMips4_of_enabled h4 _).trans (usable k)
  refine ⟨forall_mem_forms.2 ⟨fun h => ?lwc1, fun h4 h => ?lwxc1⟩, forall_mem_forms.2 ⟨fun h => ?swc1, fun h4 h => ?swxc1⟩,
    fun valid => ⟨forall_mem_forms.2 ⟨fun h => ?ldc1, fun h4 h => ?ldxc1⟩, forall_mem_forms.2 ⟨fun h => ?sdc1, fun h4 h => ?sdxc1⟩⟩,
    fun hfr odd => ?invalid⟩
  case lwc1 => exact (usable _).trans (h.loadFpr32 ft)
  case lwxc1 => exact (indexed h4 _).trans (h.loadFpr32 ft)
  case swc1 => exact h.storeFpr32 hm ft |>.imp fun _ ⟨run, rest⟩ => ⟨(usable _).trans run, rest⟩
  case swxc1 => exact h.storeFpr32 hm ft |>.imp fun _ ⟨run, rest⟩ => ⟨(indexed h4 _).trans run, rest⟩
  case ldc1 => exact (usable _).trans (h.loadFpr64 valid)
  case ldxc1 => exact (indexed h4 _).trans (h.loadFpr64 valid)
  case sdc1 => exact h.storeFpr64 hm valid |>.imp fun _ ⟨run, rest⟩ => ⟨(usable _).trans run, rest⟩
  case sdxc1 => exact h.storeFpr64 hm valid |>.imp fun _ ⟨run, rest⟩ => ⟨(indexed h4 _).trans run, rest⟩
  case invalid =>
    have stops (k : Out) : s.requireFpr64 ft k = .fault .fpOddDoubleword := State.requireFpr64_of_odd hfr odd k
    rw [List.forall_mem_append, forall_mem_ite_nil, List.forall_mem_cons, List.forall_mem_singleton, List.forall_mem_cons,
      List.forall_mem_singleton]
    exact ⟨⟨(usable _).trans (stops _), (usable _).trans (stops _)⟩, fun h4 => ⟨(indexed h4 _).trans (stops _), (indexed h4 _).trans (stops _)⟩⟩

/-! ## Load Linked -/

/-- A Load Linked sets the link to the block of its address, and marks it uncached (R511, R512). -/
theorem State.Plain.loadLinked {s : State} {va : DWord} {n : Nat} (h : s.Plain va n false) (hn : AccessSize n) (rt : BitVec 5) :
    let v := BitVec.ofNat 64 (bytesAt s.memEnd s.mem (kseg1Pa va) n)
    s.loadLinked va n rt = .next { (s.afterRead (kseg1Pa va) n).setGpr rt (if n = 4 then sextWord v else v) with
      link := ⟨true, s.blockBase (BitVec.ofNat 40 (kseg1Pa va)), true⟩ }.advance := by
  intro v
  rw [State.loadLinked, h.readPhys hn, Acc.done, State.setGpr_eq, State.setGpr_eq]
  rfl

/-! ## Store Conditional -/

section
variable {s : State} {va : DWord} {n : Nat} (h : s.Plain va n true)
include h

/-- With the link broken every check is made, and nothing is stored (R513). -/
theorem State.Plain.writeLinked_broken (broken : s.link.bit = false) (v : DWord) : s.writeLinked va n v = .ok false s.breakLink := by
  have address := State.dataAddress_of_kernel h.kernel va
  rw [State.writeLinked, State.aligned_of_aligned (by rw [address, h.aligned]), address, broken, Bool.false_and]
  dsimp only
  rw [h.reference false]
  rfl

/-- With the link intact it stores as SW or SD does. -/
theorem State.Plain.writeLinked_intact (intact : s.link.bit = true) (cached : s.link.uncached = false) (v : DWord) :
    s.writeLinked va n v = .ok true (s.afterWrite (BitVec.ofNat 40 (kseg1Pa va)) (lanesFrom (laneShift s.memEnd va n) n)
      (v <<< (8 * laneShift s.memEnd va n))).breakLink := by
  have address := State.dataAddress_of_kernel h.kernel va
  have accepted := State.accept_uncached h.wrRdy h.gather h.ready h.fifo (s.gatherPa (BitVec.ofNat 40 (kseg1Pa va)) (gatherSize n)) s.kseg1Attr
    (gatherSize n) ⟨doubleBase (BitVec.ofNat 40 (kseg1Pa va)), lanesFrom (laneShift s.memEnd va n) n, v <<< (8 * laneShift s.memEnd va n)⟩
  rw [State.writeLinked, State.aligned_of_aligned (by rw [address, h.aligned]), address, intact, cached, Bool.not_false, Bool.true_or, Bool.and_true]
  dsimp only
  rw [h.reference, Acc.bind, if_pos rfl, State.bigEndianCpu_of_kernel h.kernel, State.storePhys, if_neg (by decide : ¬ algCached 2#3 = true),
    show (2#3 == algAccelerated) = false by decide, accepted]
  rfl

/-- Then it writes 0. -/
theorem State.Plain.storeConditional_broken (broken : s.link.bit = false) (rt : BitVec 5) :
    s.storeConditional va n rt = .next { s.breakLink.setGpr rt 0#64 with note := .scFailed }.advance := by
  rw [State.storeConditional, h.writeLinked_broken broken]
  rfl

/-- The store of a Store Conditional that succeeds: its bytes change, by one write request, and the link is broken (R513, R514). -/
theorem State.Plain.storeConditional_intact (hn : AccessSize n) (hm : Memory.wf s.mem = true) (intact : s.link.bit = true)
    (cached : s.link.uncached = false) (rt : BitVec 5) : ∃ t, s.storeConditional va n rt = .next t ∧
      t = ({ s.breakLink with mem := t.mem, bus := t.bus }.setGpr rt 1#64).advance ∧
      s.WroteBytes t (kseg1Pa va) ((s.gpr rt).toNat % 256 ^ n) n := by
  have inside := laneShift_add_le hn h.aligned s.memEnd
  have start := (congrArg _ (laneStart_laneShift hn h.aligned s.memEnd)).trans (doubleBase_kseg1 h.low h.high)
  have wrote := State.afterWrite_wroteBytes hm (by rcases hn with rfl | rfl | rfl | rfl <;> omega) inside start
    ((toNat_shiftLeft_lanes inside (s.gpr rt)).trans (Nat.mod_mod ..).symm)
  rw [State.storeConditional, h.writeLinked_intact intact cached]
  refine ⟨_, rfl, ?frame, wrote.congr ?mem ?bus⟩
  case frame =>
    simp only [State.noteSc, if_true, State.advance_mem, State.advance_bus, State.setGpr_mem, State.setGpr_bus]
    rfl
  case mem => simp only [State.noteSc, if_true, State.advance_mem, State.setGpr_mem, State.breakLink_mem]
  case bus => simp only [State.noteSc, if_true, State.advance_bus, State.setGpr_bus, State.breakLink_bus]
end

/-- Settles O35, by `State.Plain.loadLinked` and the two outcomes of `State.storeConditional`. -/
theorem linkedLoadsAndConditionalStores : Obligations.LinkedLoadsAndConditionalStores := by
  intro s base rt off hm va pa n linked stored
  have mips3 {size : Nat} {st : Bool} (h : s.Plain va size st) (k : Out) : s.requireMips3 k = k :=
    State.requireMips3_of_enabled (State.mips3_of_kernel h.kernel) k
  have word : AccessSize 4 := .inr (.inr (.inl rfl))
  have double : AccessSize 8 := .inr (.inr (.inr rfl))
  refine ⟨fun h => ?ll, fun h => ?lld, fun intact cached => ⟨fun h => ?sc, fun h => ?scd⟩, fun broken => ⟨fun h => ?scBroken, fun h => ?scdBroken⟩⟩
  case ll =>
    refine (h.loadLinked word rt).trans ?_
    rw [if_pos rfl, sextWord, sext32, low32, signExtend_low (by omega) (bytesAt_lt _ _ _ 4)]
    rfl
  case lld =>
    refine (mips3 h _).trans ((h.loadLinked double rt).trans ?_)
    rw [if_neg (by omega), ← reg64_natCast]
  case sc => exact h.storeConditional_intact word hm intact cached rt
  case scd =>
    obtain ⟨t, run, rest⟩ := h.storeConditional_intact double hm intact cached rt
    exact ⟨t, (mips3 h _).trans run, rest⟩
  case scBroken => exact h.storeConditional_broken broken rt
  case scdBroken => exact (mips3 h _).trans (h.storeConditional_broken broken rt)

end Sys2Proof.Machine

end

section
/-! PROOFS. The unaligned loads and stores in kseg1 (R820 to R827): the lanes a left or right form transfers and their addresses, what the merges
make of the register, and the eight instructions. -/

namespace Sys2Proof.Machine

/-! ## The bytes a form transfers -/

/-- How many bytes a left or right form transfers. -/
def partCount (be left : Bool) (va : DWord) (n : Nat) : Nat := if left then leftCount be va n else rightCount be va n

/-- The physical address, in kseg1, of the first of them: the address itself, or that of the unit around it. -/
def partStart (be left : Bool) (va : DWord) (n : Nat) : Nat :=
  if be = left then kseg1Pa va else kseg1Pa va - va.toNat % n

theorem partStart_right (be : Bool) (va : DWord) (n : Nat) :
    partStart be false va n = if be then kseg1Pa va - va.toNat % n else kseg1Pa va := by
  cases be <;> simp [partStart]

/-- The lowest lane of the doubleword that a form touches. -/
def partLane (be left : Bool) (va : DWord) (n : Nat) : Nat := unitShift be va n + (unitLanes left (unitByte be va n) n).1

/-- The units of the unaligned family. -/
abbrev UnitSize (n : Nat) : Prop := n = 4 ∨ n = 8

theorem unitByte_left {n : Nat} (hn : UnitSize n) (be : Bool) (va : DWord) : unitByte be va n + 1 = leftCount be va n := by
  rw [unitByte, leftCount]
  rcases hn with rfl | rfl <;> split <;> omega

theorem unitByte_right {n : Nat} (hn : UnitSize n) (be : Bool) (va : DWord) : unitByte be va n + rightCount be va n = n := by
  rw [unitByte, rightCount]
  rcases hn with rfl | rfl <;> split <;> omega

theorem unitLanes_count {n : Nat} (hn : UnitSize n) (be left : Bool) (va : DWord) :
    (unitLanes left (unitByte be va n) n).2 = partCount be left va n := by
  have l := unitByte_left hn be va
  have r := unitByte_right hn be va
  cases left
  · show n - unitByte be va n = rightCount be va n
    omega
  · exact l

theorem partCount_pos {n : Nat} (hn : UnitSize n) (be left : Bool) (va : DWord) : 0 < partCount be left va n := by
  rw [partCount, leftCount, rightCount]
  rcases hn with rfl | rfl <;> split <;> split <;> omega

/-- The lowest lane of a unit, by the place of the unit in its doubleword (R230). -/
theorem unitShift_eq {n : Nat} (hn : UnitSize n) (be : Bool) (va : DWord) :
    unitShift be va n = if be then 8 - n - (va.toNat % 8 - va.toNat % n) else va.toNat % 8 - va.toNat % n := by
  have := va.isLt
  have unit : (va - BitVec.ofNat 64 (va.toNat % n)).toNat % 8 = va.toNat % 8 - va.toNat % n := by
    rw [BitVec.toNat_sub, BitVec.toNat_ofNat]
    rcases hn with rfl | rfl <;> omega
  rw [unitShift, laneShift_eq, unit]

/-- A unit lies inside its doubleword, and the form's lanes inside the unit. -/
theorem unitShift_add_le {n : Nat} (hn : UnitSize n) (be : Bool) (va : DWord) : unitShift be va n + n ≤ 8 := by
  rw [unitShift_eq hn]
  rcases hn with rfl | rfl <;> split <;> omega

theorem partLane_add_le {n : Nat} (hn : UnitSize n) (be left : Bool) (va : DWord) : partLane be left va n + partCount be left va n ≤ 8 := by
  have unit := unitShift_add_le hn be va
  have l := unitByte_left hn be va
  have r := unitByte_right hn be va
  cases left
  · show unitShift be va n + unitByte be va n + rightCount be va n ≤ 8
    omega
  · show unitShift be va n + 0 + leftCount be va n ≤ 8
    have : unitByte be va n < n := by
      rw [unitByte]
      rcases hn with rfl | rfl <;> split <;> omega
    omega

/-- The first byte of the form's lanes is the one at its start address. -/
theorem partStart_eq {n : Nat} (hn : UnitSize n) (be left : Bool) {va : DWord} (low : 0xFFFFFFFFA0000000 ≤ va.toNat)
    (high : va.toNat < 0xFFFFFFFFC0000000) : (doubleBase (BitVec.ofNat 40 (kseg1Pa va))).toNat +
      laneStart be (partLane be left va n) (partCount be left va n) = partStart be left va n := by
  have double := doubleBase_kseg1 low high
  have place : laneStart be (partLane be left va n) (partCount be left va n) =
      if be = left then va.toNat % 8 else va.toNat % 8 - va.toNat % n := by
    rw [laneStart, partLane, unitShift_eq hn]
    cases left with
    | true =>
      show (if be then 8 - leftCount be va n - (_ + 0) else _ + 0) = if be = true then _ else _
      rw [leftCount]
      rcases hn with rfl | rfl <;> cases be <;> simp <;> omega
    | false =>
      show (if be then 8 - rightCount be va n - (_ + unitByte be va n) else _ + unitByte be va n) = if be = false then _ else _
      rw [rightCount, unitByte]
      rcases hn with rfl | rfl <;> cases be <;> simp <;> omega
  rw [place, partStart]
  split
  · exact double
  · rcases hn with rfl | rfl <;> omega

/-! ## The accesses -/

/-- The upper of n digits of a number. -/
theorem mod_div_pow_256 (x k n : Nat) : x % 256 ^ (k + n) / 256 ^ k = x / 256 ^ k % 256 ^ n := by
  rw [Nat.pow_add, Nat.mod_mul_right_div_self]

/-- The part of a unit that a form loads: its bytes, on the form's lanes of the unit. -/
theorem State.Plain.readPart {s : State} {va : DWord} (h : s.PlainByte va false) {n : Nat} (hn : UnitSize n) (left : Bool) :
    ∃ u, s.readPart va n left = .ok u (s.breakLink.afterRead (partStart s.memEnd left va n) (partCount s.memEnd left va n)) ∧
      u.toNat / 256 ^ (unitLanes left (unitByte s.memEnd va n) n).1 % 256 ^ partCount s.memEnd left va n =
        bytesAt s.memEnd s.mem (partStart s.memEnd left va n) (partCount s.memEnd left va n) := by
  obtain ⟨p, d, load, value⟩ := h.loadAt_lanes (partCount_pos hn s.memEnd left va) (partLane_add_le hn s.memEnd left va)
    (partStart_eq hn s.memEnd left h.low h.high)
  refine ⟨d >>> (8 * unitShift s.memEnd va n), ?_, ?_⟩
  · rw [State.readPart, State.dataAddress_of_kernel h.kernel, State.bigEndianCpu_of_kernel h.kernel, unitLanes_count hn, ← partLane, load]
    rfl
  · rw [BitVec.toNat_ushiftRight, Nat.shiftRight_eq_div_pow, ← pow_256, Nat.div_div_eq_div_mul, ← Nat.pow_add]
    exact value

/-- The part of a unit that a form stores: v is what the form's lanes of the unit hold. -/
theorem State.Plain.writePart {s : State} {va : DWord} (h : s.PlainByte va true) (hm : Memory.wf s.mem = true) {n : Nat} (hn : UnitSize n)
    (left : Bool) {unit : DWord} {v : Nat} (hv : unit.toNat / 256 ^ (unitLanes left (unitByte s.memEnd va n) n).1 %
      256 ^ partCount s.memEnd left va n = v % 256 ^ partCount s.memEnd left va n) :
    ∃ t, ((s.writePart va n left unit).done fun _ s => .next s.advance) = .next t ∧
      t = { s.breakLink with mem := t.mem, bus := t.bus }.advance ∧
      s.WroteBytes t (partStart s.memEnd left va n) v (partCount s.memEnd left va n) := by
  have inside := partLane_add_le hn s.memEnd left va
  have lanes : (unit <<< (8 * unitShift s.memEnd va n)).toNat / 256 ^ partLane s.memEnd left va n % 256 ^ partCount s.memEnd left va n =
      v % 256 ^ partCount s.memEnd left va n := by
    rw [partLane, Nat.add_assoc] at inside
    rw [partLane, Nat.pow_add, ← Nat.div_div_eq_div_mul, ← mod_div_pow_256, toNat_shiftLeft_lanes inside, mod_div_pow_256, hv]
  have wrote := State.afterWrite_wroteBytes (s := s.breakLink) hm (partCount_pos hn s.memEnd left va) inside
    (partStart_eq hn s.memEnd left h.low h.high) lanes
  rw [State.writePart, State.dataAddress_of_kernel h.kernel, State.bigEndianCpu_of_kernel h.kernel, unitLanes_count hn, ← partLane, h.storeAt_eq]
  refine ⟨_, rfl, ?frame, State.WroteBytes.congr (s := s) wrote (State.advance_mem _) (State.advance_bus _)⟩
  case frame =>
    simp only [State.advance_mem, State.advance_bus]
    rfl

/-! ## The merges -/

theorem getLsbD_merge_lanes (k n : Nat) (old d : DWord) {i : Nat} (hi : i < 64) :
    (mergeMask (laneMask (lanesFrom k n)) old d).getLsbD i = if 8 * k ≤ i ∧ i < 8 * (k + n) then d.getLsbD i else old.getLsbD i := by
  rw [getLsbD_mergeMask, getLsbD_laneMask _ hi, getLsbD_lanesFrom _ _ (by omega)]
  refine if_congr ?_ rfl rfl
  rw [decide_eq_true_eq]
  omega

/-- A left form puts its c bytes above the low bytes of the register (R820, R822). -/
theorem leftMerge_toNat {n b c : Nat} (hb : b + 1 = c) (hc : c ≤ n) (hn : n ≤ 8) (u old : DWord) :
    (leftMerge n b u old).toNat % 256 ^ n = u.toNat % 256 ^ c * 256 ^ (n - c) + old.toNat % 256 ^ (n - c) := by
  subst hb
  apply Nat.eq_of_testBit_eq
  intro i
  rw [Nat.mul_comm, pow_256, pow_256, pow_256, Nat.testBit_two_pow_mul_add _ (Nat.mod_lt _ (Nat.two_pow_pos _)), Nat.testBit_mod_two_pow,
    Nat.testBit_mod_two_pow, Nat.testBit_mod_two_pow, BitVec.testBit_toNat, BitVec.testBit_toNat, BitVec.testBit_toNat]
  by_cases hi : i < 8 * n
  · rw [leftMerge, getLsbD_merge_lanes _ _ _ _ (by omega), show n - 1 - b = n - (b + 1) by omega, BitVec.getLsbD_shiftLeft]
    by_cases low : i < 8 * (n - (b + 1))
    · simp [hi, low, show ¬ 8 * (n - (b + 1)) ≤ i by omega]
    · simp [hi, low, show i < 8 * (n - (b + 1) + (b + 1)) by omega, show i < 64 by omega, show i - 8 * (n - (b + 1)) < 8 * (b + 1) by omega,
        show 8 * (n - (b + 1)) ≤ i by omega]
  · simp [hi, show ¬ i < 8 * (n - (b + 1)) by omega, show ¬ i - 8 * (n - (b + 1)) < 8 * (b + 1) by omega]

/-- A right form puts its c bytes below the high bytes of the register (R821, R823). -/
theorem rightMerge_toNat {n b c : Nat} (hb : b + c = n) (hn : n ≤ 8) (u old : DWord) :
    (rightMerge n b u old).toNat % 256 ^ n = u.toNat / 256 ^ b % 256 ^ c + old.toNat % 256 ^ n / 256 ^ c * 256 ^ c := by
  apply Nat.eq_of_testBit_eq
  intro i
  rw [Nat.add_comm (u.toNat / _ % _), Nat.mul_comm, pow_256, pow_256, pow_256, Nat.testBit_two_pow_mul_add _ (Nat.mod_lt _ (Nat.two_pow_pos _)),
    Nat.testBit_mod_two_pow, Nat.testBit_mod_two_pow, Nat.testBit_div_two_pow, Nat.testBit_div_two_pow, Nat.testBit_mod_two_pow,
    BitVec.testBit_toNat, BitVec.testBit_toNat, BitVec.testBit_toNat]
  by_cases hi : i < 8 * n
  · rw [rightMerge, getLsbD_merge_lanes _ _ _ _ (by omega), show n - b = c by omega, BitVec.getLsbD_ushiftRight]
    by_cases low : i < 8 * c
    · simp [hi, low, Nat.add_comm]
    · simp [hi, low, show i - 8 * c + 8 * c = i by omega]
  · simp [hi, show ¬ i < 8 * c by omega, show ¬ i - 8 * c + 8 * c < 8 * n by omega]

/-! ## Words -/

theorem toNat_low32 (v : DWord) : (low32 v).toNat = v.toNat % 2 ^ 32 := by
  rw [low32, BitVec.extractLsb'_toNat, Nat.shiftRight_zero]

theorem ofNat_toNat_mod (v : DWord) : BitVec.ofNat 64 (v.toNat % 256 ^ 8) = v := by
  apply BitVec.eq_of_toNat_eq
  have := v.isLt
  rw [BitVec.toNat_ofNat]
  omega

theorem sext32_eq (w : Word) : sext32 w = reg64 (wrap32 w.toNat) := by
  rw [sext32, BitVec.signExtend, BitVec.toInt_eq_toNat_bmod]
  rfl

theorem fitsWord_sext32 (w : Word) : FitsWord (sext32 w) := by
  rw [FitsWord, sext32, BitVec.toInt_signExtend_of_le (by omega)]
  exact ⟨BitVec.le_toInt w, BitVec.toInt_lt⟩

theorem isWord_of_fitsWord {v : DWord} (h : FitsWord v) : isWord v = true := by
  rw [isWord, beq_iff_eq]
  apply BitVec.eq_of_toInt_eq
  obtain ⟨low, high⟩ := h
  rw [sext32, BitVec.toInt_signExtend_of_le (by omega), BitVec.toInt_eq_toNat_bmod (low32 v), toNat_low32]
  rw [BitVec.toInt_eq_toNat_bmod] at low high ⊢
  simp only [Int.bmod] at low high ⊢
  omega

theorem toNat_sext32_mod (w : Word) : (sext32 w).toNat % 2 ^ 32 = w.toNat := by
  rw [← toNat_low32, low32, sext32]
  congr 1
  ext i hi
  rw [BitVec.getElem_extractLsb', Nat.zero_add, BitVec.getLsbD_signExtend]
  simp [hi, show i < 64 by omega]

/-- What a 32-bit right form leaves in the register: the word, and a sign-extended one where it loads the sign bit or the register held one
(R821). -/
theorem State.partWord_spec (s : State) (loadsBit31 : Bool) (old : DWord) (w : Word) :
    (s.partWord loadsBit31 old w).toNat % 2 ^ 32 = w.toNat ∧ (loadsBit31 = true ∨ FitsWord old → FitsWord (s.partWord loadsBit31 old w)) := by
  rw [State.partWord]
  split
  · exact ⟨toNat_sext32_mod w, fun _ => fitsWord_sext32 w⟩
  · next free =>
    refine ⟨?_, fun h => absurd ?_ free⟩
    · rw [BitVec.toNat_append, ← Nat.shiftLeft_add_eq_or_of_lt w.isLt, Nat.shiftLeft_eq]
      have := w.isLt
      omega
    · rw [Bool.or_eq_true]
      exact h.imp_right isWord_of_fitsWord

/-! ## The instructions -/

theorem Acc.done_of_ok {α : Type} {x : Acc α} {a : α} {s : State} (h : x = .ok a s) (f : α → State → Out) : x.done f = f a s := by
  rw [h, Acc.done]

theorem State.Plain.partByte {s : State} {va : DWord} {store : Bool} (h : s.PlainByte va store) (n : Nat) :
    s.partByte va n = unitByte s.memEnd va n := by
  rw [State.partByte, State.dataAddress_of_kernel h.kernel, State.bigEndianCpu_of_kernel h.kernel]

section
variable {s : State} {va : DWord} (h : s.PlainByte va false) {n : Nat} (hn : UnitSize n)
include h hn

/-- A left form's load: the register's low bytes stay below what it transfers. -/
theorem State.Plain.readLeft (old : DWord) : ∃ u, s.readPart va n true =
      .ok u (s.breakLink.afterRead (if s.memEnd then kseg1Pa va else kseg1Pa va - va.toNat % n) (leftCount s.memEnd va n)) ∧
    (leftMerge n (s.partByte va n) u old).toNat % 256 ^ n =
      leftBytes s va n * 256 ^ (n - leftCount s.memEnd va n) + old.toNat % 256 ^ (n - leftCount s.memEnd va n) := by
  obtain ⟨u, read, value⟩ := h.readPart hn true
  have count := unitByte_left hn s.memEnd va
  have value : u.toNat % 256 ^ leftCount s.memEnd va n = leftBytes s va n := (Nat.div_one u.toNat).symm ▸ value
  refine ⟨u, read, ?_⟩
  rw [h.partByte, leftMerge_toNat count ?_ (by omega), value]
  rw [← count, unitByte]
  rcases hn with rfl | rfl <;> split <;> omega

/-- A right form's load: the bytes it transfers, from their place in the unit on. -/
theorem State.Plain.readRight : ∃ u, s.readPart va n false =
      .ok u (s.breakLink.afterRead (if s.memEnd then kseg1Pa va - va.toNat % n else kseg1Pa va) (rightCount s.memEnd va n)) ∧
    u.toNat / 256 ^ s.partByte va n % 256 ^ rightCount s.memEnd va n = rightBytes s va n := by
  obtain ⟨u, read, value⟩ := h.readPart hn false
  rw [partStart_right] at read value
  exact ⟨u, read, h.partByte n ▸ value⟩
end

/-- Only the word of the unit matters to a 32-bit right form. -/
theorem toNat_zext32_low32_div {b c : Nat} (h : b + c = 4) (u : DWord) :
    (zext32 (low32 u)).toNat / 256 ^ b % 256 ^ c = u.toNat / 256 ^ b % 256 ^ c := by
  rw [toNat_zext32, toNat_low32, show 2 ^ 32 = 256 ^ (b + c) by rw [h]; rfl, mod_div_pow_256, Nat.mod_mod]

/-- Settles O33: what a form reads, by `State.Plain.readLeft` and `State.Plain.readRight`, merged. -/
theorem unalignedLoadsMergeTheirBytes : Obligations.UnalignedLoadsMergeTheirBytes := by
  intro s base rt off h va old c4 d4 c8 d8 left right
  have word : UnitSize 4 := .inl rfl
  have double : UnitSize 8 := .inr rfl
  have mips3 (k : Out) : s.requireMips3 k = k := State.requireMips3_of_enabled (State.mips3_of_kernel h.kernel) k
  refine ⟨?lwl, ?lwr, ?ldl, ?ldr⟩
  case lwl =>
    obtain ⟨u, read, merged⟩ := h.readLeft word (s.gpr rt)
    have result : sext32 (low32 (leftMerge 4 (s.partByte va 4) u (s.gpr rt))) =
        reg64 (wrap32 (leftBytes s va 4 * 256 ^ (4 - c4) + old % 256 ^ (4 - c4) : Nat)) := by
      rw [sext32_eq, toNat_low32]
      exact congrArg (fun x : Nat => reg64 (wrap32 x)) merged
    rw [← result]
    exact Acc.done_of_ok read _
  case lwr =>
    obtain ⟨u, read, value⟩ := h.readRight word
    have count : s.partByte va 4 + d4 = 4 := h.partByte 4 ▸ unitByte_right word s.memEnd va
    have merged : (rightMerge 4 (s.partByte va 4) (zext32 (low32 u)) (s.gpr rt)).toNat % 2 ^ 32 =
        rightBytes s va 4 + old % 2 ^ 32 / 256 ^ d4 * 256 ^ d4 := by
      refine (rightMerge_toNat count (by omega) _ _).trans ?_
      rw [toNat_zext32_low32_div count, value]
      rfl
    obtain ⟨low, fits⟩ := State.partWord_spec (s.breakLink.afterRead _ _) (s.partByte va 4 == 0) (s.gpr rt) (low32 (rightMerge 4 _ _ _))
    refine ⟨_, Acc.done_of_ok read _, low.trans ((toNat_low32 _).trans merged), fun known => fits ?_⟩
    exact known.imp_left fun all => beq_iff_eq.2 (by omega)
  case ldl =>
    obtain ⟨u, read, merged⟩ := h.readLeft double (s.gpr rt)
    have result : leftMerge 8 (s.partByte va 8) u (s.gpr rt) = reg64 (leftBytes s va 8 * 256 ^ (8 - c8) + old % 256 ^ (8 - c8) : Nat) := by
      rw [reg64_natCast, ← merged, ofNat_toNat_mod]
    rw [← result]
    exact (mips3 _).trans (Acc.done_of_ok read _)
  case ldr =>
    obtain ⟨u, read, value⟩ := h.readRight double
    have count : s.partByte va 8 + d8 = 8 := h.partByte 8 ▸ unitByte_right double s.memEnd va
    have result : rightMerge 8 (s.partByte va 8) u (s.gpr rt) = reg64 (rightBytes s va 8 + old / 256 ^ d8 * 256 ^ d8 : Nat) := by
      have merged := rightMerge_toNat count (by omega) u (s.gpr rt)
      rw [value, Nat.mod_eq_of_lt (show (s.gpr rt).toNat < 256 ^ 8 from (s.gpr rt).isLt)] at merged
      rw [reg64_natCast, ← merged, ofNat_toNat_mod]
    rw [← result]
    exact (mips3 _).trans (Acc.done_of_ok read _)

/-- What a left form's register holds above the bytes that it does not store. -/
theorem State.Plain.writeLeft {s : State} {va : DWord} (h : s.PlainByte va true) (hm : Memory.wf s.mem = true) {n : Nat} (hn : UnitSize n)
    (v : DWord) : ∃ t, ((s.writePart va n true (v >>> (8 * (n - 1 - s.partByte va n)))).done fun _ s => .next s.advance) = .next t ∧
      t = { s.breakLink with mem := t.mem, bus := t.bus }.advance ∧
      s.WroteBytes t (if s.memEnd then kseg1Pa va else kseg1Pa va - va.toNat % n) (v.toNat / 256 ^ (n - leftCount s.memEnd va n))
        (leftCount s.memEnd va n) := by
  have shift : n - 1 - s.partByte va n = n - leftCount s.memEnd va n := by
    rw [h.partByte, ← unitByte_left hn]
    omega
  refine h.writePart hm hn true ?_
  show _ / 256 ^ 0 % _ = _
  rw [Nat.pow_zero, Nat.div_one, BitVec.toNat_ushiftRight, Nat.shiftRight_eq_div_pow, ← pow_256, shift]

/-- A right form stores the low bytes of its register: `unit` holds them from their place in the unit on. -/
theorem State.Plain.writeRight {s : State} {va : DWord} (h : s.PlainByte va true) (hm : Memory.wf s.mem = true) {n : Nat} (hn : UnitSize n)
    {unit v : DWord} (hu : unit.toNat / 256 ^ s.partByte va n % 256 ^ rightCount s.memEnd va n =
      (v <<< (8 * s.partByte va n)).toNat / 256 ^ s.partByte va n % 256 ^ rightCount s.memEnd va n) :
    ∃ t, ((s.writePart va n false unit).done fun _ s => .next s.advance) = .next t ∧
      t = { s.breakLink with mem := t.mem, bus := t.bus }.advance ∧
      s.WroteBytes t (if s.memEnd then kseg1Pa va - va.toNat % n else kseg1Pa va) v.toNat (rightCount s.memEnd va n) := by
  have count : s.partByte va n + rightCount s.memEnd va n = n := h.partByte n ▸ unitByte_right hn s.memEnd va
  have inside : s.partByte va n + rightCount s.memEnd va n ≤ 8 := by
    rcases hn with rfl | rfl <;> omega
  rw [toNat_shiftLeft_lanes inside, h.partByte] at hu
  exact partStart_right .. ▸ h.writePart hm hn false hu

/-- The word a right form shifts is the low one of the shifted register. -/
theorem low32_shiftLeft (v : DWord) (k : Nat) : low32 v <<< k = low32 (v <<< k) := by
  apply BitVec.eq_of_getLsbD_eq
  intro i hi
  rw [low32, low32, BitVec.getLsbD_extractLsb', BitVec.getLsbD_shiftLeft, BitVec.getLsbD_extractLsb', BitVec.getLsbD_shiftLeft]
  simp [hi, show i < 64 by omega, show i - k < 32 by omega]

/-- Settles O34, by `State.Plain.writeLeft` and `State.Plain.writeRight`. -/
theorem unalignedStoresChangeExactlyTheirBytes : Obligations.UnalignedStoresChangeExactlyTheirBytes := by
  intro s base rt off h hm va r stored leftStart rightStart
  have word : UnitSize 4 := .inl rfl
  have double : UnitSize 8 := .inr rfl
  have mips3 (k : Out) : s.requireMips3 k = k := State.requireMips3_of_enabled (State.mips3_of_kernel h.kernel) k
  refine ⟨?swl, ?swr, ?sdl, ?sdr⟩
  case swl =>
    have stored := h.writeLeft hm word (zext32 (low32 (s.gpr rt)))
    rwa [toNat_zext32, toNat_low32] at stored
  case swr =>
    refine h.writeRight hm word ?_
    have count : s.partByte va 4 + rightCount s.memEnd va 4 = 4 := h.partByte 4 ▸ unitByte_right word s.memEnd va
    rw [low32_shiftLeft, toNat_zext32_low32_div count]
  case sdl =>
    obtain ⟨t, run, rest⟩ := h.writeLeft hm double (s.gpr rt)
    exact ⟨t, (mips3 _).trans run, rest⟩
  case sdr =>
    obtain ⟨t, run, rest⟩ := h.writeRight hm double (unit := s.gpr rt <<< (8 * s.partByte va 8)) rfl
    exact ⟨t, (mips3 _).trans run, rest⟩

end Sys2Proof.Machine

end

section
/-! PROOFS. The encoding (R450 to R464): the fields of a word, what the encoder makes of what each opcode map reads, what the maps
read of an encoding, and that the two are inverse. -/

open Sys2Proof.Machine

namespace Sys2Proof

/-! ## Fields and words (R451, R452) -/

theorem Fields.toWord_ofWord (w : Word) : (Fields.ofWord w).toWord = w := by
  ext k hk
  grind [Fields.ofWord, Fields.toWord]

theorem Fields.ofWord_toWord (f : Fields) : Fields.ofWord f.toWord = f := by
  obtain ⟨op, rs, rt, rd, sa, fn⟩ := f
  simp only [Fields.ofWord, Fields.toWord, Fields.mk.injEq]
  refine ⟨?_, ?_, ?_, ?_, ?_, ?_⟩ <;> ext k hk <;> grind

theorem Fields.toWord_immediate (op : BitVec 6) (rs rt : BitVec 5) (i : BitVec 16) :
    (Fields.immediate op rs rt i).toWord = wordI op rs rt i := by
  ext k hk
  grind [Fields.immediate, Fields.toWord, wordI]

theorem Fields.toWord_reg (op : BitVec 6) (rs rt rd sa : BitVec 5) (fn : BitVec 6) :
    (Fields.reg op rs rt rd sa fn).toWord = wordR op rs rt rd sa fn := rfl

theorem Fields.immediate_imm (f : Fields) : Fields.immediate f.op f.rs f.rt f.imm = f := by
  obtain ⟨op, rs, rt, rd, sa, fn⟩ := f
  simp only [Fields.immediate, Fields.imm, Fields.mk.injEq, true_and]
  refine ⟨?_, ?_, ?_⟩ <;> ext k hk <;> grind

theorem Fields.jump_target (f : Fields) : Fields.jump f.op f.target = f := by
  obtain ⟨op, rs, rt, rd, sa, fn⟩ := f
  simp only [Fields.jump, Fields.target, Fields.mk.injEq, true_and]
  refine ⟨?_, ?_, ?_, ?_, ?_⟩ <;> ext k hk <;> grind

theorem Fields.code20_code20v (f : Fields) : Fields.code20 f.op f.code20v f.fn = f := by
  obtain ⟨op, rs, rt, rd, sa, fn⟩ := f
  simp only [Fields.code20, Fields.code20v, Fields.mk.injEq, true_and, and_true]
  refine ⟨?_, ?_, ?_, ?_⟩ <;> ext k hk <;> grind

theorem Fields.code10_code10v (f : Fields) : Fields.code10 f.op f.rs f.rt f.code10v f.fn = f := by
  obtain ⟨op, rs, rt, rd, sa, fn⟩ := f
  simp only [Fields.code10, Fields.code10v, Fields.mk.injEq, true_and, and_true]
  refine ⟨?_, ?_⟩ <;> ext k hk <;> grind

theorem Fields.imm_immediate (op : BitVec 6) (rs rt : BitVec 5) (i : BitVec 16) : (Fields.immediate op rs rt i).imm = i := by
  ext k hk
  grind [Fields.immediate, Fields.imm]

theorem Fields.target_jump (op : BitVec 6) (t : BitVec 26) : (Fields.jump op t).target = t := by
  ext k hk
  grind [Fields.jump, Fields.target]

theorem Fields.code20v_code20 (op fn : BitVec 6) (c : BitVec 20) : (Fields.code20 op c fn).code20v = c := by
  ext k hk
  grind [Fields.code20, Fields.code20v]

theorem Fields.code10v_code10 (op fn : BitVec 6) (rs rt : BitVec 5) (c : BitVec 10) :
    (Fields.code10 op rs rt c fn).code10v = c := by
  ext k hk
  grind [Fields.code10, Fields.code10v]

/-- The condition code and the nd and tf bits make up bits 20:16, or 10:6. -/
theorem condition_append (x : BitVec 5) : (x.extractLsb' 2 3 ++ x.extractLsb' 0 2 : BitVec 5) = x := by
  revert x
  decide

/-- The performance-register number and the low bit make up bits 5:0. -/
theorem perfReg_append (x : BitVec 6) : (x.extractLsb' 1 5 ++ x.extractLsb' 0 1 : BitVec 6) = x := by
  revert x
  decide

theorem eq_ofNat_of_toNat {w n : Nat} {x : BitVec w} (h : x.toNat = n) : x = BitVec.ofNat w n := by
  rw [← h, BitVec.ofNat_toNat, BitVec.setWidth_eq]

/-! ## What is read is encoded back (R453, R470) -/

/-- If it is an instruction, its fields are these. -/
def Decoded.EncodesTo (d : Decoded) (f : Fields) : Prop := ∀ i, d = .instr i → encodeFields i = f

theorem encodesTo_instr {i : Instr} {f : Fields} (h : encodeFields i = f) : (Decoded.instr i).EncodesTo f := by
  rintro _ ⟨⟩
  exact h

theorem encodesTo_of_undefined {d : Decoded} {f : Fields} (h : ∀ i, d ≠ .instr i := by simp) : d.EncodesTo f :=
  fun i hi => absurd hi (h i)

theorem encodesTo_strict {z : Bool} {i : Instr} {f : Fields} (h : z = true → encodeFields i = f) : (strict z i).EncodesTo f := by
  cases z
  · exact encodesTo_of_undefined (by simp [strict])
  · exact encodesTo_instr (h rfl)

theorem encodesTo_strict_zero {x : BitVec 5} {i : Instr} {f : Fields} (h : x = 0#5 → encodeFields i = f) :
    (strict (x == 0#5) i).EncodesTo f := encodesTo_strict fun hx => h (eq_of_beq hx)

theorem encodesTo_immediate {i : Instr} {f : Fields} (h : encodeFields i = .immediate f.op f.rs f.rt f.imm) :
    (Decoded.instr i).EncodesTo f := encodesTo_instr (h.trans f.immediate_imm)

theorem encodesTo_strict_immediate {x : BitVec 5} {i : Instr} {f : Fields}
    (h : x = 0#5 → encodeFields i = .immediate f.op f.rs f.rt f.imm) : (strict (x == 0#5) i).EncodesTo f :=
  encodesTo_strict_zero fun hx => (h hx).trans f.immediate_imm

theorem encodesTo_jump {i : Instr} {f : Fields} (h : encodeFields i = .jump f.op f.target) :
    (Decoded.instr i).EncodesTo f := encodesTo_instr (h.trans f.jump_target)

theorem encodesTo_code20 {i : Instr} {f : Fields} (h : encodeFields i = .code20 f.op f.code20v f.fn) :
    (Decoded.instr i).EncodesTo f := encodesTo_instr (h.trans f.code20_code20v)

theorem encodesTo_code10 {i : Instr} {f : Fields} (h : encodeFields i = .code10 f.op f.rs f.rt f.code10v f.fn) :
    (Decoded.instr i).EncodesTo f := encodesTo_instr (h.trans f.code10_code10v)

/-- A two-bit field has one of four values. -/
theorem twoBits_cases (x : BitVec 2) : x = 0b00#2 ∨ x = 0b01#2 ∨ x = 0b10#2 ∨ x = 0b11#2 := by
  revert x
  decide

theorem rt_of_ccRt {f : Fields} {x : BitVec 2} (h : f.rt.extractLsb' 0 2 = x) : f.rt = f.ccRt ++ x := by
  rw [← h]
  exact (condition_append f.rt).symm

theorem sa_of_ccSa {f : Fields} {x : BitVec 2} (h : f.sa.extractLsb' 0 2 = x) : f.sa = f.ccSa ++ x := by
  rw [← h]
  exact (condition_append f.sa).symm

theorem encodesTo_movcf {f : Fields} {iF iT : Instr} (hF : encodeFields iF = .reg f.op f.rs (f.ccRt ++ 0b00#2) f.rd f.sa f.fn)
    (hT : encodeFields iT = .reg f.op f.rs (f.ccRt ++ 0b01#2) f.rd f.sa f.fn) : (movcf f iF iT).EncodesTo f := by
  unfold movcf
  rcases twoBits_cases (f.rt.extractLsb' 0 2) with h | h | h | h <;> rw [h]
  · exact encodesTo_instr (by rw [hF, ← rt_of_ccRt h]; rfl)
  · exact encodesTo_instr (by rw [hT, ← rt_of_ccRt h]; rfl)
  all_goals exact encodesTo_of_undefined

theorem encodesTo_compare {i : Instr} {f : Fields} (h : encodeFields i = .reg f.op f.rs f.rt f.rd (f.ccSa ++ 0b00#2) f.fn) :
    (strict (f.sa.extractLsb' 0 2 == 0#2) i).EncodesTo f := by
  refine encodesTo_strict fun hsa => ?_
  rw [h, ← sa_of_ccSa (eq_of_beq hsa)]
  rfl

/-! ### The opcode maps -/

theorem decodeMovci_encodesTo {f : Fields} (hop : f.op = 0b000000#6) (hfn : f.fn = 0b000001#6) : (decodeMovci f).EncodesTo f := by
  obtain ⟨op, rs, rt, rd, sa, fn⟩ := f
  obtain rfl := hop
  obtain rfl := hfn
  unfold decodeMovci
  split
  next hsa =>
    obtain rfl : sa = _ := eq_of_beq hsa
    exact encodesTo_movcf rfl rfl
  next => exact encodesTo_of_undefined

theorem decodeSpecial_encodesTo {f : Fields} (h : f.op = 0b000000#6) : (decodeSpecial f).EncodesTo f := by
  obtain ⟨op, rs, rt, rd, sa, fn⟩ := f
  obtain rfl := h
  unfold decodeSpecial
  split
  case h_56 => exact encodesTo_of_undefined
  all_goals
    rename_i hfn
    obtain rfl : fn = _ := eq_ofNat_of_toNat hfn
  case h_2 => exact decodeMovci_encodesTo rfl rfl
  case h_12 | h_13 => exact encodesTo_code20 rfl
  case h_44 | h_45 | h_46 | h_47 | h_48 | h_49 => exact encodesTo_code10 rfl
  all_goals
    apply encodesTo_strict
    simp only [Bool.and_eq_true, beq_iff_eq, and_imp]
    intros
    subst_vars
    rfl

theorem decodeRegimm_encodesTo {f : Fields} (h : f.op = 0b000001#6) : (decodeRegimm f).EncodesTo f := by
  obtain ⟨op, rs, rt, rd, sa, fn⟩ := f
  obtain rfl := h
  unfold decodeRegimm
  split
  case h_15 => exact encodesTo_of_undefined
  all_goals
    rename_i hrt
    obtain rfl : rt = _ := eq_ofNat_of_toNat hrt
    exact encodesTo_immediate rfl

theorem decodeCache_encodesTo {f : Fields} (h : f.op = 0b101111#6) : (decodeCache f).EncodesTo f := by
  obtain ⟨op, rs, rt, rd, sa, fn⟩ := f
  obtain rfl := h
  unfold decodeCache
  split
  case h_22 => exact encodesTo_of_undefined
  all_goals
    rename_i hrt
    obtain rfl : rt = _ := eq_ofNat_of_toNat hrt
    exact encodesTo_immediate rfl

theorem decodePerf_encodesTo {f : Fields} {ps pc : BitVec 5 → Instr}
    (hps : encodeFields (ps f.perfReg) = .reg f.op f.rs f.rt f.rd f.sa (f.perfReg ++ 0#1))
    (hpc : encodeFields (pc f.perfReg) = .reg f.op f.rs f.rt f.rd f.sa (f.perfReg ++ 1#1)) :
    (decodePerf f ps pc).EncodesTo f := by
  have number {b : BitVec 1} (h : f.fn.extractLsb' 0 1 = b) : f.perfReg ++ b = f.fn := h ▸ perfReg_append f.fn
  have oneBit : ∀ b : BitVec 1, ¬ (b == 1#1) = true → b = 0#1 := by decide
  unfold decodePerf
  split
  next h => exact encodesTo_instr (by rw [hpc, number (eq_of_beq h)]; rfl)
  next h => exact encodesTo_instr (by rw [hps, number (oneBit _ h)]; rfl)

theorem decodeCp0Move_encodesTo {f : Fields} {plain : Instr} {ps pc : BitVec 5 → Instr}
    (hplain : encodeFields plain = .reg f.op f.rs f.rt f.rd 0#5 0#6)
    (hps : encodeFields (ps f.perfReg) = .reg f.op f.rs f.rt 25#5 0#5 (f.perfReg ++ 0#1))
    (hpc : encodeFields (pc f.perfReg) = .reg f.op f.rs f.rt 25#5 0#5 (f.perfReg ++ 1#1)) :
    (decodeCp0Move f plain ps pc).EncodesTo f := by
  obtain ⟨op, rs, rt, rd, sa, fn⟩ := f
  unfold decodeCp0Move
  split
  next hsa =>
    obtain rfl : sa = _ := eq_of_beq hsa
    split
    next hrd =>
      obtain rfl : rd = _ := eq_of_beq hrd
      exact decodePerf_encodesTo hps hpc
    next =>
      split
      next hfn =>
        obtain rfl : fn = _ := eq_of_beq hfn
        exact encodesTo_instr hplain
      next => exact encodesTo_of_undefined
  next => exact encodesTo_of_undefined

theorem decodeCop0Co_encodesTo {f : Fields} (h : f.op = 0b010000#6) : (decodeCop0Co f).EncodesTo f := by
  obtain ⟨op, rs, rt, rd, sa, fn⟩ := f
  obtain rfl := h
  unfold decodeCop0Co
  split
  next hz =>
    simp only [Bool.and_eq_true, beq_iff_eq] at hz
    obtain ⟨⟨⟨rfl, rfl⟩, rfl⟩, rfl⟩ := hz
    split
    case h_7 => exact encodesTo_of_undefined
    all_goals
      rename_i hfn
      obtain rfl : fn = _ := eq_ofNat_of_toNat hfn
      exact encodesTo_instr rfl
  next => exact encodesTo_of_undefined

theorem decodeBc0_encodesTo {f : Fields} (hop : f.op = 0b010000#6) (hrs : f.rs = 0b01000#5) : (decodeBc0 f).EncodesTo f := by
  obtain ⟨op, rs, rt, rd, sa, fn⟩ := f
  obtain rfl := hop
  obtain rfl := hrs
  unfold decodeBc0
  split
  case h_5 => exact encodesTo_of_undefined
  all_goals
    rename_i hrt
    obtain rfl : rt = _ := eq_ofNat_of_toNat hrt
    exact encodesTo_immediate rfl

theorem decodeCop0_encodesTo {f : Fields} (h : f.op = 0b010000#6) : (decodeCop0 f).EncodesTo f := by
  obtain ⟨op, rs, rt, rd, sa, fn⟩ := f
  obtain rfl := h
  unfold decodeCop0
  split
  case h_6 =>
    split
    · exact decodeCop0Co_encodesTo rfl
    · exact encodesTo_of_undefined
  all_goals
    rename_i hrs
    obtain rfl : rs = _ := eq_ofNat_of_toNat hrs
  case h_1 | h_3 => exact decodeCp0Move_encodesTo rfl rfl rfl
  case h_5 => exact decodeBc0_encodesTo rfl rfl
  all_goals
    split
    next hz =>
      simp only [Bool.and_eq_true, beq_iff_eq] at hz
      obtain ⟨rfl, rfl⟩ := hz
      exact encodesTo_instr rfl
    next => exact encodesTo_of_undefined

theorem decodeBc1_encodesTo {f : Fields} (hop : f.op = 0b010001#6) (hrs : f.rs = 0b01000#5) : (decodeBc1 f).EncodesTo f := by
  unfold decodeBc1
  rcases twoBits_cases (f.rt.extractLsb' 0 2) with h | h | h | h <;> rw [h] <;>
    · apply encodesTo_immediate
      rw [hop, hrs, rt_of_ccRt h]
      rfl

theorem decodeCop1S_encodesTo {f : Fields} (hop : f.op = 0b010001#6) (hrs : f.rs = 0b10000#5) : (decodeCop1S f).EncodesTo f := by
  obtain ⟨op, rs, rt, rd, sa, fn⟩ := f
  obtain rfl := hop
  obtain rfl := hrs
  unfold decodeCop1S
  split
  case h_41 => exact encodesTo_of_undefined
  all_goals
    rename_i hfn
    obtain rfl : fn = _ := eq_ofNat_of_toNat hfn
  case h_17 => exact encodesTo_movcf rfl rfl
  case h_25 | h_26 | h_27 | h_28 | h_29 | h_30 | h_31 | h_32 | h_33 | h_34 | h_35 | h_36 | h_37 | h_38 | h_39 | h_40 =>
    exact encodesTo_compare rfl
  case h_1 | h_2 | h_3 | h_4 | h_18 | h_19 => exact encodesTo_instr rfl
  all_goals exact encodesTo_strict_zero (by rintro rfl; rfl)

theorem decodeCop1D_encodesTo {f : Fields} (hop : f.op = 0b010001#6) (hrs : f.rs = 0b10001#5) : (decodeCop1D f).EncodesTo f := by
  obtain ⟨op, rs, rt, rd, sa, fn⟩ := f
  obtain rfl := hop
  obtain rfl := hrs
  unfold decodeCop1D
  split
  case h_41 => exact encodesTo_of_undefined
  all_goals
    rename_i hfn
    obtain rfl : fn = _ := eq_ofNat_of_toNat hfn
  case h_17 => exact encodesTo_movcf rfl rfl
  case h_25 | h_26 | h_27 | h_28 | h_29 | h_30 | h_31 | h_32 | h_33 | h_34 | h_35 | h_36 | h_37 | h_38 | h_39 | h_40 =>
    exact encodesTo_compare rfl
  case h_1 | h_2 | h_3 | h_4 | h_18 | h_19 => exact encodesTo_instr rfl
  all_goals exact encodesTo_strict_zero (by rintro rfl; rfl)

theorem decodeCop1W_encodesTo {f : Fields} (hop : f.op = 0b010001#6) (hrs : f.rs = 0b10100#5) : (decodeCop1W f).EncodesTo f := by
  obtain ⟨op, rs, rt, rd, sa, fn⟩ := f
  obtain rfl := hop
  obtain rfl := hrs
  unfold decodeCop1W
  split
  case h_3 => exact encodesTo_of_undefined
  all_goals
    rename_i hfn
    obtain rfl : fn = _ := eq_ofNat_of_toNat hfn
    exact encodesTo_strict_zero (by rintro rfl; rfl)

theorem decodeCop1L_encodesTo {f : Fields} (hop : f.op = 0b010001#6) (hrs : f.rs = 0b10101#5) : (decodeCop1L f).EncodesTo f := by
  obtain ⟨op, rs, rt, rd, sa, fn⟩ := f
  obtain rfl := hop
  obtain rfl := hrs
  unfold decodeCop1L
  split
  case h_3 => exact encodesTo_of_undefined
  all_goals
    rename_i hfn
    obtain rfl : fn = _ := eq_ofNat_of_toNat hfn
    exact encodesTo_strict_zero (by rintro rfl; rfl)

theorem decodeCop1_encodesTo {f : Fields} (hop : f.op = 0b010001#6) : (decodeCop1 f).EncodesTo f := by
  obtain ⟨op, rs, rt, rd, sa, fn⟩ := f
  obtain rfl := hop
  unfold decodeCop1
  split
  case h_12 => split <;> exact encodesTo_of_undefined
  all_goals
    rename_i hrs
    obtain rfl : rs = _ := eq_ofNat_of_toNat hrs
  case h_7 => exact decodeBc1_encodesTo rfl rfl
  case h_8 => exact decodeCop1S_encodesTo rfl rfl
  case h_9 => exact decodeCop1D_encodesTo rfl rfl
  case h_10 => exact decodeCop1W_encodesTo rfl rfl
  case h_11 => exact decodeCop1L_encodesTo rfl rfl
  all_goals
    refine encodesTo_strict fun hz => ?_
    simp only [Bool.and_eq_true, beq_iff_eq] at hz
    obtain ⟨rfl, rfl⟩ := hz
    rfl

theorem decodeCop1x_encodesTo {f : Fields} (hop : f.op = 0b010011#6) : (decodeCop1x f).EncodesTo f := by
  obtain ⟨op, rs, rt, rd, sa, fn⟩ := f
  obtain rfl := hop
  unfold decodeCop1x
  split
  case h_14 => exact encodesTo_of_undefined
  all_goals
    rename_i hfn
    obtain rfl : fn = _ := eq_ofNat_of_toNat hfn
  case h_1 | h_2 | h_3 | h_4 | h_5 => exact encodesTo_strict_zero (by rintro rfl; rfl)
  all_goals exact encodesTo_instr rfl

theorem decodeFields_encodesTo (f : Fields) : (decodeFields f).EncodesTo f := by
  obtain ⟨op, rs, rt, rd, sa, fn⟩ := f
  unfold decodeFields
  split
  case h_60 => exact encodesTo_of_undefined
  all_goals
    rename_i hop
    obtain rfl : op = _ := eq_ofNat_of_toNat hop
  case h_1 => exact decodeSpecial_encodesTo rfl
  case h_2 => exact decodeRegimm_encodesTo rfl
  case h_17 => exact decodeCop0_encodesTo rfl
  case h_18 => exact decodeCop1_encodesTo rfl
  case h_20 => exact decodeCop1x_encodesTo rfl
  case h_44 => exact decodeCache_encodesTo rfl
  case h_3 | h_4 | h_19 => exact encodesTo_jump rfl
  case h_7 | h_8 | h_16 | h_23 | h_24 => exact encodesTo_strict_immediate (by rintro rfl; rfl)
  all_goals exact encodesTo_immediate rfl

/-! ## What is encoded is read back -/

theorem decodeFields_immediate {op : BitVec 6} {rs rt : BitVec 5} {c : BitVec 16 → Instr}
    (h : ∀ rd sa fn, decodeFields ⟨op, rs, rt, rd, sa, fn⟩ = .instr (c (rd ++ sa ++ fn))) (i : BitVec 16) :
    decodeFields (.immediate op rs rt i) = .instr (c i) :=
  (h _ _ _).trans (congrArg (fun j => Decoded.instr (c j)) (Fields.imm_immediate op rs rt i))

theorem decodeFields_jump {op : BitVec 6} {c : BitVec 26 → Instr}
    (h : ∀ rs rt rd sa fn, decodeFields ⟨op, rs, rt, rd, sa, fn⟩ = .instr (c (rs ++ rt ++ rd ++ sa ++ fn))) (t : BitVec 26) :
    decodeFields (.jump op t) = .instr (c t) :=
  (h _ _ _ _ _).trans (congrArg (fun j => Decoded.instr (c j)) (Fields.target_jump op t))

theorem decodeFields_code20 {op fn : BitVec 6} {c : BitVec 20 → Instr}
    (h : ∀ rs rt rd sa, decodeFields ⟨op, rs, rt, rd, sa, fn⟩ = .instr (c (rs ++ rt ++ rd ++ sa))) (k : BitVec 20) :
    decodeFields (.code20 op k fn) = .instr (c k) :=
  (h _ _ _ _).trans (congrArg (fun j => Decoded.instr (c j)) (Fields.code20v_code20 op fn k))

theorem decodeFields_code10 {op fn : BitVec 6} {rs rt : BitVec 5} {c : BitVec 10 → Instr}
    (h : ∀ rd sa, decodeFields ⟨op, rs, rt, rd, sa, fn⟩ = .instr (c (rd ++ sa))) (k : BitVec 10) :
    decodeFields (.code10 op rs rt k fn) = .instr (c k) :=
  (h _ _).trans (congrArg (fun j => Decoded.instr (c j)) (Fields.code10v_code10 op fn rs rt k))

theorem condition_low (cc : BitVec 3) (x : BitVec 2) : (cc ++ x : BitVec 5).extractLsb' 0 2 = x :=
  BitVec.extractLsb'_append_eq_right

theorem condition_high (cc : BitVec 3) (x : BitVec 2) : (cc ++ x : BitVec 5).extractLsb' 2 3 = cc :=
  BitVec.extractLsb'_append_eq_left

theorem decodeFields_compare {op fn : BitVec 6} {rs rt rd : BitVec 5} {cc : BitVec 3} {c : BitVec 3 → Instr}
    (h : decodeFields (.reg op rs rt rd (cc ++ 0b00#2) fn) =
      strict ((cc ++ 0b00#2 : BitVec 5).extractLsb' 0 2 == 0#2) (c (Fields.reg op rs rt rd (cc ++ 0b00#2) fn).ccSa)) :
    decodeFields (.reg op rs rt rd (cc ++ 0b00#2) fn) = .instr (c cc) := by
  rw [h, Fields.ccSa, Fields.reg, condition_low, condition_high]
  rfl

theorem decodeFields_movf {op fn : BitVec 6} {rs rd sa : BitVec 5} {cc : BitVec 3} {c : BitVec 3 → Instr} {iT : Instr}
    (h : decodeFields (.reg op rs (cc ++ 0b00#2) rd sa fn) =
      movcf (.reg op rs (cc ++ 0b00#2) rd sa fn) (c (Fields.reg op rs (cc ++ 0b00#2) rd sa fn).ccRt) iT) :
    decodeFields (.reg op rs (cc ++ 0b00#2) rd sa fn) = .instr (c cc) := by
  rw [h, movcf, Fields.ccRt, Fields.reg, condition_low, condition_high]
  rfl

theorem decodeFields_movt {op fn : BitVec 6} {rs rd sa : BitVec 5} {cc : BitVec 3} {c : BitVec 3 → Instr} {iF : Instr}
    (h : decodeFields (.reg op rs (cc ++ 0b01#2) rd sa fn) =
      movcf (.reg op rs (cc ++ 0b01#2) rd sa fn) iF (c (Fields.reg op rs (cc ++ 0b01#2) rd sa fn).ccRt)) :
    decodeFields (.reg op rs (cc ++ 0b01#2) rd sa fn) = .instr (c cc) := by
  rw [h, movcf, Fields.ccRt, Fields.reg, condition_low, condition_high]
  rfl

theorem decodeFields_bc1 {cc : BitVec 3} {x : BitVec 2} {c : BitVec 3 → BitVec 16 → Instr}
    (h : ∀ f : Fields, f.rt.extractLsb' 0 2 = x → decodeBc1 f = .instr (c f.ccRt f.imm)) (i : BitVec 16) :
    decodeFields (.immediate 0b010001#6 0b01000#5 (cc ++ x) i) = .instr (c cc i) := by
  have low : (Fields.immediate 0b010001#6 0b01000#5 (cc ++ x) i).rt.extractLsb' 0 2 = x := condition_low cc x
  have high : (Fields.immediate 0b010001#6 0b01000#5 (cc ++ x) i).ccRt = cc := condition_high cc x
  exact (h _ low).trans (by rw [high, Fields.imm_immediate])

theorem perfReg_low (reg : BitVec 5) (b : BitVec 1) : (reg ++ b : BitVec 6).extractLsb' 0 1 = b :=
  BitVec.extractLsb'_append_eq_right

theorem perfReg_high (reg : BitVec 5) (b : BitVec 1) : (reg ++ b : BitVec 6).extractLsb' 1 5 = reg :=
  BitVec.extractLsb'_append_eq_left

theorem decodePerf_ps (op : BitVec 6) (rs rt rd sa reg : BitVec 5) (ps pc : BitVec 5 → Instr) :
    decodePerf (.reg op rs rt rd sa (reg ++ 0#1)) ps pc = .instr (ps reg) := by
  rw [decodePerf, Fields.perfReg, Fields.reg, perfReg_low, perfReg_high]
  rfl

theorem decodePerf_pc (op : BitVec 6) (rs rt rd sa reg : BitVec 5) (ps pc : BitVec 5 → Instr) :
    decodePerf (.reg op rs rt rd sa (reg ++ 1#1)) ps pc = .instr (pc reg) := by
  rw [decodePerf, Fields.perfReg, Fields.reg, perfReg_low, perfReg_high]
  rfl

/-- R590: register 25 is what makes a move one of MFPS, MFPC, MTPS, MTPC. -/
theorem decodeCp0Move_plain {rd : BitVec 5} (h : wfCp0Move rd = true) (op : BitVec 6) (rs rt : BitVec 5) (plain : Instr)
    (ps pc : BitVec 5 → Instr) : decodeCp0Move (.reg op rs rt rd 0#5 0#6) plain ps pc = .instr plain := by
  have other : ¬ (rd == 25#5) = true := by simpa [wfCp0Move] using h
  simp only [decodeCp0Move, Fields.reg, if_neg other, beq_self_eq_true, if_true]

/-- By the format of the encoding: all but the plain R-type ones put a field together again. -/
theorem decodeFields_encodeFields (i : Instr) (h : i.wellFormed = true) : decodeFields (encodeFields i) = .instr i := by
  cases i with
  | addi | addiu | slti | sltiu | andi | ori | xori | daddi | daddiu | lui | lb | lbu | lh | lhu | lw | lwu | ld | sb | sh | sw
  | sd | lwl | lwr | ldl | ldr | swl | swr | sdl | sdr | ll | lld | sc | scd | lwc1 | ldc1 | swc1 | sdc1 | pref
  | cacheIndexInvalidateI | cacheIndexLoadTagI | cacheIndexStoreTagI | cacheHitInvalidateI | cacheBarrier | cacheIndexLoadDataI
  | cacheIndexStoreDataI | cacheIndexWritebackInvalidateD | cacheIndexLoadTagD | cacheIndexStoreTagD | cacheHitInvalidateD
  | cacheHitWritebackInvalidateD | cacheIndexLoadDataD | cacheIndexStoreDataD | cacheIndexWritebackInvalidateS
  | cacheIndexLoadTagS | cacheIndexStoreTagS | cacheHitInvalidateS | cacheHitWritebackInvalidateS | cacheIndexLoadDataS
  | cacheIndexStoreDataS | beq | bne | beql | bnel | blez | bgtz | blezl | bgtzl | bltz | bgez | bltzl | bgezl | bltzal
  | bgezal | bltzall | bgezall | tgei | tgeiu | tlti | tltiu | teqi | tnei | bc0f | bc0t | bc0fl | bc0tl | lwc2 | ldc2 | swc2
  | sdc2 =>
    exact decodeFields_immediate (fun _ _ _ => rfl) _
  | j | jal | cop2 =>
    exact decodeFields_jump (fun _ _ _ _ _ => rfl) _
  | syscall | breakpoint =>
    exact decodeFields_code20 (fun _ _ _ _ => rfl) _
  | tge | tgeu | tlt | tltu | teq | tne =>
    exact decodeFields_code10 (fun _ _ => rfl) _
  | cFS | cFD | cUnS | cUnD | cEqS | cEqD | cUeqS | cUeqD | cOltS | cOltD | cUltS | cUltD | cOleS | cOleD | cUleS | cUleD
  | cSfS | cSfD | cNgleS | cNgleD | cSeqS | cSeqD | cNglS | cNglD | cLtS | cLtD | cNgeS | cNgeD | cLeS | cLeD | cNgtS | cNgtD =>
    exact decodeFields_compare rfl
  | movf | movfS | movfD =>
    apply decodeFields_movf
    rfl
  | movt | movtS | movtD =>
    apply decodeFields_movt
    rfl
  | bc1f | bc1t | bc1fl | bc1tl =>
    exact decodeFields_bc1 (fun f hf => by rw [decodeBc1, hf]; rfl) _
  | mfps | mtps => exact decodePerf_ps ..
  | mfpc | mtpc => exact decodePerf_pc ..
  | mfc0 | mtc0 => exact decodeCp0Move_plain h ..
  | _ =>
    show decodeFields (.reg ..) = _
    rfl

/-- Settles O56: the fields of a word determine it and are determined by it, and on fields the maps and the encoder are inverse. -/
theorem decodingInvertsEncoding : Obligations.DecodingInvertsEncoding := by
  constructor
  · intro i h
    rw [decode, encode, Fields.ofWord_toWord, decodeFields_encodeFields i h]
  · intro w i h _
    rw [encode, decodeFields_encodesTo _ i h, Fields.toWord_ofWord]

/-- A word is read as the instruction it encodes. -/
theorem decode_of_encode {w : Word} {i : Instr} (h : i.wellFormed = true) (hw : encode i = w) : decode w = .instr i :=
  hw ▸ decodingInvertsEncoding.1 i h

/-- Settles O55: each word is the encoding of its instruction. -/
theorem sampleWordsDecodeToTheirInstructions : Obligations.SampleWordsDecodeToTheirInstructions :=
  ⟨decode_of_encode rfl rfl, decode_of_encode rfl rfl, decode_of_encode rfl rfl, decode_of_encode rfl rfl, decode_of_encode rfl rfl,
    decode_of_encode rfl rfl, decode_of_encode rfl rfl, decode_of_encode rfl rfl, decode_of_encode rfl rfl, decode_of_encode rfl rfl⟩

end Sys2Proof

end

section
/-! PROOFS. The checks that instructions begin with (R478): coprocessors 0, 1 and 2, MIPS III and MIPS IV, and the exceptions of Table 17-4
(R80, R107, R472 to R476, R600, R601, R640, R1046). -/

namespace Sys2Proof.Machine

/-! ## The checks where they fail -/

section

variable {s : State}

theorem State.requireCp0_of_usable (h : s.cp0Usable = true) (k : Out) : s.requireCp0 k = k := if_pos h

theorem State.requireCp0_of_unusable (h : s.cp0Usable = false) (k : Out) : s.requireCp0 k = .next (s.coprocessorUnusable 0) :=
  if_neg (Bool.eq_false_iff.1 h)

theorem State.requireCp1_of_unusable (h : s.cu1 = false) (k : Out) : s.requireCp1 k = .next (s.coprocessorUnusable 1) :=
  if_neg (Bool.eq_false_iff.1 h)

theorem State.requireMips3_of_disabled (h : s.mips3 = false) (k : Out) : s.requireMips3 k = .next (s.takeException 10#5) :=
  if_neg (Bool.eq_false_iff.1 h)

theorem State.requireMips4_of_disabled (h : s.mips4 = false) (k : Out) : s.requireMips4 k = .next (s.takeException 10#5) :=
  if_neg (Bool.eq_false_iff.1 h)

theorem State.requireLong_of_disabled (h : s.mips3 = false) (k : Out) : s.requireLong k = s.unimplemented :=
  if_neg (Bool.eq_false_iff.1 h)

theorem State.requireFp4_of_disabled (h : s.mips4 = false) (k : Out) : s.requireFp4 k = s.unimplemented :=
  if_neg (Bool.eq_false_iff.1 h)

theorem State.reservedCop0_of_usable (h : s.cp0Usable = true) : s.reservedCop0 = .next (s.takeException 10#5) :=
  State.requireCp0_of_usable h _

theorem State.coprocessor2_of_unusable (h : s.cu2 = false) : s.coprocessor2 = .next (s.coprocessorUnusable 2) := by
  rw [State.coprocessor2, h]
  rfl

theorem State.coprocessor2_of_usable (h : s.cu2 = true) : s.coprocessor2 = .next (s.takeException 10#5) := by
  rw [State.coprocessor2, h]
  rfl

/-- R80. -/
theorem State.cp0Usable_eq_false (hmode : s.mode ≠ .kernel) (hcu0 : s.cp0.status.getLsbD 28 = false) : s.cp0Usable = false := by
  rw [State.cp0Usable, State.cu0, hcu0, beq_false_of_ne hmode]
  rfl

/-- R107. -/
theorem State.mips3_eq_false (h : (s.mode = .user ∧ s.cp0.status.getLsbD 5 = false) ∨
    (s.mode = .supervisor ∧ s.cp0.status.getLsbD 6 = false)) : s.mips3 = false := by
  rcases h with ⟨hmode, hbit⟩ | ⟨hmode, hbit⟩ <;>
    · rw [State.mips3, hmode]
      exact hbit

theorem State.mips4_eq_false (hmode : s.mode = .user) (hxx : s.cp0.status.getLsbD 31 = false) : s.mips4 = false := by
  rw [State.mips4, hmode]
  exact hxx

theorem State.mips4_of_kernel (h : s.mode = .kernel) : s.mips4 = true := by
  rw [State.mips4, h]

/-- R1046. -/
theorem State.coprocessorUnusable_cause (s : State) (n : BitVec 2) :
    (s.coprocessorUnusable n).cp0.causeCode = 11#5 ∧ (s.coprocessorUnusable n).cp0.causeCe = n := ⟨rfl, rfl⟩

/-- R640: Cause is 100000, which traps whatever is enabled. -/
theorem State.unimplemented_eq (s : State) : s.unimplemented =
    .next ({ s with fp := { s.fp with fsr := (s.fp.fsr &&& 0xFFFC0FFF#32) ||| 0x00020000#32 } }.takeException 15#5) := by
  have traps : fpTraps s.fp.fsr fpE = true := rfl
  have cause : fsrCause s.fp.fsr fpE = (s.fp.fsr &&& 0xFFFC0FFF#32) ||| 0x00020000#32 := by
    simp [fsrCause, putField, mergeMask, fpE]
  rw [State.unimplemented, State.completeFp, traps, cause]
  rfl

end

/-! ## Which checks an instruction begins with -/

/-- What it does it does behind the check. -/
def BeginsWith (check : State → Out → Out) (i : Instr) : Prop := ∀ s, ∃ k, exec i s = check s k

theorem BeginsWith.exec_eq {check : State → Out → Out} {i : Instr} (h : BeginsWith check i) {s : State} {o : Out}
    (fails : ∀ k, check s k = o) : exec i s = o := by
  obtain ⟨k, run⟩ := h s
  exact run.trans (fails k)

section

variable (rt rd reg base a b c d ft fs fd : BitVec 5) (cc : BitVec 3) (off : BitVec 16)

theorem cp0Instructions_beginWith : ∀ i ∈ cp0Instructions rt rd reg base off, BeginsWith State.requireCp0 i := by
  intro i hi
  fin_cases hi <;> exact fun _ => ⟨_, rfl⟩

theorem cp0DoublewordMoves_beginWith :
    ∀ i ∈ [Instr.dmfc0 a b, .dmtc0 a b], BeginsWith (fun s k => s.requireCp0 (s.requireMips3 k)) i := by
  intro i hi
  fin_cases hi <;> exact fun _ => ⟨_, rfl⟩

theorem mips3Instructions_beginWith : ∀ i ∈ mips3Instructions a b c off, BeginsWith State.requireMips3 i := by
  intro i hi
  fin_cases hi <;> exact fun _ => ⟨_, rfl⟩

theorem mips4Instructions_beginWith : ∀ i ∈ mips4Instructions a b c d cc off, BeginsWith State.requireMips4 i := by
  intro i hi
  fin_cases hi <;> exact fun _ => ⟨_, rfl⟩

theorem cp1Instructions_beginWith : ∀ i ∈ cp1Instructions rt ft fs fd base cc off, BeginsWith State.requireCp1 i := by
  intro i hi
  fin_cases hi <;> exact fun _ => ⟨_, rfl⟩

theorem cop1xInstructions_beginWith :
    ∀ i ∈ cop1xInstructions rt ft fs fd base, BeginsWith (fun s k => s.requireMips4 (s.requireCp1 k)) i := by
  intro i hi
  fin_cases hi <;> exact fun _ => ⟨_, rfl⟩

theorem compares_beginWith (f : Fmt) :
    ∀ i ∈ compares f ft fs cc, BeginsWith (fun s k => s.requireCp1 (if cc = 0#3 then k else s.requireFp4 k)) i := by
  intro i hi
  cases f <;> fin_cases hi <;> exact fun _ => ⟨_, rfl⟩

/-- R478: the reciprocals and the conditional moves. -/
theorem fp4Instructions_beginWith : ∀ i ∈ [Instr.recipS fs fd, .recipD fs fd, .rsqrtS fs fd, .rsqrtD fs fd, .movfS cc fs fd,
    .movfD cc fs fd, .movtS cc fs fd, .movtD cc fs fd, .movzS rt fs fd, .movzD rt fs fd, .movnS rt fs fd, .movnD rt fs fd],
    BeginsWith (fun s k => s.requireCp1 (s.requireFp4 k)) i := by
  intro i hi
  fin_cases hi <;> exact fun _ => ⟨_, rfl⟩

/-- R472: the conversions to and from L. -/
theorem longConversions_beginWith : ∀ i ∈ [Instr.roundLS fs fd, .roundLD fs fd, .truncLS fs fd, .truncLD fs fd, .ceilLS fs fd,
    .ceilLD fs fd, .floorLS fs fd, .floorLD fs fd, .cvtLS fs fd, .cvtLD fs fd, .cvtSL fs fd, .cvtDL fs fd],
    BeginsWith (fun s k => s.requireCp1 (s.requireLong k)) i := by
  intro i hi
  fin_cases hi <;> exact fun _ => ⟨_, rfl⟩

theorem cp1DoublewordMoves_beginWith :
    ∀ i ∈ [Instr.dmfc1 rt fs, .dmtc1 rt fs], BeginsWith (fun s k => s.requireCp1 (s.requireMips3 k)) i := by
  intro i hi
  fin_cases hi <;> exact fun _ => ⟨_, rfl⟩

/-- R476. -/
theorem exec_coprocessor2 (s : State) (code : BitVec 26) :
    ∀ i ∈ [Instr.cop2 code, .lwc2 base rt off, .ldc2 base rt off, .swc2 base rt off, .sdc2 base rt off],
      exec i s = s.coprocessor2 := by
  intro i hi
  fin_cases hi <;> rfl

/-- R600, R601. -/
theorem exec_reservedCop0 (s : State) :
    ∀ i ∈ [Instr.rfe, .bc0f off, .bc0t off, .bc0fl off, .bc0tl off], exec i s = s.reservedCop0 := by
  intro i hi
  fin_cases hi <;> rfl

/-- R600, R601: their words. -/
theorem encode_reservedCop0 :
    ∀ p ∈ [(Instr.bc0f off, wordI 0b010000 0b01000 0b00000 off), (.bc0t off, wordI 0b010000 0b01000 0b00001 off),
      (.bc0fl off, wordI 0b010000 0b01000 0b00010 off), (.bc0tl off, wordI 0b010000 0b01000 0b00011 off),
      (.rfe, wordR 0b010000 0b10000 0 0 0 0b010000)], encode p.1 = p.2 := by
  intro p hp
  fin_cases hp
  · exact Fields.toWord_immediate ..
  · exact Fields.toWord_immediate ..
  · exact Fields.toWord_immediate ..
  · exact Fields.toWord_immediate ..
  · exact Fields.toWord_reg ..

end

/-! ## The obligations -/

/-- Settles O19: `cp0Instructions` begin with the check of CP0, and the others are one operation each. -/
theorem unusableCoprocessorsTakeTheirException : Obligations.UnusableCoprocessorsTakeTheirException := by
  refine ⟨?cp0, fun s base rt off code => ⟨?cop2, ?reserved⟩, encode_reservedCop0⟩
  case cp0 =>
    intro s rt rd reg base off hmode hcu0 i hi
    have run := (cp0Instructions_beginWith rt rd reg base off i hi).exec_eq
      (State.requireCp0_of_unusable (State.cp0Usable_eq_false hmode hcu0))
    exact ⟨run, s.coprocessorUnusable_cause 0⟩
  case cop2 =>
    intro i hi
    rw [exec_coprocessor2 rt base off s code i hi]
    exact ⟨fun h => ⟨State.coprocessor2_of_unusable h, s.coprocessorUnusable_cause 2⟩, State.coprocessor2_of_usable⟩
  case reserved =>
    intro usable i hi
    rw [exec_reservedCop0 off s i hi]
    exact State.reservedCop0_of_usable usable

/-- Settles O20, from the checks the instructions begin with. -/
theorem disabledInstructionSetsTakeReservedInstruction : Obligations.DisabledInstructionSetsTakeReservedInstruction := by
  refine fun s a b c d cc imm => ⟨fun h => ⟨?mips3, ?moves⟩, ?mips4, fun h => ⟨State.mips3_of_kernel h, State.mips4_of_kernel h⟩⟩
  case mips3 =>
    intro i hi
    exact (mips3Instructions_beginWith a b c imm i hi).exec_eq (State.requireMips3_of_disabled (State.mips3_eq_false h))
  case moves =>
    intro usable i hi
    refine (cp0DoublewordMoves_beginWith a b i hi).exec_eq fun k => ?_
    rw [State.requireCp0_of_usable usable, State.requireMips3_of_disabled (State.mips3_eq_false h)]
  case mips4 =>
    intro hmode hxx i hi
    exact (mips4Instructions_beginWith a b c d cc imm i hi).exec_eq
      (State.requireMips4_of_disabled (State.mips4_eq_false hmode hxx))

/-- Settles O45: with CP1 not usable its check fails first; else the check behind it does. -/
theorem floatingPointGatingFollowsTable174 : Obligations.FloatingPointGatingFollowsTable174 := by
  intro s rt ft fs fd base cc off unimplemented
  have unusable (h : s.cu1 = false) (k : Out) : s.requireCp1 k = .next (s.coprocessorUnusable 1) :=
    State.requireCp1_of_unusable h k
  have usable (h : s.cu1 = true) (k : Out) : s.requireCp1 k = k := State.requireCp1_of_usable h k
  refine ⟨fun h1 => ?unusable, fun h1 h4 => ?fp4, fun h1 h4 hcc f => ?compare, fun h1 h3 => ?long, fun h1 h3 => ?moves⟩
  case unusable =>
    intro i hi
    refine ⟨?_, s.coprocessorUnusable_cause 1⟩
    simp only [List.mem_append] at hi
    rcases hi with ((hi | hi) | hi) | hi
    · exact (cp1Instructions_beginWith rt base ft fs fd cc off i hi).exec_eq (unusable h1)
    · exact (compares_beginWith ft fs cc .s i hi).exec_eq fun _ => unusable h1 _
    · exact (compares_beginWith ft fs cc .d i hi).exec_eq fun _ => unusable h1 _
    · split at hi
      next h4 =>
        refine (cop1xInstructions_beginWith rt base ft fs fd i hi).exec_eq fun k => ?_
        rw [State.requireMips4_of_enabled h4, unusable h1]
      next => cases hi
  case fp4 =>
    intro i hi
    refine (fp4Instructions_beginWith rt fs fd cc i hi).exec_eq fun k => ?_
    rw [usable h1, State.requireFp4_of_disabled h4, State.unimplemented_eq]
  case compare =>
    intro i hi
    refine (compares_beginWith ft fs cc f i hi).exec_eq fun k => ?_
    rw [usable h1, if_neg hcc, State.requireFp4_of_disabled h4, State.unimplemented_eq]
  case long =>
    intro i hi
    refine (longConversions_beginWith fs fd i hi).exec_eq fun k => ?_
    rw [usable h1, State.requireLong_of_disabled h3, State.unimplemented_eq]
  case moves =>
    intro i hi
    refine (cp1DoublewordMoves_beginWith rt fs i hi).exec_eq fun k => ?_
    rw [usable h1, State.requireMips3_of_disabled h3]

end Sys2Proof.Machine

end

section
/-! PROOFS. SYNC and the prefetches (R344, R412, R500 to R510, R1153): when finding or filling a data block stops or waits, and what a
prefetch makes of it. -/

namespace Sys2Proof.Machine

/-! ## SYNC -/

theorem State.syncHeld_iff (s : State) : s.syncHeld = true ↔
    (∃ x ∈ s.bus.fifo, x.accelerated = false) ∨ (∃ b ∈ s.bus.ready, b.accelerated = false) ∨ s.bus.gblPerf = false := by
  simp [State.syncHeld, or_assoc]

theorem exec_sync_of_held {s : State} (h : s.syncHeld = true) : exec .sync s = .next s.breakLink.waitHere := by
  show execSync s = _
  rw [execSync, if_pos h]

theorem exec_sync_of_free {s : State} (h : ¬ s.syncHeld = true) : exec .sync s = .next s.breakLink.advance := by
  show execSync s = _
  rw [execSync, if_neg h]

/-! ## Accesses that complete -/

/-- An access that does not stop, and waits only where p holds. -/
inductive Res.Completes {α : Type} (p : Prop) : Res α → Prop where
  | ok {a : α} {t : State} : Res.Completes p (.ok a t)
  | busError {t : State} : Res.Completes p (.busError t)
  | cacheError {t : State} : Res.Completes p (.cacheError t)
  | wait {t : State} (h : p) : Res.Completes p (.wait t)

section
variable {α β : Type} {p : Prop}

theorem Res.Completes.bind {x : Res α} {f : α → State → Res β} (h : x.Completes p) (k : ∀ a t, x = .ok a t → (f a t).Completes p) :
    (x.bind f).Completes p := by
  cases h with
  | ok => exact k _ _ rfl
  | busError => exact .busError
  | cacheError => exact .cacheError
  | wait h => exact .wait h

theorem State.goOn_completes (s : State) (a : α) : (s.goOn a).Completes p := by
  unfold State.goOn
  split
  · exact .cacheError
  · exact .ok

theorem State.eq_of_goOn_eq_ok {s t : State} {a b : α} (h : s.goOn a = .ok b t) : t = s := by
  unfold State.goOn at h
  split at h
  · cases h
  · cases h
    rfl

theorem State.NothingOut.outgoing {s t : State} (h : s.NothingOut t) : t.bus.outgoing = s.bus.outgoing := h.2.1

/-! ### The secondary cache -/

/-- Reading the tags of a set posts errors at most (R302). -/
theorem State.sTags_reports {s t : State} {pa : PAddr} {q : STag × STag} (h : s.sTags pa = .ok q t) : s.Reports t := by
  unfold State.sTags at h
  dsimp only at h
  split at h
  · rw [State.eq_of_goOn_eq_ok h]
    exact ((s.pulseCor_reports _).trans (State.pulseUnc_reports _ _)).trans (State.postS_reports _ _)
  · cases h
    exact s.pulseCor_reports _

theorem State.sTags_completes (s : State) (pa : PAddr) : (s.sTags pa).Completes p := by
  unfold State.sTags
  dsimp only
  split
  · exact State.goOn_completes _ _
  · exact .ok

theorem State.install_completes (s : State) (va : DWord) (pa : PAddr) (w : Bool) (st : BlockState) (bad : BitVec 16) :
    (s.install va pa w st bad).Completes p := by
  unfold State.install
  dsimp only
  split
  · exact .ok
  · exact State.goOn_completes _ _

theorem State.upgrade_completes (s : State) (va : DWord) (pa : PAddr) (w : Bool) : (s.upgrade va pa w).Completes p := by
  unfold State.upgrade
  split
  · exact .busError
  · exact .ok
  · exact (State.install_completes _ _ _ _ _ _).bind fun _ _ _ => .ok

theorem State.sHit_completes (s : State) (va : DWord) (pa : PAddr) (excl w : Bool) (t : STag) :
    (s.sHit va pa excl w t).Completes p := by
  unfold State.sHit
  dsimp only
  split
  · exact (State.upgrade_completes _ _ _ _).bind fun _ _ _ => .ok
  · exact .ok

/-- Only a block in the outgoing buffer makes a miss wait (R344). -/
theorem State.sMiss_completes (s : State) (va : DWord) (pa : PAddr) (alg : BitVec 3) (excl : Bool) (q : STag × STag) :
    (s.sMiss va pa alg excl q).Completes (s.bus.outgoing ≠ []) := by
  unfold State.sMiss
  dsimp only
  split
  · next waits =>
    refine .wait fun empty => ?_
    simp [State.outgoingHolds, State.outgoingFull, empty] at waits
  split
  · exact .busError
  · refine (State.install_completes _ _ _ _ _ _).bind fun r t _ => ?_
    split
    · exact (State.upgrade_completes _ _ _ _).bind fun _ _ _ => .ok
    · exact .ok

theorem State.sEnsure_completes (s : State) (va : DWord) (pa : PAddr) (alg : BitVec 3) (excl : Bool) :
    (s.sEnsure va pa alg excl).Completes (s.bus.outgoing ≠ []) := by
  refine (s.sTags_completes pa).bind fun q t tags => ?_
  have same : t.bus.outgoing = s.bus.outgoing := (State.sTags_reports tags).out.outgoing
  split
  · exact t.sHit_completes _ _ _ _ _
  · exact same ▸ t.sMiss_completes _ _ _ _ _

/-! ### The data cache -/

/-- Reading the tags of a set posts errors at most (R308). -/
theorem State.dTags_reports {s t : State} {va : DWord} {q : DTag × DTag} (h : s.dTags va = .ok q t) : s.Reports t := by
  unfold State.dTags at h
  dsimp only at h
  split at h
  · rw [State.eq_of_goOn_eq_ok h]
    exact s.checkDTags_reports _ _
  · cases h
    exact .refl s

theorem State.dTags_completes (s : State) (va : DWord) : (s.dTags va).Completes p := by
  unfold State.dTags
  dsimp only
  split
  · exact State.goOn_completes _ _
  · exact .ok

theorem State.dFill_completes (s : State) (va : DWord) (pa : PAddr) (w sw : Bool) (st : BlockState) :
    (s.dFill va pa w sw st).Completes p := by
  unfold State.dFill
  exact (State.goOn_completes _ _).bind fun _ _ _ => .ok

theorem State.dHit_completes (s : State) (va : DWord) (pa : PAddr) (excl w : Bool) {t : DTag} (ht : t.mod ≠ 0b100#3) :
    (s.dHit va pa excl w t).Completes p := by
  unfold State.dHit
  dsimp only
  rw [if_neg (by rwa [beq_iff_eq])]
  split
  · refine (State.upgrade_completes _ _ _ _).bind fun r u _ => ?_
    split
    · exact u.dFill_completes _ _ _ _ _
    · exact .ok
  · exact .ok
end

/-- No tag of the data set at va holds the page of pa in the refill state (R266, R1153). -/
def State.NotRefilling (s : State) (va : DWord) (pa : PAddr) : Prop :=
  ∀ w, ¬ ((s.dTagAt (wayKey (dSet va) w)).mod = 0b100#3 ∧ (s.dTagAt (wayKey (dSet va) w)).tag = pageOf pa)

/-- Finding or filling a data block stops only at a tag of its page in the refill state (R1153), and waits only while the outgoing buffer
holds a block (R344). -/
theorem State.dEnsure_completes (s : State) (va : DWord) (pa : PAddr) (alg : BitVec 3) (excl : Bool) (pref : Option Bool)
    (filled : s.NotRefilling va pa) : (s.dEnsure va pa alg excl pref).Completes (s.bus.outgoing ≠ []) := by
  refine (s.dTags_completes va).bind fun q t tags => ?_
  obtain ⟨rfl, -, -⟩ := State.dTags_ok tags
  have same : t.bus.outgoing = s.bus.outgoing := (State.dTags_reports tags).out.outgoing
  split
  · next w hit =>
    have pick : pickWay (s.dTagAt (wayKey (dSet va) false), s.dTagAt (wayKey (dSet va) true)) w = s.dTagAt (wayKey (dSet va) w) := by
      cases w <;> rfl
    have held : (s.dTagAt (wayKey (dSet va) w)).holds pa = true := by
      have := hitWay_eq_some hit
      cases w <;> exact this
    rw [pick]
    exact t.dHit_completes _ _ _ _ fun refill => filled w ⟨refill, ((DTag.holds_iff _ _).1 held).2⟩
  · exact (same ▸ t.sEnsure_completes va pa alg excl).bind fun _ u _ => u.dFill_completes _ _ _ _ _

/-! ## Prefetches -/

/-- The kind of access that a prefetch is translated as (R501). -/
def prefKind (hint : BitVec 5) : Access := if prefExclusive hint then .store else .pref

theorem prefKind_eq (hint : BitVec 5) : prefKind hint = if hint = 1#5 ∨ hint = 5#5 ∨ hint = 7#5 then .store else .pref := by
  simp [prefKind, prefExclusive, or_assoc]

/-- A prefetch of an address without a cached translation (R502). -/
theorem State.prefetch_of_uncached {s : State} {va : DWord} {hint : BitVec 5}
    (h : ∀ q, s.translate (s.dataAddress va) (prefKind hint) = .ok q → algCached q.alg = false) :
    s.prefetch va hint = .ok () s.breakLink := by
  unfold prefKind at h
  unfold State.prefetch
  dsimp only
  split
  · next q translate => rw [h q translate]; rfl
  · rfl

/-- From s an access succeeds with only storage moved, or waits so where p holds. -/
inductive Acc.Completes {α : Type} (s : State) (p : Prop) : Acc α → Prop where
  | ok {a : α} {t : State} (core : s.SameCore t) : Acc.Completes s p (.ok a t)
  | wait {t : State} (core : s.SameCore t) (h : p) : Acc.Completes s p (.trap t.waitHere)

/-- What comes of finding the block of a prefetch is dropped, but for a wait (R502, R503). -/
theorem State.prefetch_completes {s : State} {va : DWord} {hint : BitVec 5}
    (filled : ∀ q, s.translate (s.dataAddress va) (prefKind hint) = .ok q → s.NotRefilling (s.dataAddress va) q.pa) :
    (s.prefetch va hint).Completes s (s.bus.outgoing ≠ []) := by
  have broken := s.breakLink_keeps
  unfold prefKind at filled
  unfold State.prefetch
  dsimp only
  split
  · next q translate =>
    split
    · have completes := s.breakLink.dEnsure_completes (s.dataAddress va) q.pa q.alg (prefExclusive hint) (prefWay hint)
        (filled q translate)
      have keeps := s.breakLink.dEnsure_keeps (s.dataAddress va) q.pa q.alg (prefExclusive hint) (prefWay hint)
      generalize s.breakLink.dEnsure _ _ _ _ _ = x at completes keeps
      cases keeps with
      | ok k => exact .ok (broken.trans k).core
      | busError k => exact .ok (broken.trans k).core
      | cacheError k => exact .ok (broken.trans k).core
      | wait k => cases completes with | wait waits => exact .wait (broken.trans k).core waits
      | stop => cases completes
    · exact .ok broken.core
  · exact .ok broken.core

/-- The prefetches of a state with MIPS IV, each with its address (R503, R504). -/
theorem exec_prefetches {s : State} (h : s.mips4 = true) (base index hint : BitVec 5) (off : BitVec 16) :
    ∀ p ∈ (Instr.pref base hint off, s.dataAddress (s.ea base off)) ::
        (if s.cu1 then [(Instr.prefx base index hint, s.dataAddress (s.eaIndexed base index))] else []),
      ∃ va, p.2 = s.dataAddress va ∧ exec p.1 s = s.doPrefetch va hint := by
  intro p hp
  rcases List.mem_cons.1 hp with rfl | hp
  · exact ⟨_, rfl, State.requireMips4_of_enabled h _⟩
  · split at hp
    · next usable =>
      obtain rfl := List.mem_singleton.1 hp
      exact ⟨_, rfl, (State.requireMips4_of_enabled h _).trans (State.requireCp1_of_usable usable _)⟩
    · cases hp

/-- Settles O36, by `State.syncHeld_iff` and by what a prefetch does with its address: `State.prefetch_completes` and
`State.prefetch_of_uncached`. -/
theorem prefetchAndSyncChangeNoRegister : Obligations.PrefetchAndSyncChangeNoRegister := by
  refine fun s base index hint off => ⟨fun fifo ready performed => exec_sync_of_free ?free,
    fun held => exec_sync_of_held (s.syncHeld_iff.2 held), fun h4 => ?prefetches⟩
  case free =>
    rw [s.syncHeld_iff]
    rintro (⟨x, hx, slow⟩ | ⟨b, hb, slow⟩ | negated)
    · exact Bool.eq_false_iff.1 slow (fifo x hx)
    · exact Bool.eq_false_iff.1 slow (ready b hb)
    · exact Bool.eq_false_iff.1 negated performed
  case prefetches =>
    intro kind p hp
    obtain ⟨va, address, run⟩ := exec_prefetches h4 base index hint off p hp
    have hkind : kind = prefKind hint := (prefKind_eq hint).symm
    rw [address, run, hkind]
    refine ⟨fun filled => ?_, fun uncached => Acc.done_of_ok (State.prefetch_of_uncached uncached) _⟩
    have completes := State.prefetch_completes fun q translate w => filled q w translate
    unfold State.doPrefetch
    generalize s.prefetch va hint = x at completes
    cases completes with
    | ok core => exact ⟨_, _, rfl, core, .inl rfl⟩
    | wait core waits => exact ⟨_, _, rfl, core, .inr ⟨waits, rfl⟩⟩

end Sys2Proof.Machine

end

section
/-! PROOFS. What comes before every operation of the CACHE instruction: the tests of the address, of its translation and of the cache algorithm, and
the wait for the outgoing buffer (R218, R533, R534, R541). -/

namespace Sys2Proof.Machine

/-! ## The tests, in their order -/

/-- Where an operation whose address passed the test of its low bits goes on, by what the address translates to. -/
def State.cacheOpAt (s : State) (a : DWord) (k : State → DWord → PAddr → Out) : Xlate → Out
  | .ok p =>
    if algReserved p.alg then .fault .reservedCacheAlgorithm
    else if algCached p.alg then
      if s.bus.outgoing.isEmpty then k s.breakLink a p.pa else .next s.waitHere
    else .fault .cacheOpUncached
  | x => .next (s.xlateException false a x)

section
variable {s : State} (usable : s.cp0Usable = true) {va : DWord} {index : Bool} (k : State → DWord → PAddr → Out)
include usable

theorem State.cacheOp_of_misaligned (low : (s.dataAddress va).getLsbD 1 = true ∨ index = false ∧ (s.dataAddress va).getLsbD 0 = true) :
    s.cacheOp va index k = .next (s.addressError false (s.dataAddress va)) := by
  have misaligned : ((s.dataAddress va).getLsbD 1 || (!index && (s.dataAddress va).getLsbD 0)) = true := by
    rcases low with high | ⟨rfl, low⟩
    · rw [high, Bool.true_or]
    · rw [low, Bool.not_false, Bool.and_self, Bool.or_true]
  rw [State.cacheOp, State.requireCp0_of_usable usable]
  exact if_pos misaligned

theorem State.cacheOp_of_aligned (high : (s.dataAddress va).getLsbD 1 = false)
    (low : (s.dataAddress va).getLsbD 0 = true → index = true) :
    s.cacheOp va index k = s.cacheOpAt (s.dataAddress va) k (s.translate (s.dataAddress va) .cacheOp) := by
  have aligned : ((s.dataAddress va).getLsbD 1 || (!index && (s.dataAddress va).getLsbD 0)) = false := by
    rw [high, Bool.false_or, Bool.and_eq_false_iff, Bool.not_eq_false']
    exact (Bool.eq_false_or_eq_true _).imp_left low
  rw [State.cacheOp, State.requireCp0_of_usable usable]
  refine (if_neg (Bool.eq_false_iff.1 aligned)).trans ?_
  cases s.translate (s.dataAddress va) .cacheOp <;> rfl
end

section
variable (s : State) (a : DWord) (k : State → DWord → PAddr → Out) {p : Phys}

/-- R534. -/
theorem State.cacheOpAt_of_uncached (h : p.alg = 2#3 ∨ p.alg = 7#3) : s.cacheOpAt a k (.ok p) = .fault .cacheOpUncached := by
  unfold State.cacheOpAt
  dsimp only
  rcases h with h | h <;> (rw [h]; rfl)

/-- R218. -/
theorem State.cacheOpAt_of_reserved (h : p.alg = 0#3 ∨ p.alg = 1#3 ∨ p.alg = 6#3) :
    s.cacheOpAt a k (.ok p) = .fault .reservedCacheAlgorithm := by
  unfold State.cacheOpAt
  dsimp only
  rcases h with h | h | h <;> (rw [h]; rfl)

/-- R541. -/
theorem State.cacheOpAt_of_outgoing {s : State} (cached : algCached p.alg = true) (h : s.bus.outgoing ≠ []) :
    s.cacheOpAt a k (.ok p) = .next s.waitHere := by
  unfold State.cacheOpAt
  dsimp only
  rw [if_neg (Bool.eq_false_iff.1 (algReserved_of_cached cached)), if_pos cached, if_neg (mt List.isEmpty_iff.1 h)]
end

/-! ## The operations -/

/-- The instruction is an operation of the CACHE instruction on the address of base and offset, an Index operation or not. -/
def OperatesOn (base : BitVec 5) (off : BitVec 16) (index : Bool) (i : Instr) : Prop :=
  ∀ s, ∃ k, exec i s = s.cacheOp (s.ea base off) index k

section
variable (base : BitVec 5) (off : BitVec 16)

/-- The operations that are no Index operation. -/
def blockOperations : List Instr :=
  [.cacheHitInvalidateI base off, .cacheBarrier base off, .cacheHitInvalidateD base off,
    .cacheHitWritebackInvalidateD base off, .cacheHitInvalidateS base off, .cacheHitWritebackInvalidateS base off]

/-- The Index operations. -/
def indexOperations : List Instr :=
  [.cacheIndexInvalidateI base off, .cacheIndexWritebackInvalidateD base off, .cacheIndexWritebackInvalidateS base off,
    .cacheIndexLoadTagI base off, .cacheIndexLoadTagD base off, .cacheIndexLoadTagS base off,
    .cacheIndexStoreTagI base off, .cacheIndexStoreTagD base off, .cacheIndexStoreTagS base off,
    .cacheIndexLoadDataI base off, .cacheIndexLoadDataD base off, .cacheIndexLoadDataS base off,
    .cacheIndexStoreDataI base off, .cacheIndexStoreDataD base off, .cacheIndexStoreDataS base off]

theorem cacheInstructions_cases : ∀ i ∈ cacheInstructions base off, i ∈ indexOperations base off ∨ i ∈ blockOperations base off := by
  simp [cacheInstructions, indexOperations, blockOperations]

theorem blockOperations_operate : ∀ i ∈ blockOperations base off, OperatesOn base off false i := by
  simp only [blockOperations, List.forall_mem_cons, List.not_mem_nil, false_implies, implies_true, and_true]
  exact ⟨fun s => ⟨_, (rfl : execCacheHitInvalidateI base off s = s.cacheOp _ _ _)⟩,
    fun s => ⟨_, (rfl : execCacheBarrier base off s = s.cacheOp _ _ _)⟩,
    fun s => ⟨_, (rfl : execCacheHitInvalidateD base off s = s.cacheOp _ _ _)⟩,
    fun s => ⟨_, (rfl : execCacheHitWritebackInvalidateD base off s = s.cacheOp _ _ _)⟩,
    fun s => ⟨_, (rfl : execCacheHitInvalidateS base off s = s.cacheOp _ _ _)⟩,
    fun s => ⟨_, (rfl : execCacheHitWritebackInvalidateS base off s = s.cacheOp _ _ _)⟩⟩

theorem OperatesOn.of_index {base : BitVec 5} {off : BitVec 16} {i : Instr} {f : State → DWord → PAddr → State}
    (h : ∀ s, exec i s = s.cacheIndex (s.ea base off) f) : OperatesOn base off true i := fun s => ⟨_, h s⟩

theorem indexOperations_operate : ∀ i ∈ indexOperations base off, OperatesOn base off true i := by
  simp only [indexOperations, List.forall_mem_cons, List.not_mem_nil, false_implies, implies_true, and_true]
  exact ⟨.of_index fun s => (rfl : execCacheIndexInvalidateI base off s = s.cacheIndex _ _),
    .of_index fun s => (rfl : execCacheIndexWritebackInvalidateD base off s = s.cacheIndex _ _),
    .of_index fun s => (rfl : execCacheIndexWritebackInvalidateS base off s = s.cacheIndex _ _),
    .of_index fun s => (rfl : execCacheIndexLoadTagI base off s = s.cacheIndex _ _),
    .of_index fun s => (rfl : execCacheIndexLoadTagD base off s = s.cacheIndex _ _),
    .of_index fun s => (rfl : execCacheIndexLoadTagS base off s = s.cacheIndex _ _),
    .of_index fun s => (rfl : execCacheIndexStoreTagI base off s = s.cacheIndex _ _),
    .of_index fun s => (rfl : execCacheIndexStoreTagD base off s = s.cacheIndex _ _),
    .of_index fun s => (rfl : execCacheIndexStoreTagS base off s = s.cacheIndex _ _),
    .of_index fun s => (rfl : execCacheIndexLoadDataI base off s = s.cacheIndex _ _),
    .of_index fun s => (rfl : execCacheIndexLoadDataD base off s = s.cacheIndex _ _),
    .of_index fun s => (rfl : execCacheIndexLoadDataS base off s = s.cacheIndex _ _),
    .of_index fun s => (rfl : execCacheIndexStoreDataI base off s = s.cacheIndex _ _),
    .of_index fun s => (rfl : execCacheIndexStoreDataD base off s = s.cacheIndex _ _),
    .of_index fun s => (rfl : execCacheIndexStoreDataS base off s = s.cacheIndex _ _)⟩

end

/-- Settles O50: every operation begins with the same tests, and each of them ends it in one way. -/
theorem cacheOperationsTrapOrStopWhereTheAddressIsUnusable : Obligations.CacheOperationsTrapOrStopWhereTheAddressIsUnusable := by
  intro s base off usable a notIndex
  refine ⟨fun high i hi => ?bit1, fun low i hi => ?bit0, fun high i hi low => ?translated⟩
  case bit1 =>
    obtain ⟨index, k, run⟩ : ∃ index k, exec i s = s.cacheOp (s.ea base off) index k :=
      (cacheInstructions_cases base off i hi).elim (fun h => ⟨true, indexOperations_operate base off i h s⟩)
        fun h => ⟨false, blockOperations_operate base off i h s⟩
    exact run.trans (State.cacheOp_of_misaligned usable k (.inl high))
  case bit0 =>
    obtain ⟨k, run⟩ := blockOperations_operate base off i hi s
    exact run.trans (State.cacheOp_of_misaligned usable k (.inr ⟨rfl, low⟩))
  case translated =>
    obtain ⟨k, run⟩ : ∃ k, exec i s = s.cacheOpAt a k (s.translate a .cacheOp) := by
      rcases cacheInstructions_cases base off i hi with h | h
      · obtain ⟨k, run⟩ := indexOperations_operate base off i h s
        exact ⟨k, run.trans (State.cacheOp_of_aligned usable k high fun _ => rfl)⟩
      · obtain ⟨k, run⟩ := blockOperations_operate base off i h s
        exact ⟨k, run.trans (State.cacheOp_of_aligned usable k high fun h0 => absurd h (low h0))⟩
    refine ⟨fun e => ?_, fun e => ?_, fun e => ?_, fun p e => ⟨fun uncached => ?_, fun cached waits => ?_, fun reserved => ?_⟩⟩
    all_goals rw [run, e]
    · rfl
    · rfl
    · rfl
    · exact s.cacheOpAt_of_uncached a k uncached
    · exact State.cacheOpAt_of_outgoing a k cached waits
    · exact s.cacheOpAt_of_reserved a k reserved

end Sys2Proof.Machine

end

section
/-! PROOFS. The Index Store and Index Load operations of the CACHE instruction (R560 to R575): what TagLo, TagHi and ECC say of an entry that was
stored from them, and that a load reads the entry that the store of the same address wrote. -/

namespace Sys2Proof.Machine

/-! ## Bits under a mask -/

theorem eq_and_of_bits {x w m : Word} {p : Nat → Bool} (mask : ∀ k < 32, m.getLsbD k = p k)
    (bits : ∀ k < 32, x.getLsbD k = (w.getLsbD k && p k)) : x = w &&& m :=
  BitVec.eq_of_getLsbD_eq fun k hk => by rw [bits k hk, BitVec.getLsbD_and, mask k hk]

theorem zero_append_low_four (w : Word) : (0#28 ++ w.extractLsb' 0 4 : BitVec (28 + 4)) = w &&& 0xF#32 := by
  refine eq_and_of_bits (p := fun k => decide (k < 4)) (by decide) fun k hk => BitVec.getLsbD_append.trans ?_
  rw [BitVec.getLsbD_extractLsb', BitVec.getLsbD_zero]
  grind

theorem low_ten_setWidth (w : Word) : (w.extractLsb' 0 10).setWidth 32 = w &&& 0x3FF#32 := by
  refine eq_and_of_bits (p := fun k => decide (k < 10)) (by decide) fun k hk => ?_
  rw [BitVec.getLsbD_setWidth, BitVec.getLsbD_extractLsb']
  grind

theorem low_four_setWidth (w : Word) : ((w.extractLsb' 0 4).setWidth 10).setWidth 32 = w &&& 0xF#32 := by
  refine eq_and_of_bits (p := fun k => decide (k < 4)) (by decide) fun k hk => ?_
  rw [BitVec.getLsbD_setWidth, BitVec.getLsbD_setWidth, BitVec.getLsbD_extractLsb']
  grind

theorem low_bit_setWidth (w : Word) : (0#9 ++ BitVec.ofBool (w.getLsbD 0) : BitVec 10).setWidth 32 = w &&& 0x1#32 := by
  refine eq_and_of_bits (p := fun k => decide (k = 0)) (by decide) fun k hk => ?_
  rw [BitVec.getLsbD_setWidth]
  refine (congrArg _ BitVec.getLsbD_append).trans ?_
  rw [BitVec.getLsbD_ofBool, BitVec.getLsbD_zero]
  grind

/-! ## What the registers say of a stored tag (R165, R560 to R565) -/

theorem tagTop_append (x : BitVec 4) (y : BitVec 24) : tagTop (x ++ y) = x := BitVec.extractLsb'_append_eq_left

theorem BlockState.bits_ofBits (b : BitVec 2) : (BlockState.ofBits b).bits = b := by
  revert b
  decide

theorem BlockState.ofBits_eq_invalid_iff (b : BitVec 2) : BlockState.ofBits b = .invalid ↔ b = 0#2 := by
  revert b
  decide

/-- TagLo of an instruction tag. -/
theorem iTagLo_eq (lo : Word) : (lo.extractLsb' 8 24 ++ 0#1 ++ BitVec.ofBool (lo.getLsbD 6) ++ 0#2 ++
    BitVec.ofBool (lo.getLsbD 3) ++ BitVec.ofBool (lo.getLsbD 2) ++ 0#1 ++ BitVec.ofBool (lo.getLsbD 0) :
    BitVec (24 + 1 + 1 + 2 + 1 + 1 + 1 + 1)) = lo &&& 0xFFFFFF4D#32 := by
  refine eq_and_of_bits (p := fun k => decide (k = 0 ∨ k = 2 ∨ k = 3 ∨ k = 6 ∨ 8 ≤ k)) (by decide) fun k hk =>
    BitVec.getLsbD_append.trans ?_
  simp only [BitVec.getLsbD_append, BitVec.getLsbD_ofBool, BitVec.getLsbD_extractLsb', BitVec.getLsbD_zero]
  grind

/-- TagLo of a data tag. -/
theorem dTagLo_eq (lo : Word) : (lo.extractLsb' 8 24 ++ lo.extractLsb' 6 2 ++ 0#2 ++
    BitVec.ofBool (lo.getLsbD 3) ++ BitVec.ofBool (lo.getLsbD 2) ++ BitVec.ofBool (lo.getLsbD 1) ++ BitVec.ofBool (lo.getLsbD 0) :
    BitVec (24 + 2 + 2 + 1 + 1 + 1 + 1)) = lo &&& 0xFFFFFFCF#32 := by
  refine eq_and_of_bits (p := fun k => decide (k < 4 ∨ 6 ≤ k)) (by decide) fun k hk =>
    BitVec.getLsbD_append.trans ?_
  simp only [BitVec.getLsbD_append, BitVec.getLsbD_ofBool, BitVec.getLsbD_extractLsb', BitVec.getLsbD_zero]
  grind

/-- TagHi of a data tag. -/
theorem dTagHi_eq (hi : Word) : (hi.extractLsb' 29 3 ++ 0#25 ++ hi.extractLsb' 0 4 : BitVec (3 + 25 + 4)) = hi &&& 0xE000000F#32 := by
  refine eq_and_of_bits (p := fun k => decide (k < 4 ∨ 29 ≤ k)) (by decide) fun k hk =>
    BitVec.getLsbD_append.trans ?_
  simp only [BitVec.getLsbD_append, BitVec.getLsbD_extractLsb', BitVec.getLsbD_zero]
  grind

/-- TagLo of a secondary tag. -/
theorem sTagLo_eq (lo : Word) : (lo.extractLsb' 14 18 ++ 0#2 ++ lo.extractLsb' 10 2 ++ 0#1 ++ lo.extractLsb' 7 2 ++ lo.extractLsb' 0 7 :
    BitVec (18 + 2 + 2 + 1 + 2 + 7)) = lo &&& 0xFFFFCDFF#32 := by
  refine eq_and_of_bits (p := fun k => decide (k < 9 ∨ k = 10 ∨ k = 11 ∨ 14 ≤ k)) (by decide) fun k hk =>
    BitVec.getLsbD_append.trans ?_
  simp only [BitVec.getLsbD_append, BitVec.getLsbD_extractLsb', BitVec.getLsbD_zero]
  grind

/-- TagHi of a secondary tag. -/
theorem sTagHi_eq (hi : Word) : (BitVec.ofBool (hi.getLsbD 31) ++ 0#27 ++ hi.extractLsb' 0 4 : BitVec (1 + 27 + 4)) = hi &&& 0x8000000F#32 := by
  refine eq_and_of_bits (p := fun k => decide (k < 4 ∨ k = 31)) (by decide) fun k hk =>
    BitVec.getLsbD_append.trans ?_
  simp only [BitVec.getLsbD_append, BitVec.getLsbD_ofBool, BitVec.getLsbD_extractLsb', BitVec.getLsbD_zero]
  grind

/-- What Index Store Tag (D) makes of TagHi (R1165). -/
def State.storedTagHi (s : State) : Word :=
  if s.params.storeTagNormal = true ∧ s.cp0.tagLo.extractLsb' 6 2 = 0#2 ∧ s.cp0.tagHi.extractLsb' 29 3 = 0#3 then
    s.cp0.tagHi ||| 0x20000000#32
  else s.cp0.tagHi

theorem State.storedTagHi_low (s : State) : s.storedTagHi.extractLsb' 0 4 = s.cp0.tagHi.extractLsb' 0 4 := by
  unfold State.storedTagHi
  split
  · rw [BitVec.extractLsb'_or]
    exact BitVec.or_zero
  · rfl

theorem State.storedMod_eq (s : State) : s.storedMod (.ofBits (s.cp0.tagLo.extractLsb' 6 2)) = s.storedTagHi.extractLsb' 29 3 := by
  unfold State.storedMod State.storedTagHi
  simp only [Bool.and_eq_true, beq_iff_eq, BlockState.ofBits_eq_invalid_iff, and_assoc]
  split
  · next normal =>
    obtain ⟨_, _, zero⟩ := normal
    rw [BitVec.extractLsb'_or, zero]
    rfl
  · rfl

/-- TagHi and TagLo as an Index Load shows an instruction tag and the LRU bit of its set. -/
def ITag.words (t : ITag) (lru : Bool) : Word × Word :=
  (0#28 ++ tagTop t.tag, t.tag.extractLsb' 0 24 ++ 0#1 ++ BitVec.ofBool t.valid ++ 0#2 ++ BitVec.ofBool lru ++
    BitVec.ofBool t.stateParity ++ 0#1 ++ BitVec.ofBool t.tagParity)

/-- As it shows a data tag and the LRU bit of its set. -/
def DTag.words (t : DTag) (lru : Bool) : Word × Word :=
  (t.mod ++ 0#25 ++ tagTop t.tag, t.tag.extractLsb' 0 24 ++ t.state.bits ++ 0#2 ++ BitVec.ofBool lru ++
    BitVec.ofBool t.stateParity ++ BitVec.ofBool t.scWay ++ BitVec.ofBool t.tagParity)

/-- As it shows a secondary tag and the MRU bit of its set. -/
def STag.words (t : STag) (mru : Bool) : Word × Word :=
  (BitVec.ofBool mru ++ 0#27 ++ t.tag.extractLsb' 18 4,
    t.tag.extractLsb' 0 18 ++ 0#2 ++ t.state.bits ++ 0#1 ++ t.pidx ++ t.eccBits)

/-- The instruction tag that TagHi and TagLo describe. -/
def Cp0.iTag (c : Cp0) : ITag := ⟨c.primaryTag, c.tagLo.getLsbD 6, c.tagLo.getLsbD 0, c.tagLo.getLsbD 2⟩

/-- The data tag that they describe. -/
def State.storedDTag (s : State) : DTag :=
  let l := s.cp0.tagLo
  let state := BlockState.ofBits (l.extractLsb' 6 2)
  ⟨s.cp0.primaryTag, state, s.storedMod state, l.getLsbD 1, l.getLsbD 0, l.getLsbD 2⟩

/-- The secondary tag that they describe. -/
def Cp0.sTag (c : Cp0) : STag :=
  ⟨c.tagHi.extractLsb' 0 4 ++ c.tagLo.extractLsb' 14 18, c.tagLo.extractLsb' 7 2, BlockState.ofBits (c.tagLo.extractLsb' 10 2),
    .given (c.tagLo.extractLsb' 0 7)⟩

theorem Cp0.primaryTag_low (c : Cp0) : c.primaryTag.extractLsb' 0 24 = c.tagLo.extractLsb' 8 24 := BitVec.extractLsb'_append_eq_right

theorem Cp0.words_iTag (c : Cp0) : c.iTag.words (c.tagLo.getLsbD 3) = (c.tagHi &&& 0xF#32, c.tagLo &&& 0xFFFFFF4D#32) := by
  rw [ITag.words, Cp0.iTag, c.primaryTag_low, Cp0.primaryTag, tagTop_append]
  exact Prod.ext (zero_append_low_four _) (iTagLo_eq _)

theorem State.words_storedDTag (s : State) :
    s.storedDTag.words (s.cp0.tagLo.getLsbD 3) = (s.storedTagHi &&& 0xE000000F#32, s.cp0.tagLo &&& 0xFFFFFFCF#32) := by
  rw [DTag.words, State.storedDTag, s.cp0.primaryTag_low, Cp0.primaryTag, tagTop_append, s.storedMod_eq, ← s.storedTagHi_low,
    BlockState.bits_ofBits]
  exact Prod.ext (dTagHi_eq _) (dTagLo_eq _)

theorem Cp0.words_sTag (c : Cp0) : c.sTag.words (c.tagHi.getLsbD 31) = (c.tagHi &&& 0x8000000F#32, c.tagLo &&& 0xFFFFCDFF#32) := by
  rw [STag.words, Cp0.sTag, BitVec.extractLsb'_append_eq_left, BitVec.extractLsb'_append_eq_right, BlockState.bits_ofBits]
  exact Prod.ext (sTagHi_eq _) (sTagLo_eq _)

/-- The quadword that Index Store Data (S) writes. -/
def Cp0.quad (c : Cp0) (pa : PAddr) : SQuad :=
  ⟨if pa.getLsbD 3 then 0#64 ++ (c.tagHi ++ c.tagLo) else (c.tagHi ++ c.tagLo) ++ 0#64, .given (c.ecc.extractLsb' 0 10)⟩

theorem Cp0.quadPart_quad (c : Cp0) (pa : PAddr) : quadPart (c.quad pa).data pa = c.tagHi ++ c.tagLo := by
  unfold quadPart Cp0.quad
  dsimp only
  split
  · exact BitVec.extractLsb'_append_eq_right
  · exact BitVec.extractLsb'_append_eq_left

/-! ## Reading the arrays after a write -/

section
variable {s : State} (h : s.canonical = true)
include h

theorem State.iTagAt_setITag (k : Nat) (t : ITag) : (s.setITag k t).iTagAt k = t :=
  (Sparse.get_set (State.canonical_iTag h) _ _ _).trans (if_pos rfl)

theorem State.iLruAt_setILru (i : Nat) (b : Bool) : (s.setILru i b).iLruAt i = b := by
  obtain ⟨_, _, _, _, wf, _⟩ := (State.canonical_iff s).1 h
  exact (Sparse.get_set wf _ _ _).trans (if_pos rfl)

theorem State.iWordAt_setIWord (k i : Nat) (w : IWord) : (s.setIWord k i w).iWordAt k i = w := by
  obtain ⟨_, _, _, wf, _⟩ := (State.canonical_iff s).1 h
  exact (Sparse.get_set wf _ _ _).trans (if_pos rfl)

theorem State.dLruAt_setDLru (i : Nat) (b : Bool) : (s.setDLru i b).dLruAt i = b := by
  obtain ⟨_, _, _, _, _, _, _, wf, _⟩ := (State.canonical_iff s).1 h
  exact (Sparse.get_set wf _ _ _).trans (if_pos rfl)

theorem State.mruAt_setMru (i : Nat) (b : Bool) : (s.setMru i b).mruAt i = b := by
  obtain ⟨_, _, _, _, _, _, _, _, _, _, wf⟩ := (State.canonical_iff s).1 h
  exact (Sparse.get_set wf _ _ _).trans (if_pos rfl)
end

/-! ## A store, and a load after it -/

/-- s with TagHi, TagLo and ECC as a load leaves them. -/
def State.shown (s : State) (hi lo ecc : Word) : State := { s with cp0 := { s.cp0 with tagLo := lo, tagHi := hi, ecc := ecc } }

theorem State.advance_shown (s : State) (hi lo ecc : Word) :
    (s.shown hi lo ecc).advance = { s.advance with cp0 := { s.cp0 with tagLo := lo, tagHi := hi, ecc := ecc } } := by
  unfold State.advance State.shown
  dsimp only
  split <;> rfl

/-- s with execution at p, in no delay slot. -/
def State.movedTo (s : State) (p : DWord) : State := { s with pc := p, delay := .none }

theorem State.advance_movedTo (s : State) : s.advance = s.movedTo s.advance.pc := s.advance_eq

/-- The store changes the caches alone, and the load after it the three registers alone, which show hi, lo and ecc. -/
def State.LoadsBack (s : State) (store load : Instr) (lo hi ecc : Word) : Prop :=
  ∃ t, exec store s = .next t ∧ t = { s.breakLink.advance with caches := t.caches } ∧
    exec load t = .next { t.advance with cp0 := { t.cp0 with tagLo := lo, tagHi := hi, ecc := ecc } }

section
variable {s : State} {base : BitVec 5} {off : BitVec 16} {pa : PAddr} (h : s.ReachesCaches (s.ea base off) pa)
include h

/-- An operation that moved the caches alone leaves the way open for the next one. -/
theorem State.ReachesCaches.again {t : State} (moved : t = { s.breakLink.advance with caches := t.caches }) :
    t.ReachesCaches (t.ea base off) pa ∧ t.dataAddress (t.ea base off) = s.dataAddress (s.ea base off) ∧ t.breakLink = t := by
  rw [State.advance_eq] at moved
  generalize t.caches = c at moved
  generalize s.breakLink.advance.pc = p at moved
  subst moved
  exact ⟨⟨h.usable, h.aligned, h.cached, h.outgoing⟩, rfl, rfl⟩

theorem State.ReachesCaches.loadsBack {store load : Instr} {f g : State → DWord → PAddr → State} {lo hi ecc : Word} {u : State}
    (stores : exec store s = s.cacheIndex (s.ea base off) f) (loads : ∀ t, exec load t = t.cacheIndex (t.ea base off) g)
    (stored : f s.breakLink (s.dataAddress (s.ea base off)) pa = u) (moved : u = { s.breakLink with caches := u.caches })
    (shows : ∀ p, g (u.movedTo p) (s.dataAddress (s.ea base off)) pa = (u.movedTo p).shown hi lo ecc) :
    s.LoadsBack store load lo hi ecc := by
  have framed := State.advance_of_caches moved
  obtain ⟨reaches, address, broken⟩ := h.again framed
  refine ⟨u.advance, stores.trans ((h.cacheIndex f).trans (by rw [stored])), framed, (loads _).trans ((reaches.cacheIndex g).trans ?_)⟩
  rw [broken, address, u.advance_movedTo, shows, State.advance_shown]

/-- A load alone changes the three registers, and may learn what predecoded bits mean. -/
theorem State.ReachesCaches.indexLoad {load : Instr} {g : State → DWord → PAddr → State} {hi lo ecc : Word} {p : List (BitVec 36 × Word)}
    (loads : exec load s = s.cacheIndex (s.ea base off) g)
    (shows : g s.breakLink (s.dataAddress (s.ea base off)) pa =
      ({ s.breakLink with caches := { s.caches with predecoded := p } } : State).shown hi lo ecc) :
    ∃ t, exec load s = .next t ∧ t = { s.breakLink.advance with
      caches := { s.caches with predecoded := t.caches.predecoded }
      cp0 := { s.cp0 with tagLo := t.cp0.tagLo, tagHi := t.cp0.tagHi, ecc := t.cp0.ecc } } := by
  refine ⟨_, loads.trans (h.cacheIndex g), ?_⟩
  rw [shows, State.advance_shown, State.advance_of_caches (s := s.breakLink) rfl, State.advance_eq s.breakLink, State.advance_caches]
  rfl

end

/-! ## What the registers show of a data word (R570 to R572) -/

theorem State.learn_eq (s : State) (x : IBits) : ∃ p, s.learn x = { s with caches := { s.caches with predecoded := p } } := by
  unfold State.learn
  split
  · dsimp only
    split <;> exact ⟨_, rfl⟩
  · exact ⟨_, rfl⟩

/-- s with an instruction word as Index Load Data (I) shows it. -/
def State.shownIWord (s : State) (x : IWord) : State :=
  (s.learn x.bits).shown (0#28 ++ x.bits.value.extractLsb' 32 4) (x.bits.value.extractLsb' 0 32)
    ((0#9 ++ BitVec.ofBool (x.parity.getD (parityBit x.bits.value)) : BitVec 10).setWidth 32)

theorem State.shownIWord_raw (s : State) (hi lo ecc : Word) :
    s.shownIWord ⟨.raw (hi.extractLsb' 0 4 ++ lo), some (ecc.getLsbD 0)⟩ = s.shown (hi &&& 0xF#32) lo (ecc &&& 0x1#32) := by
  have value : (IBits.raw (hi.extractLsb' 0 4 ++ lo)).value = hi.extractLsb' 0 4 ++ lo := rfl
  rw [State.shownIWord, value, BitVec.extractLsb'_append_eq_left, BitVec.extractLsb'_append_eq_right, zero_append_low_four, Option.getD_some,
    low_bit_setWidth]
  rfl

/-- s with a data word as Index Load Data (D) shows it. -/
def State.shownDLine (s : State) (x : DLine) : State :=
  s.shown (if Config.indexLoadKeepsTagHi s.ctr then s.cp0.tagHi else 0) x.data ((x.parity.setWidth 10).setWidth 32)

/-- s with the doubleword of a quadword that pa names as Index Load Data (S) shows it. -/
def State.shownQuad (s : State) (pa : PAddr) (q : SQuad) : State :=
  s.shown (high32 (quadPart q.data pa)) (low32 (quadPart q.data pa)) (q.checkBits.setWidth 32)

theorem State.shownQuad_quad (s : State) (c : Cp0) (pa : PAddr) :
    s.shownQuad pa (c.quad pa) = s.shown c.tagHi c.tagLo (c.ecc &&& 0x3FF#32) := by
  have check : (c.quad pa).checkBits = c.ecc.extractLsb' 0 10 := rfl
  have high : high32 (c.tagHi ++ c.tagLo) = c.tagHi := BitVec.extractLsb'_append_eq_left
  have low : low32 (c.tagHi ++ c.tagLo) = c.tagLo := BitVec.extractLsb'_append_eq_right
  rw [State.shownQuad, c.quadPart_quad, high, low, check, low_ten_setWidth]

/-! ## The operations, each by what it stores or shows -/

section
variable (base : BitVec 5) (off : BitVec 16) (s : State)

theorem exec_cacheIndexStoreTagI : exec (.cacheIndexStoreTagI base off) s = s.cacheIndex (s.ea base off) fun s a _ =>
    (s.setITag (wayKey (iSet a) (wayOf a)) s.cp0.iTag).setILru (iSet a) (s.cp0.tagLo.getLsbD 3) :=
  (rfl : execCacheIndexStoreTagI base off s = _)

theorem exec_cacheIndexLoadTagI : exec (.cacheIndexLoadTagI base off) s = s.cacheIndex (s.ea base off) fun s a _ =>
    let x := (s.iTagAt (wayKey (iSet a) (wayOf a))).words (s.iLruAt (iSet a))
    s.shown x.1 x.2 s.cp0.ecc :=
  (rfl : execCacheIndexLoadTagI base off s = _)

theorem exec_cacheIndexStoreTagD : exec (.cacheIndexStoreTagD base off) s = s.cacheIndex (s.ea base off) fun s a _ =>
    (s.setDTag (wayKey (dSet a) (wayOf a)) s.storedDTag).setDLru (dSet a) (s.cp0.tagLo.getLsbD 3) :=
  (rfl : execCacheIndexStoreTagD base off s = _)

theorem exec_cacheIndexLoadTagD : exec (.cacheIndexLoadTagD base off) s = s.cacheIndex (s.ea base off) fun s a _ =>
    let x := (s.dTagAt (wayKey (dSet a) (wayOf a))).words (s.dLruAt (dSet a))
    s.shown x.1 x.2 s.cp0.ecc :=
  (rfl : execCacheIndexLoadTagD base off s = _)

theorem exec_cacheIndexStoreTagS : exec (.cacheIndexStoreTagS base off) s = s.cacheIndex (s.ea base off) fun s a pa =>
    (s.setSTag (s.sKey pa (wayOf a)) s.cp0.sTag).setMru (s.mruIndex pa) (s.cp0.tagHi.getLsbD 31) :=
  (rfl : execCacheIndexStoreTagS base off s = _)

theorem exec_cacheIndexLoadTagS : exec (.cacheIndexLoadTagS base off) s = s.cacheIndex (s.ea base off) fun s a pa =>
    let x := (s.sTagAt (s.sKey pa (wayOf a))).words (s.mruAt (s.mruIndex pa))
    s.shown x.1 x.2 s.cp0.ecc :=
  (rfl : execCacheIndexLoadTagS base off s = _)

theorem exec_cacheIndexStoreDataI : exec (.cacheIndexStoreDataI base off) s = s.cacheIndex (s.ea base off) fun s a _ =>
    s.setIWord (wayKey (iSet a) (wayOf a)) (iIndex a)
      ⟨.raw (s.cp0.tagHi.extractLsb' 0 4 ++ s.cp0.tagLo), some (s.cp0.ecc.getLsbD 0)⟩ :=
  (rfl : execCacheIndexStoreDataI base off s = _)

theorem exec_cacheIndexLoadDataI : exec (.cacheIndexLoadDataI base off) s = s.cacheIndex (s.ea base off) fun s a _ =>
    s.shownIWord (s.iWordAt (wayKey (iSet a) (wayOf a)) (iIndex a)) :=
  (rfl : execCacheIndexLoadDataI base off s = _)

theorem exec_cacheIndexStoreDataD : exec (.cacheIndexStoreDataD base off) s = s.cacheIndex (s.ea base off) fun s a _ =>
    s.setDWord (wayKey (dSet a) (wayOf a)) (a.extractLsb' 2 3).toNat ⟨s.cp0.tagLo, s.cp0.ecc.extractLsb' 0 4⟩ :=
  (rfl : execCacheIndexStoreDataD base off s = _)

theorem exec_cacheIndexLoadDataD : exec (.cacheIndexLoadDataD base off) s = s.cacheIndex (s.ea base off) fun s a _ =>
    s.shownDLine (s.dWordAt (wayKey (dSet a) (wayOf a)) (a.extractLsb' 2 3).toNat) :=
  (rfl : execCacheIndexLoadDataD base off s = _)

theorem exec_cacheIndexStoreDataS : exec (.cacheIndexStoreDataS base off) s = s.cacheIndex (s.ea base off) fun s a pa =>
    s.setSQuad (s.sKey pa (wayOf a)) (s.sQuadIndex pa) (s.cp0.quad pa) :=
  (rfl : execCacheIndexStoreDataS base off s = _)

theorem exec_cacheIndexLoadDataS : exec (.cacheIndexLoadDataS base off) s = s.cacheIndex (s.ea base off) fun s a pa =>
    s.shownQuad pa (s.sQuadAt (s.sKey pa (wayOf a)) (s.sQuadIndex pa)) :=
  (rfl : execCacheIndexLoadDataS base off s = _)
end

/-! ## The round trips -/

section
variable {s : State} {base : BitVec 5} {off : BitVec 16} {pa : PAddr} (hc : s.canonical = true) (h : s.ReachesCaches (s.ea base off) pa)
include hc h

theorem State.ReachesCaches.loadsBack_tagI : s.LoadsBack (.cacheIndexStoreTagI base off) (.cacheIndexLoadTagI base off)
    (s.cp0.tagLo &&& 0xFFFFFF4D#32) (s.cp0.tagHi &&& 0xF#32) s.cp0.ecc := by
  refine h.loadsBack (exec_cacheIndexStoreTagI base off s) (exec_cacheIndexLoadTagI base off) rfl rfl fun p => ?_
  have tag (k : Nat) := State.iTagAt_setITag (s := s.breakLink) hc k s.cp0.iTag
  have lru (i : Nat) := State.iLruAt_setILru (s := s.breakLink) hc i (s.cp0.tagLo.getLsbD 3)
  exact congrArg (fun x : Word × Word => State.shown _ x.1 x.2 s.cp0.ecc) ((congrArg₂ ITag.words (tag _) (lru _)).trans s.cp0.words_iTag)

theorem State.ReachesCaches.loadsBack_tagD : s.LoadsBack (.cacheIndexStoreTagD base off) (.cacheIndexLoadTagD base off)
    (s.cp0.tagLo &&& 0xFFFFFFCF#32) (s.storedTagHi &&& 0xE000000F#32) s.cp0.ecc := by
  refine h.loadsBack (exec_cacheIndexStoreTagD base off s) (exec_cacheIndexLoadTagD base off) rfl rfl fun p => ?_
  have tag (k : Nat) := (State.dTagAt_setDTag (s := s.breakLink) hc k k s.storedDTag).trans (if_pos rfl)
  have lru (i : Nat) := State.dLruAt_setDLru (s := s.breakLink) hc i (s.cp0.tagLo.getLsbD 3)
  exact congrArg (fun x : Word × Word => State.shown _ x.1 x.2 s.cp0.ecc) ((congrArg₂ DTag.words (tag _) (lru _)).trans s.words_storedDTag)

theorem State.ReachesCaches.loadsBack_tagS : s.LoadsBack (.cacheIndexStoreTagS base off) (.cacheIndexLoadTagS base off)
    (s.cp0.tagLo &&& 0xFFFFCDFF#32) (s.cp0.tagHi &&& 0x8000000F#32) s.cp0.ecc := by
  refine h.loadsBack (exec_cacheIndexStoreTagS base off s) (exec_cacheIndexLoadTagS base off) rfl rfl fun p => ?_
  have tag (k : Nat) := (State.sTagAt_setSTag (s := s.breakLink) hc k k s.cp0.sTag).trans (if_pos rfl)
  have mru (i : Nat) := State.mruAt_setMru (s := s.breakLink) hc i (s.cp0.tagHi.getLsbD 31)
  exact congrArg (fun x : Word × Word => State.shown _ x.1 x.2 s.cp0.ecc) ((congrArg₂ STag.words (tag _) (mru _)).trans s.cp0.words_sTag)

theorem State.ReachesCaches.loadsBack_dataI : s.LoadsBack (.cacheIndexStoreDataI base off) (.cacheIndexLoadDataI base off)
    s.cp0.tagLo (s.cp0.tagHi &&& 0xF#32) (s.cp0.ecc &&& 0x1#32) := by
  refine h.loadsBack (exec_cacheIndexStoreDataI base off s) (exec_cacheIndexLoadDataI base off) rfl rfl fun p => ?_
  have word (k i : Nat) := State.iWordAt_setIWord (s := s.breakLink) hc k i
    ⟨.raw (s.cp0.tagHi.extractLsb' 0 4 ++ s.cp0.tagLo), some (s.cp0.ecc.getLsbD 0)⟩
  exact (congrArg (State.shownIWord _) (word _ _)).trans (State.shownIWord_raw ..)

theorem State.ReachesCaches.loadsBack_dataD : s.LoadsBack (.cacheIndexStoreDataD base off) (.cacheIndexLoadDataD base off)
    s.cp0.tagLo (if Config.indexLoadKeepsTagHi s.ctr then s.cp0.tagHi else 0#32) (s.cp0.ecc &&& 0xF#32) := by
  refine h.loadsBack (exec_cacheIndexStoreDataD base off s) (exec_cacheIndexLoadDataD base off) rfl rfl fun p => ?_
  have word (k i : Nat) := (State.dWordAt_setDWord (s := s.breakLink) hc k i k i ⟨s.cp0.tagLo, s.cp0.ecc.extractLsb' 0 4⟩).trans (if_pos rfl)
  exact (congrArg (State.shownDLine _) (word _ _)).trans (congrArg (State.shown _ _ _) (low_four_setWidth _))

theorem State.ReachesCaches.loadsBack_dataS : s.LoadsBack (.cacheIndexStoreDataS base off) (.cacheIndexLoadDataS base off)
    s.cp0.tagLo s.cp0.tagHi (s.cp0.ecc &&& 0x3FF#32) := by
  refine h.loadsBack (exec_cacheIndexStoreDataS base off s) (exec_cacheIndexLoadDataS base off) rfl rfl fun p => ?_
  have quad (k q : Nat) := (State.sQuadAt_setSQuad (s := s.breakLink) hc k q k q (s.cp0.quad pa)).trans (if_pos rfl)
  exact (congrArg (State.shownQuad _ pa) (quad _ _)).trans (State.shownQuad_quad ..)
end

/-- Settles O47: an Index Load shows the entry that the Index Store of the same address wrote, and what it shows of it are the words that the
entry was made from. -/
theorem whatIsStoredIntoTheCacheArraysIsLoadedBack : Obligations.WhatIsStoredIntoTheCacheArraysIsLoadedBack := by
  intro s base off pa hc h lo hi ecc hiD back
  refine ⟨h.loadsBack_tagI hc, h.loadsBack_tagD hc, h.loadsBack_tagS hc, h.loadsBack_dataI hc, ?dataD, h.loadsBack_dataS hc, ?loads⟩
  case dataD =>
    have loaded := h.loadsBack_dataD hc
    split at loaded
    · exact .inl loaded
    · exact .inr loaded
  case loads =>
    let a := s.dataAddress (s.ea base off)
    obtain ⟨p, learnt⟩ := s.breakLink.learn_eq (s.iWordAt (wayKey (iSet a) (wayOf a)) (iIndex a)).bits
    simp only [List.forall_mem_cons, List.not_mem_nil, false_implies, implies_true, and_true]
    exact ⟨h.indexLoad (exec_cacheIndexLoadTagI base off s) rfl, h.indexLoad (exec_cacheIndexLoadTagD base off s) rfl,
      h.indexLoad (exec_cacheIndexLoadTagS base off s) rfl,
      h.indexLoad (exec_cacheIndexLoadDataI base off s) (congrArg (State.shown · _ _ _) learnt),
      h.indexLoad (exec_cacheIndexLoadDataD base off s) rfl, h.indexLoad (exec_cacheIndexLoadDataS base off s) rfl⟩

end Sys2Proof.Machine

end

section
/-! PROOFS. The TLB instructions (R92, R207, R595 to R598): what a write leaves in each slot and in Status, the words that TLBR makes of an
entry, and which slots a probe finds. -/

namespace Sys2Proof.Machine

/-! ## Completing -/

/-- An update that says nothing of the pc and of the branch-delay state commutes with falling through. -/
theorem State.advance_update {s : State} {f : State → State} (pc : (f s).pc = s.pc) (delay : (f s).delay = s.delay)
    (moved : ∀ p, f (s.movedTo p) = (f s).movedTo p) : (f s).advance = f s.advance := by
  rw [(f s).advance_movedTo, s.advance_movedTo, moved, State.advance_pc_congr pc delay]

/-! ## What the instructions run -/

theorem exec_tlbwi {s : State} (h : s.cp0Usable = true) : exec .tlbwi s = s.tlbWriteAt (s.cp0.index.extractLsb' 0 6) :=
  State.requireCp0_of_usable h _

theorem exec_tlbwr {s : State} (h : s.cp0Usable = true) : exec .tlbwr s = s.tlbWriteAt s.cp0.random :=
  State.requireCp0_of_usable h _

theorem exec_tlbr {s : State} (h : s.cp0Usable = true) : exec .tlbr s = .next s.tlbRead.advance :=
  State.requireCp0_of_usable h _

theorem exec_tlbp {s : State} (h : s.cp0Usable = true) : exec .tlbp s = .next s.tlbProbe.advance :=
  State.requireCp0_of_usable h _

/-- The seven page sizes (R92). -/
theorem maskLegal_iff (m : BitVec 12) :
    maskLegal m = true ↔ m ∈ [0x000#12, 0x003#12, 0x00F#12, 0x03F#12, 0x0FF#12, 0x3FF#12, 0xFFF#12] := by
  simp only [maskLegal, Bool.or_eq_true, beq_iff_eq, List.mem_cons, List.not_mem_nil, or_false, or_assoc]

theorem State.tlbWriteAt_of_legal {s : State} (h : maskLegal (s.cp0.pageMask.extractLsb' 13 12) = true) (i : BitVec 6) :
    s.tlbWriteAt i = .next (s.tlbWrite i).advance := if_pos h

theorem State.tlbWriteAt_of_illegal {s : State} (h : ¬ maskLegal (s.cp0.pageMask.extractLsb' 13 12) = true) (i : BitVec 6) :
    s.tlbWriteAt i = .fault .pageMaskInvalid := if_neg h

theorem State.eq_of_tlbWriteAt {s t : State} {i : BitVec 6} (h : s.tlbWriteAt i = .next t) : t = (s.tlbWrite i).advance := by
  by_cases legal : maskLegal (s.cp0.pageMask.extractLsb' 13 12) = true
  · rw [State.tlbWriteAt_of_legal legal] at h
    cases h
    rfl
  · rw [State.tlbWriteAt_of_illegal legal] at h
    cases h

/-! ## Overlap (R207) -/

theorem TlbEntry.overlaps_iff (a b : TlbEntry) : a.overlaps b = true ↔ a.r = b.r ∧
    (∀ i < 31, (a.mask ||| b.mask).getLsbD i = false → a.vpn2.getLsbD i = b.vpn2.getLsbD i) ∧
    (a.g = true ∨ b.g = true ∨ a.asid = b.asid) := by
  rw [← maskVpn_eq_iff]
  simp [TlbEntry.overlaps, and_assoc, or_assoc]

theorem TlbEntry.hits_iff (e : TlbEntry) (r : BitVec 2) (vpn2 : BitVec 31) (asid : BitVec 8) : e.hits r vpn2 asid = true ↔
    e.dead = false ∧ e.r = r ∧ (∀ i < 31, e.mask.getLsbD i = false → e.vpn2.getLsbD i = vpn2.getLsbD i) ∧
    (e.g = true ∨ e.asid = asid) := by
  rw [← maskVpn_eq_iff]
  simp [TlbEntry.hits, and_assoc]

/-- VPN2 of the entry that a write presents has no bit under MASK; outside it is EntryHi's (R597). -/
theorem Cp0.tlbEntry_vpn2 (c : Cp0) {i : Nat} (hi : i < 31) : c.tlbEntry.vpn2.getLsbD i =
    (c.entryHi.getLsbD (13 + i) && !c.tlbEntry.mask.getLsbD i) := by
  simp [Cp0.tlbEntry, maskVpn, hi]

/-- The conjunction of both G bits, as a word. -/
def Cp0.gWord (c : Cp0) : DWord := c.entryLo0 &&& c.entryLo1 &&& 1#64

theorem Cp0.gWord_eq (c : Cp0) : c.gWord = (BitVec.ofBool c.tlbEntry.g).setWidth 64 := by
  apply BitVec.eq_of_getLsbD_eq
  intro i hi
  simp only [Cp0.gWord, Cp0.tlbEntry, BitVec.getLsbD_and, BitVec.getLsbD_one, BitVec.getLsbD_setWidth, BitVec.getLsbD_ofBool]
  by_cases h : i = 0
  · subst h
    simp
  · simp [h]

theorem Cp0.tlbEntry_g_iff (c : Cp0) : c.tlbEntry.g = true ↔ c.gWord = 1#64 := by
  rw [c.gWord_eq]
  cases c.tlbEntry.g <;> decide

/-- A live entry that dies when `c.tlbEntry` is written to another slot, bit by bit. -/
def Cp0.Clashes (c : Cp0) (e : TlbEntry) : Prop :=
  e.dead = false ∧ e.r = c.entryHi.extractLsb' 62 2 ∧
    (∀ i < 31, (e.mask ||| c.pageMask.extractLsb' 13 12).getLsbD i = false → e.vpn2.getLsbD i = c.entryHi.getLsbD (13 + i)) ∧
    (e.g = true ∨ c.gWord = 1#64 ∨ e.asid = c.entryHi.extractLsb' 0 8)

theorem Cp0.clashes_iff (c : Cp0) (e : TlbEntry) : c.Clashes e ↔ e.dead = false ∧ e.overlaps c.tlbEntry = true := by
  have vpn : (∀ i < 31, (e.mask ||| c.tlbEntry.mask).getLsbD i = false → e.vpn2.getLsbD i = c.tlbEntry.vpn2.getLsbD i) ↔
      ∀ i < 31, (e.mask ||| c.tlbEntry.mask).getLsbD i = false → e.vpn2.getLsbD i = c.entryHi.getLsbD (13 + i) := by
    refine forall₂_congr fun i hi => imp_congr_right fun clear => ?_
    rw [BitVec.getLsbD_or, Bool.or_eq_false_iff] at clear
    rw [c.tlbEntry_vpn2 hi, clear.2, Bool.not_false, Bool.and_true]
  rw [TlbEntry.overlaps_iff, vpn, c.tlbEntry_g_iff]
  rfl

theorem TlbEntry.afterConflict_of_clash {c : Cp0} {e : TlbEntry} (h : c.Clashes e) :
    e.afterConflict c.tlbEntry = { e with dead := true } := by
  obtain ⟨live, overlaps⟩ := (c.clashes_iff e).1 h
  simp [TlbEntry.afterConflict, live, overlaps]

theorem TlbEntry.afterConflict_of_no_clash {c : Cp0} {e : TlbEntry} (h : ¬ c.Clashes e) : e.afterConflict c.tlbEntry = e := by
  rw [c.clashes_iff] at h
  exact if_neg (by simpa using h)

/-! ## TLB writes (R597, R598) -/

theorem State.tlb_tlbWrite (s : State) (i : BitVec 6) (j : Fin 64) : (s.tlbWrite i).tlb.get j =
    if j.val = i.toNat then s.cp0.tlbEntry else (s.tlb.get j).afterConflict s.cp0.tlbEntry := by
  have get (v : Vector TlbEntry 64) (new : TlbEntry) : (v.set i.toNat new i.isLt).get j = if i.toNat = j.val then new else v.get j :=
    Vector.getElem_set ..
  refine (get _ _).trans (if_congr eq_comm rfl ?_)
  exact Vector.getElem_map ..

theorem State.tlbConflict_iff (s : State) (i : BitVec 6) :
    s.tlbConflict i s.cp0.tlbEntry = true ↔ ∃ j : Fin 64, j.val ≠ i.toNat ∧ s.cp0.Clashes (s.tlb.get j) := by
  simp [State.tlbConflict, Cp0.clashes_iff, Fin.ext_iff, and_assoc]

theorem State.status_tlbWrite (s : State) (i : BitVec 6) : (s.tlbWrite i).cp0.status =
    if s.tlbConflict i s.cp0.tlbEntry then s.cp0.status ||| 0x00200000#32 else s.cp0.status := by
  rw [show (0x00200000#32) = 1#32 <<< 21 from rfl, ← putBit_true]
  rfl

/-- What a TLB write of a slot changes. -/
def State.WroteSlot (s t : State) (slot : Nat) : Prop :=
  t = { s.advance with tlb := t.tlb, cp0 := { s.cp0 with status := t.cp0.status } } ∧
  (∀ j : Fin 64, j.val = slot → t.tlb.get j = s.cp0.tlbEntry) ∧
  (∀ j : Fin 64, j.val ≠ slot →
    (s.cp0.Clashes (s.tlb.get j) → t.tlb.get j = { s.tlb.get j with dead := true }) ∧
    (¬ s.cp0.Clashes (s.tlb.get j) → t.tlb.get j = s.tlb.get j)) ∧
  ((∃ j : Fin 64, j.val ≠ slot ∧ s.cp0.Clashes (s.tlb.get j)) → t.cp0.status = s.cp0.status ||| 0x00200000#32) ∧
  ((∀ j : Fin 64, j.val ≠ slot → ¬ s.cp0.Clashes (s.tlb.get j)) → t.cp0.status = s.cp0.status)

theorem State.wroteSlot_tlbWrite (s : State) (i : BitVec 6) : s.WroteSlot (s.tlbWrite i).advance i.toNat := by
  refine ⟨?_, fun j hj => ?_, fun j hj => ?_, fun clash => ?_, fun noClash => ?_⟩
  · rw [State.advance_tlb, State.advance_cp0]
    exact State.advance_update (f := fun x => { x with tlb := (s.tlbWrite i).tlb, cp0 := (s.tlbWrite i).cp0 }) rfl rfl fun _ => rfl
  · rw [State.advance_tlb, s.tlb_tlbWrite, if_pos hj]
  · rw [State.advance_tlb, s.tlb_tlbWrite, if_neg hj]
    exact ⟨TlbEntry.afterConflict_of_clash, TlbEntry.afterConflict_of_no_clash⟩
  · rw [State.advance_cp0, s.status_tlbWrite, if_pos ((s.tlbConflict_iff i).2 clash)]
  · rw [State.advance_cp0, s.status_tlbWrite, if_neg]
    rw [s.tlbConflict_iff]
    exact fun ⟨j, hj, clash⟩ => noClash j hj clash

/-- TS is not among the bits of Status that make CP0 usable (R80, R110). -/
theorem State.cp0Usable_tlbWrite (s : State) (i : BitVec 6) : (s.tlbWrite i).advance.cp0Usable = s.cp0Usable := by
  have bit {k : Nat} (h : (0x00200000#32).getLsbD k = false) :
      (s.tlbWrite i).advance.cp0.status.getLsbD k = s.cp0.status.getLsbD k := by
    rw [State.advance_cp0, s.status_tlbWrite]
    split
    · rw [BitVec.getLsbD_or, h, Bool.or_false]
    · rfl
  have ksu : (s.tlbWrite i).advance.ksu = s.ksu := by
    apply BitVec.eq_of_getLsbD_eq
    intro k hk
    rw [State.ksu, State.ksu, BitVec.getLsbD_extractLsb', BitVec.getLsbD_extractLsb', bit]
    have : ∀ k < 2, (0x00200000#32).getLsbD (3 + k) = false := by decide
    exact this k hk
  have erl : (s.tlbWrite i).advance.erl = s.erl := bit (by decide)
  have exl : (s.tlbWrite i).advance.exl = s.exl := bit (by decide)
  have cu0 : (s.tlbWrite i).advance.cu0 = s.cu0 := bit (by decide)
  rw [State.cp0Usable, State.cp0Usable, State.mode, State.mode, erl, exl, ksu, cu0]

/-! ## TLBR (R596) -/

/-- A bit of a register's reserved bits k, where they are zero. -/
theorem getLsbD_of_reserved {n : Nat} {x k : BitVec n} (h : x &&& k = 0#n) {i : Nat} (hk : k.getLsbD i = true) :
    x.getLsbD i = false := by
  have := congrArg (fun w => w.getLsbD i) h
  simpa [hk] using this

/-- The word that TLBR puts into EntryLo0 or EntryLo1. -/
def TlbPage.entryLo (p : TlbPage) (g : Bool) : DWord :=
  (p.uc ++ 0#28 ++ p.pfn ++ p.c ++ BitVec.ofBool p.d ++ BitVec.ofBool p.v ++ BitVec.ofBool g : BitVec (2 + 28 + 28 + 3 + 1 + 1 + 1))

theorem TlbPage.getLsbD_entryLo (p : TlbPage) (g : Bool) (i : Nat) : (p.entryLo g).getLsbD i =
    if i < 1 then g else if i < 2 then p.v else if i < 3 then p.d else if i < 6 then p.c.getLsbD (i - 3)
    else if i < 34 then p.pfn.getLsbD (i - 6) else if i < 62 then false else p.uc.getLsbD (i - 62) := by
  refine BitVec.getLsbD_append.trans ?_
  simp only [BitVec.getLsbD_append, BitVec.getLsbD_ofBool, BitVec.getLsbD_zero]
  grind

/-- An EntryLo register after a write and a read: PFN bits under MASK and FrameMask are zero, and G is that of the entry. -/
theorem entryLo_tlbPageOf {lo : DWord} (zero : lo &&& 0x3FFFFFFC00000000#64 = 0#64) (frameMask : BitVec 16) (m : BitVec 12) (g : Bool) :
    (tlbPageOf lo frameMask m).entryLo g = lo &&& ~~~(m.setWidth 64 <<< 6 ||| frameMask.setWidth 64 <<< 18 ||| 1#64) |||
      (BitVec.ofBool g).setWidth 64 := by
  have reserved : ∀ i < 64, (0x3FFFFFFC00000000#64).getLsbD i = decide (34 ≤ i ∧ i < 62) := by decide
  apply BitVec.eq_of_getLsbD_eq
  intro i hi
  have clear (h : 34 ≤ i ∧ i < 62) : lo.getLsbD i = false := getLsbD_of_reserved zero ((reserved i hi).trans (decide_eq_true h))
  rw [TlbPage.getLsbD_entryLo]
  simp only [tlbPageOf, BitVec.getLsbD_append, BitVec.getLsbD_or, BitVec.getLsbD_and, BitVec.getLsbD_not, BitVec.getLsbD_setWidth,
    BitVec.getLsbD_shiftLeft, BitVec.getLsbD_ofBool, BitVec.getLsbD_extractLsb', BitVec.getLsbD_zero, BitVec.getLsbD_one]
  grind

/-- The bits under MASK are zero already. -/
theorem Cp0.tlbEntry_vpn2_masked (c : Cp0) : c.tlbEntry.vpn2 &&& ~~~(maskVpn c.tlbEntry.mask) =
    c.entryHi.extractLsb' 13 31 &&& ~~~(maskVpn c.tlbEntry.mask) :=
  (BitVec.and_assoc ..).trans (congrArg _ (BitVec.and_self ..))

/-- EntryHi after a write and a read: VPN2 bits under MASK are zero. -/
theorem entryHi_tlbEntry {c : Cp0} (zero : c.entryHi &&& 0x3FFFF00000001F00#64 = 0#64) :
    (c.tlbEntry.r ++ 0#18 ++ (c.tlbEntry.vpn2 &&& ~~~(maskVpn c.tlbEntry.mask)) ++ 0#5 ++ c.tlbEntry.asid : BitVec (2 + 18 + 31 + 5 + 8)) =
      c.entryHi &&& ~~~(c.tlbEntry.mask.setWidth 64 <<< 13) := by
  have reserved : ∀ i < 64, (0x3FFFF00000001F00#64).getLsbD i = decide ((8 ≤ i ∧ i < 13) ∨ (44 ≤ i ∧ i < 62)) := by decide
  apply BitVec.eq_of_getLsbD_eq
  intro i hi
  have clear (h : (8 ≤ i ∧ i < 13) ∨ (44 ≤ i ∧ i < 62)) : c.entryHi.getLsbD i = false :=
    getLsbD_of_reserved zero ((reserved i hi).trans (decide_eq_true h))
  rw [c.tlbEntry_vpn2_masked]
  generalize c.tlbEntry.mask = m
  refine BitVec.getLsbD_append.trans ?_
  simp only [Cp0.tlbEntry, maskVpn, BitVec.getLsbD_append, BitVec.getLsbD_and, BitVec.getLsbD_not, BitVec.getLsbD_setWidth,
    BitVec.getLsbD_shiftLeft, BitVec.getLsbD_extractLsb', BitVec.getLsbD_zero]
  grind

theorem pageMask_tlbEntry {c : Cp0} (zero : c.pageMask &&& 0xFE001FFF#32 = 0#32) :
    (0#7 ++ c.tlbEntry.mask ++ 0#13 : BitVec (7 + 12 + 13)) = c.pageMask := by
  have reserved : ∀ i < 32, (0xFE001FFF#32).getLsbD i = decide (i < 13 ∨ 25 ≤ i) := by decide
  apply BitVec.eq_of_getLsbD_eq
  intro i hi
  have clear (h : i < 13 ∨ 25 ≤ i) : c.pageMask.getLsbD i = false :=
    getLsbD_of_reserved zero ((reserved i hi).trans (decide_eq_true h))
  refine BitVec.getLsbD_append.trans ?_
  simp only [Cp0.tlbEntry, BitVec.getLsbD_append, BitVec.getLsbD_extractLsb', BitVec.getLsbD_zero]
  grind

/-- TLBR moves nothing but its four registers. -/
theorem State.tlbRead_advance (s : State) : let u := s.tlbRead.advance
    u = { s.advance with cp0 := { s.cp0 with
      pageMask := u.cp0.pageMask, entryHi := u.cp0.entryHi, entryLo0 := u.cp0.entryLo0, entryLo1 := u.cp0.entryLo1 } } := by
  dsimp only
  rw [State.advance_cp0]
  exact State.advance_update (f := fun x => { x with cp0 := s.tlbRead.cp0 }) rfl rfl fun _ => rfl

/-- TLBR of a slot that holds what the registers of `c` describe. -/
theorem State.tlbRead_of_tlbEntry {t : State} {c : Cp0} (zero : c.reservedZero = true)
    (slot : t.tlb.get (t.cp0.index.extractLsb' 0 6).toFin = c.tlbEntry) :
    let m := c.pageMask.extractLsb' 13 12
    let keep : DWord := ~~~(m.setWidth 64 <<< 6 ||| (c.frameMask.extractLsb' 0 16).setWidth 64 <<< 18 ||| 1#64)
    let r := t.tlbRead.cp0
    r.pageMask = c.pageMask ∧ r.entryHi = c.entryHi &&& ~~~(m.setWidth 64 <<< 13) ∧
      r.entryLo0 = c.entryLo0 &&& keep ||| c.gWord ∧ r.entryLo1 = c.entryLo1 &&& keep ||| c.gWord := by
  obtain ⟨_, lo0, lo1, _, pageMask, entryHi, _⟩ := c.reservedZero_iff.1 zero
  rw [State.tlbRead, slot, c.gWord_eq]
  exact ⟨pageMask_tlbEntry pageMask, entryHi_tlbEntry entryHi, entryLo_tlbPageOf lo0 .., entryLo_tlbPageOf lo1 ..⟩

/-- After TLBWI Index still names the slot that was written. -/
theorem State.tlb_tlbWrite_index (s : State) : let t := (s.tlbWrite (s.cp0.index.extractLsb' 0 6)).advance
    t.tlb.get (t.cp0.index.extractLsb' 0 6).toFin = s.cp0.tlbEntry := by
  dsimp only
  rw [State.advance_tlb, State.advance_cp0, s.tlb_tlbWrite]
  exact if_pos rfl

theorem toNat_low_six (w : Word) : (w.extractLsb' 0 6).toNat = w.toNat % 64 := by
  simp [BitVec.extractLsb'_toNat]

/-- Settles O25: what `State.tlbWrite` leaves (`State.wroteSlot_tlbWrite`), and the words that TLBR makes of the entry in the slot
that Index still names. -/
theorem tlbWritesAndReadsTransferTheEntry : Obligations.TlbWritesAndReadsTransferTheEntry := by
  intro s usable zero m legal g clash wrote
  refine ⟨fun h => ⟨?tlbwi, ?tlbwr⟩, fun h => ⟨?_, ?_⟩, _, exec_tlbr usable, s.tlbRead_advance⟩
  case tlbwi =>
    refine ⟨_, _, ?_, toNat_low_six s.cp0.index ▸ s.wroteSlot_tlbWrite _, exec_tlbr ((s.cp0Usable_tlbWrite _).trans usable),
      State.tlbRead_advance _, ?_⟩
    · rw [exec_tlbwi usable, State.tlbWriteAt_of_legal ((maskLegal_iff m).2 h)]
    · rw [State.advance_cp0]
      exact State.tlbRead_of_tlbEntry zero s.tlb_tlbWrite_index
  case tlbwr =>
    refine ⟨(s.tlbWrite s.cp0.random).advance, ?_, s.wroteSlot_tlbWrite _⟩
    rw [exec_tlbwr usable, State.tlbWriteAt_of_legal ((maskLegal_iff m).2 h)]
  · rw [exec_tlbwi usable, State.tlbWriteAt_of_illegal (mt (maskLegal_iff m).1 h)]
  · rw [exec_tlbwr usable, State.tlbWriteAt_of_illegal (mt (maskLegal_iff m).1 h)]

/-! ## TLBP (R595) -/

/-- Whether an entry matches EntryHi. -/
def Cp0.Finds (c : Cp0) (e : TlbEntry) : Prop :=
  e.hits (c.entryHi.extractLsb' 62 2) (c.entryHi.extractLsb' 13 31) (c.entryHi.extractLsb' 0 8) = true

/-- The entry that a write presents matches EntryHi. -/
theorem Cp0.finds_tlbEntry (c : Cp0) : c.Finds c.tlbEntry := by
  refine (TlbEntry.hits_iff ..).2 ⟨rfl, rfl, fun i hi clear => ?_, .inr rfl⟩
  rw [c.tlbEntry_vpn2 hi, clear, BitVec.getLsbD_extractLsb']
  simp [hi]

/-- An entry that matches EntryHi clashes with it, for one address and ASID match both. -/
theorem Cp0.clashes_of_finds {c : Cp0} {e : TlbEntry} (h : c.Finds e) : c.Clashes e := by
  obtain ⟨live, region, vpn, asid⟩ := (TlbEntry.hits_iff ..).1 h
  refine ⟨live, region, fun i hi clear => ?_, asid.imp_right .inr⟩
  rw [BitVec.getLsbD_or, Bool.or_eq_false_iff] at clear
  rw [vpn i hi clear.1, BitVec.getLsbD_extractLsb']
  simp [hi]

theorem Cp0.not_finds_dead (c : Cp0) (e : TlbEntry) : ¬ c.Finds { e with dead := true } := fun h => by
  obtain ⟨live, _⟩ := (TlbEntry.hits_iff ..).1 h
  cases live

/-- After a write of slot i, EntryHi finds slot i alone. -/
theorem State.finds_tlbWrite_iff (s : State) (i : BitVec 6) (j : Fin 64) :
    s.cp0.Finds ((s.tlbWrite i).tlb.get j) ↔ j.val = i.toNat := by
  rw [s.tlb_tlbWrite]
  split
  · next h => exact iff_of_true s.cp0.finds_tlbEntry h
  · next h =>
    refine iff_of_false (fun found => ?_) h
    by_cases clash : s.cp0.Clashes (s.tlb.get j)
    · rw [TlbEntry.afterConflict_of_clash clash] at found
      exact s.cp0.not_finds_dead _ found
    · rw [TlbEntry.afterConflict_of_no_clash clash] at found
      exact clash (Cp0.clashes_of_finds found)

theorem State.index_tlbProbe_of_unique {s : State} {i : Fin 64} (h : ∀ j, s.cp0.Finds (s.tlb.get j) ↔ j = i) :
    s.tlbProbe.cp0.index = BitVec.ofNat 32 i.val := by
  have found : s.probeMatches = [i] :=
    filter_finRange_eq_singleton ((h i).2 rfl) fun j hj => Bool.eq_false_iff.2 (mt (h j).1 hj)
  rw [State.tlbProbe, found]
  rfl

theorem State.index_tlbProbe_of_none {s : State} (h : ∀ j, ¬ s.cp0.Finds (s.tlb.get j)) :
    s.tlbProbe.cp0.index = 1#1 ++ 0#25 ++ Config.probeIndex s.ctr := by
  have found : s.probeMatches = [] := List.filter_eq_nil_iff.2 fun j _ => h j
  rw [State.tlbProbe, found]
  rfl

theorem State.tlbProbe_advance (s : State) :
    s.tlbProbe.advance = { s.advance with cp0 := { s.cp0 with index := s.tlbProbe.advance.cp0.index } } := by
  rw [State.advance_cp0]
  exact State.advance_update (f := fun x => { x with cp0 := s.tlbProbe.cp0 }) rfl rfl fun _ => rfl

/-- The six bits of Index that name a slot, with P = 0. -/
theorem low_six_eq_and (w : Word) : BitVec.ofNat 32 (w.extractLsb' 0 6).toNat = w &&& 0x3F#32 := by
  rw [BitVec.ofNat_toNat]
  refine eq_and_of_bits (p := fun k => decide (k < 6)) (by decide) fun k hk => ?_
  rw [BitVec.getLsbD_setWidth, BitVec.getLsbD_extractLsb']
  grind

/-- Settles O26: after a write EntryHi finds the slot that was written and no other (`State.finds_tlbWrite_iff`). -/
theorem probeFindsTheEntryJustWrittenOrSetsTheProbeBit : Obligations.ProbeFindsTheEntryJustWrittenOrSetsTheProbeBit := by
  refine ⟨fun s t usable written usable' => ⟨_, exec_tlbp usable', ?_, t.tlbProbe_advance⟩,
    fun s usable => ⟨_, exec_tlbp usable, s.tlbProbe_advance, fun none => ?_⟩⟩
  · obtain rfl := State.eq_of_tlbWriteAt ((exec_tlbwi usable).symm.trans written)
    rw [State.advance_cp0, ← low_six_eq_and]
    refine State.index_tlbProbe_of_unique (i := (s.cp0.index.extractLsb' 0 6).toFin) fun j => ?_
    rw [State.advance_tlb, State.advance_cp0, Fin.ext_iff]
    exact s.finds_tlbWrite_iff _ j
  · have misses (j : Fin 64) : ¬ s.cp0.Finds (s.tlb.get j) := Bool.eq_false_iff.1 (none j)
    rw [State.advance_cp0, State.index_tlbProbe_of_none misses]
    generalize Config.probeIndex s.ctr = x
    revert x
    decide

end Sys2Proof.Machine

end

section
/-! PROOFS. ERET (R592), and the performance counters: the moves that reach them (R590), when a counter counts (R1103) and what it counts at
three of its events (R1105 to R1107). -/

namespace Sys2Proof.Machine

/-! ## ERET -/

theorem exec_eret {s : State} (usable : s.cp0Usable = true) (h : s.delay = .none) : exec .eret s = .next s.exceptionReturn := by
  refine (State.requireCp0_of_usable usable _).trans (if_neg ?_)
  simp [State.inSlot, h]

theorem exec_eret_inSlot {s : State} (usable : s.cp0Usable = true) (h : s.delay ≠ .none) : exec .eret s = .fault .eretInDelaySlot := by
  refine (State.requireCp0_of_usable usable _).trans (if_pos ?_)
  simp [State.inSlot, h]

/-- Outside a delay slot, with ERL = 1. -/
theorem State.exceptionReturn_of_erl {s : State} (h : s.delay = .none) (erl : s.erl = true) : s.exceptionReturn = { s with
    pc := s.cp0.errorEpc, link := { s.link with bit := false }
    cp0 := { s.cp0 with status := s.cp0.status &&& 0xFFFFFFFB#32 } } := by
  rw [State.exceptionReturn, if_pos erl, putBit_false, ← h]
  rfl

/-- Outside a delay slot, with ERL = 0. -/
theorem State.exceptionReturn_of_not_erl {s : State} (h : s.delay = .none) (erl : s.erl = false) : s.exceptionReturn = { s with
    pc := s.cp0.epc, link := { s.link with bit := false }
    cp0 := { s.cp0 with status := s.cp0.status &&& 0xFFFFFFFD#32 } } := by
  rw [State.exceptionReturn, if_neg (Bool.eq_false_iff.1 erl), putBit_false, ← h]
  rfl

/-- Settles O17: ERET is the check of CP0, the test of the delay slot, and `State.exceptionReturn`. -/
theorem eretReturnsThroughErrorEpcOrEpc : Obligations.EretReturnsThroughErrorEpcOrEpc := by
  refine fun s => ⟨fun usable h => ⟨fun erl => ?_, fun erl => ?_⟩, fun unusable => State.requireCp0_of_unusable unusable _,
    exec_eret_inSlot, by decide⟩
  · rw [exec_eret usable h, State.exceptionReturn_of_erl h erl]
  · rw [exec_eret usable h, State.exceptionReturn_of_not_erl h erl]

/-! ## The performance registers (R590) -/

section

variable {s : State} {reg : BitVec 5}

theorem requirePerf_of_valid (valid : reg.toNat ≤ 1) (k : Out) : requirePerf reg k = k := if_pos valid

theorem exec_mfpc (usable : s.cp0Usable = true) (valid : reg.toNat ≤ 1) (x : BitVec 5) :
    exec (.mfpc x reg) s = .next (s.setGpr x (sext32 (s.perfCounter reg))).advance :=
  (State.requireCp0_of_usable usable _).trans (requirePerf_of_valid valid _)

theorem exec_mfps (usable : s.cp0Usable = true) (valid : reg.toNat ≤ 1) (x : BitVec 5) :
    exec (.mfps x reg) s = .next (s.setGpr x (sext32 (s.perfControl reg))).advance :=
  (State.requireCp0_of_usable usable _).trans (requirePerf_of_valid valid _)

theorem exec_mtpc (usable : s.cp0Usable = true) (valid : reg.toNat ≤ 1) (rt : BitVec 5) :
    exec (.mtpc rt reg) s = .next (s.setPerfCounter reg (low32 (s.gpr rt))).advance :=
  (State.requireCp0_of_usable usable _).trans (requirePerf_of_valid valid _)

theorem exec_mtps (usable : s.cp0Usable = true) (valid : reg.toNat ≤ 1) (rt : BitVec 5) :
    exec (.mtps rt reg) s = .next (s.setPerfControl reg (low32 (s.gpr rt))).advance :=
  (State.requireCp0_of_usable usable _).trans (requirePerf_of_valid valid _)

theorem exec_perfMove_of_invalid (usable : s.cp0Usable = true) (invalid : 1 < reg.toNat) (rt : BitVec 5) :
    ∀ i ∈ [Instr.mtpc rt reg, .mfpc rt reg, .mtps rt reg, .mfps rt reg], exec i s = .fault .perfRegisterInvalid := by
  intro i hi
  fin_cases hi <;> exact (State.requireCp0_of_usable usable _).trans (if_neg (Nat.not_le.2 invalid))

end

/-- The two valid numbers. -/
theorem eq_zero_or_one_of_toNat_le {reg : BitVec 5} (valid : reg.toNat ≤ 1) : reg = 0#5 ∨ reg = 1#5 := by
  revert reg
  decide

theorem State.setPerfCounter_eq (s : State) (reg : BitVec 5) (w : Word) :
    s.setPerfCounter reg w = { s with perf := (s.setPerfCounter reg w).perf } := by
  unfold State.setPerfCounter
  split <;> rfl

theorem State.setPerfControl_eq (s : State) (reg : BitVec 5) (w : Word) :
    s.setPerfControl reg w = { s with perf := (s.setPerfControl reg w).perf } := by
  unfold State.setPerfControl
  split <;> rfl

/-- R80: CP0 alone decides whether it is usable. -/
theorem State.cp0Usable_congr {s t : State} (h : t.cp0 = s.cp0) : t.cp0Usable = s.cp0Usable :=
  congrArg (fun c => ({ s with cp0 := c } : State).cp0Usable) h

/-- What MTPC and MTPS share: they write the performance registers alone, and complete. -/
theorem State.advance_of_perf {s t : State} (h : t = { s with perf := t.perf }) :
    t.advance = { s.advance with perf := t.advance.perf } ∧ t.advance.cp0Usable = s.cp0Usable := by
  have moved : t.advance = { s.advance with perf := t.perf } := by
    rw [h]
    exact State.advance_update (f := fun x => { x with perf := t.perf }) rfl rfl fun _ => rfl
  refine ⟨by rw [State.advance_perf]; exact moved, State.cp0Usable_congr ?_⟩
  rw [State.advance_cp0, h]

theorem State.perfCounter_setPerfCounter (s : State) {reg r : BitVec 5} (hreg : reg.toNat ≤ 1) (hr : r.toNat ≤ 1) (w : Word) :
    (s.setPerfCounter reg w).perfCounter r = if r = reg then w else s.perfCounter r := by
  rcases eq_zero_or_one_of_toNat_le hreg with rfl | rfl <;> rcases eq_zero_or_one_of_toNat_le hr with rfl | rfl <;> rfl

theorem State.perfControl_setPerfControl (s : State) {reg r : BitVec 5} (hreg : reg.toNat ≤ 1) (hr : r.toNat ≤ 1) (w : Word) :
    (s.setPerfControl reg w).perfControl r = if r = reg then w &&& 0x1FF#32 else s.perfControl r := by
  rcases eq_zero_or_one_of_toNat_le hreg with rfl | rfl <;> rcases eq_zero_or_one_of_toNat_le hr with rfl | rfl <;> rfl

theorem State.setPerfCounter_control (s : State) (reg : BitVec 5) (w : Word) :
    (s.setPerfCounter reg w).perf.ctl0 = s.perf.ctl0 ∧ (s.setPerfCounter reg w).perf.ctl1 = s.perf.ctl1 := by
  unfold State.setPerfCounter
  split <;> exact ⟨rfl, rfl⟩

theorem State.setPerfControl_counter (s : State) (reg : BitVec 5) (w : Word) :
    (s.setPerfControl reg w).perf.cnt0 = s.perf.cnt0 ∧ (s.setPerfControl reg w).perf.cnt1 = s.perf.cnt1 := by
  unfold State.setPerfControl
  split <;> exact ⟨rfl, rfl⟩

@[simp] theorem State.advance_perfCounter (s : State) (r : BitVec 5) : s.advance.perfCounter r = s.perfCounter r := by
  rw [State.perfCounter, State.advance_perf, State.perfCounter]

@[simp] theorem State.advance_perfControl (s : State) (r : BitVec 5) : s.advance.perfControl r = s.perfControl r := by
  rw [State.perfControl, State.advance_perf, State.perfControl]

/-! ## Counting -/

/-- ERL is clear, and the enable of the mode is set (R1103). -/
def State.CountsBy (s : State) (ctl : Word) : Prop :=
  let e := s.params.enables
  s.erl = false ∧ (if s.exl then ctl.getLsbD e.exl.val = true
    else (s.ksu = 0b00#2 ∧ ctl.getLsbD e.k.val = true) ∨ (s.ksu = 0b01#2 ∧ ctl.getLsbD e.s.val = true) ∨
      (s.ksu ≠ 0b00#2 ∧ s.ksu ≠ 0b01#2 ∧ ctl.getLsbD e.u.val = true))

theorem State.counting_iff (s : State) (ctl : Word) : s.counting ctl = true ↔ s.CountsBy ctl := by
  rw [State.counting, State.CountsBy, Bool.and_eq_true, Bool.not_eq_true']
  refine and_congr_right fun _ => ?_
  split
  · rfl
  · have values : ∀ ksu : BitVec 2, ksu = 0b00#2 ∨ ksu = 0b01#2 ∨ ksu = 0b10#2 ∨ ksu = 0b11#2 := by decide
    rcases values s.ksu with h | h | h | h <;> simp [h]

/-- What the events of graduated instructions count (R1105). -/
theorem graduated_some (k : CountKind) (n : Note) : graduated (some k) n =
    if (∃ refill, n = .excepted refill) ∨ n = .waiting then 0#32 else if k = .mulDiv then 2#32 else 1#32 := by
  cases n with
  | none => cases k <;> rfl
  | scFailed => cases k <;> rfl
  | excepted refill => simp [graduated]
  | waiting => simp [graduated]

/-- R1107: events 15 of counter 0 and 1 of counter 1 are the graduated instructions. -/
theorem events0_graduated (ctr : Nat) (k : Option CountKind) (n : Note) : events0 ctr 15#4 k n = graduated k n := rfl

theorem events1_graduated (ctr : Nat) (k : Option CountKind) (n : Note) : events1 ctr 1#4 k n = graduated k n := rfl

/-- R1107: event 7 of counter 1 is the TLB Refills. -/
theorem events1_refills (ctr : Nat) (k : Option CountKind) (n : Note) :
    events1 ctr 7#4 k n = if n = .excepted true then 1#32 else 0#32 := if_congr beq_iff_eq rfl rfl

theorem State.countEvents_cnt0_of_off {s : State} (h : ¬ s.CountsBy s.perf.ctl0) (k : Option CountKind) (t : State) :
    (s.countEvents k t).perf.cnt0 = t.perf.cnt0 := if_neg (mt (s.counting_iff _).1 h)

theorem State.countEvents_cnt1_of_off {s : State} (h : ¬ s.CountsBy s.perf.ctl1) (k : Option CountKind) (t : State) :
    (s.countEvents k t).perf.cnt1 = t.perf.cnt1 := if_neg (mt (s.counting_iff _).1 h)

theorem State.countEvents_cnt0_of_on {s : State} {event : BitVec 4} (h : s.CountsBy s.perf.ctl0) (he : eventOf s.perf.ctl0 = event)
    (k : Option CountKind) (t : State) : (s.countEvents k t).perf.cnt0 = t.perf.cnt0 + events0 s.ctr event k t.note := by
  rw [← he]
  exact if_pos ((s.counting_iff _).2 h)

theorem State.countEvents_cnt1_of_on {s : State} {event : BitVec 4} (h : s.CountsBy s.perf.ctl1) (he : eventOf s.perf.ctl1 = event)
    (k : Option CountKind) (t : State) : (s.countEvents k t).perf.cnt1 = t.perf.cnt1 + events1 s.ctr event k t.note := by
  rw [← he]
  exact if_pos ((s.counting_iff _).2 h)

/-- Settles O23: each move is one read or write of `State.perfCounter` or `State.perfControl`, and `State.countEvents` adds to a counter that
is on what its event counts. -/
theorem performanceRegistersReadBackWhatWasWritten : Obligations.PerformanceRegistersReadBackWhatWasWritten := by
  intro s rt x reg
  refine ⟨fun usable valid => ?moves, (exec_perfMove_of_invalid · · rt), fun t i => ?counting⟩
  case moves =>
    refine ⟨exec_mfpc usable valid x, exec_mfps usable valid x, ?mtpc, ?mtps⟩
    case mtpc =>
      obtain ⟨frame, usable'⟩ := State.advance_of_perf (s.setPerfCounter_eq reg (low32 (s.gpr rt)))
      obtain ⟨ctl0, ctl1⟩ := s.setPerfCounter_control reg (low32 (s.gpr rt))
      refine ⟨_, exec_mtpc usable valid rt, frame, ?_, ?_, fun r hr ne => ?_, ?_⟩
      · rw [State.advance_perf, ctl0]
      · rw [State.advance_perf, ctl1]
      · rw [State.advance_perfCounter, s.perfCounter_setPerfCounter valid hr, if_neg ne]
      · rw [exec_mfpc (usable'.trans usable) valid, State.advance_perfCounter, s.perfCounter_setPerfCounter valid valid, if_pos rfl]
        rfl
    case mtps =>
      obtain ⟨frame, usable'⟩ := State.advance_of_perf (s.setPerfControl_eq reg (low32 (s.gpr rt)))
      obtain ⟨cnt0, cnt1⟩ := s.setPerfControl_counter reg (low32 (s.gpr rt))
      refine ⟨_, exec_mtps usable valid rt, frame, ?_, ?_, fun r hr ne => ?_, ?_⟩
      · rw [State.advance_perf, cnt0]
      · rw [State.advance_perf, cnt1]
      · rw [State.advance_perfControl, s.perfControl_setPerfControl valid hr, if_neg ne]
      · rw [exec_mfps (usable'.trans usable) valid, State.advance_perfControl, s.perfControl_setPerfControl valid valid, if_pos rfl]
        rfl
  case counting =>
    intro e on event n u
    refine ⟨rfl, (State.countEvents_cnt0_of_off · _ t), (State.countEvents_cnt1_of_off · _ t), fun h he => ?_, fun h he => ?_,
      fun h he => ?_⟩
    · rw [State.countEvents_cnt0_of_on h he, events0_graduated, graduated_some]
    · rw [State.countEvents_cnt1_of_on h he, events1_graduated, graduated_some]
    · rw [State.countEvents_cnt1_of_on h he, events1_refills]

end Sys2Proof.Machine

end

section
/-! PROOFS. How floating-point instructions complete (R631, R635, R637, R640): the status word they leave, the refusal of denormalized and
NaN operands, the conversions in their rounding modes (R940 to R953), and the compares (R960). -/

namespace Sys2Proof.Machine

/-! ## The status word -/

/-- R637: the Cause field is replaced. -/
theorem fsrCause_eq (w : Word) (c : FpStatus) : fsrCause w c = (w &&& 0xFFFC0FFF#32) ||| (c.setWidth 32 <<< 12) := by
  have inField : ∀ c : BitVec 6, (c.setWidth 32 <<< 12) &&& ((BitVec.allOnes 6).setWidth 32 <<< 12) = c.setWidth 32 <<< 12 := by
    decide
  rw [fsrCause, putField, mergeMask, inField]
  rfl

/-- R635: the flags accumulate. -/
theorem fsrFlags_eq (w : Word) (c : FpStatus) : fsrFlags w c = w ||| ((c &&& 0x1F#6).setWidth 32 <<< 2) := by
  have five : c &&& 0x1F#6 = (c.extractLsb' 0 5).setWidth 6 := by
    revert c
    decide
  refine BitVec.eq_of_getLsbD_eq fun i hi => ?_
  rw [fsrFlags, getLsbD_putField, BitVec.getLsbD_or, BitVec.getLsbD_or, BitVec.getLsbD_shiftLeft, BitVec.getLsbD_extractLsb', five,
    BitVec.getLsbD_setWidth, BitVec.getLsbD_setWidth, BitVec.getLsbD_extractLsb']
  by_cases h : 2 ≤ i ∧ i < 2 + 5
  · obtain ⟨k, rfl⟩ := Nat.exists_eq_add_of_le h.1
    rw [if_pos ⟨h.1, h.2, hi⟩]
    simp [show k < 5 by omega, hi, show k < 32 by omega, show k < 6 by omega, show ¬ 2 + k ≤ 1 by omega]
  · rw [if_neg fun h' => h ⟨h'.1, h'.2.1⟩]
    by_cases h2 : i < 2
    · simp [h2]
    · simp [show ¬ i - 2 < 5 by omega]

theorem fpTraps_iff (w : Word) (c : FpStatus) :
    fpTraps w c = true ↔ c.getLsbD 5 = true ∨ c.extractLsb' 0 5 &&& w.extractLsb' 7 5 ≠ 0#5 := by
  rw [fpTraps, Bool.or_eq_true, bne_iff_ne]

/-! ## Completion -/

/-- R637: a settled result completes, or its status raises the exception. -/
theorem State.fpComplete_eq (s : State) (g : Fmt) (fd : BitVec 5) (r : FpRes) : s.fpComplete g fd r = fpOutcome s g fd r := by
  simp only [State.fpComplete, State.completeFp, fpOutcome, fpTraps_iff, fsrFlags_eq, fsrCause_eq]
  rfl

theorem State.fpRefused_eq (s : State) : fpRefused s = s.unimplemented := s.unimplemented_eq.symm

/-- R640: an operation on ordinary operands is performed. -/
theorem Fmt.operandRefused_of_ordinary {f : Fmt} {l : List DWord} (h : ∀ v ∈ l, f.special v = false) (fn : BitVec 6) :
    f.operandRefused fn l = false := by
  have none : l.any f.special = false := List.any_eq_false.2 fun v hv => Bool.eq_false_iff.1 (h v hv)
  rw [Fmt.operandRefused, none, Bool.false_and]

/-- R640: an instruction that runs `fpOp` is performed, or refused for its operands. -/
theorem State.Performs.of_fpOp {s : State} {i : Instr} {f g : Fmt} {fn : BitVec 6} {ops : List DWord} {fd : BitVec 5} {r : FpRes}
    (run : exec i s = s.fpOp f g fn ops fd r) : s.Performs i f ops g fd r := by
  rw [State.fpOp, State.fpComplete_eq] at run
  refine ⟨?_, fun ordinary => ?_⟩
  · split at run
    · exact .inr (run.trans s.fpRefused_eq.symm)
    · exact .inl run
  · rw [run, Fmt.operandRefused_of_ordinary ordinary]
    rfl

/-- An arithmetic instruction with CP1 usable. -/
theorem State.Performs.of_cp1 {s : State} {i : Instr} {f g : Fmt} {fn : BitVec 6} {ops : List DWord} {fd : BitVec 5} {r : FpRes}
    (hcu1 : s.cu1 = true) (run : exec i s = s.requireCp1 (s.fpOp f g fn ops fd r)) : s.Performs i f ops g fd r :=
  .of_fpOp (run.trans (State.requireCp1_of_usable hcu1 _))

theorem State.requireLong_of_enabled {s : State} (h : s.mips3 = true) (k : Out) : s.requireLong k = k := if_pos h

/-- A conversion to or from L. -/
theorem State.Performs.of_long {s : State} {i : Instr} {f g : Fmt} {fn : BitVec 6} {ops : List DWord} {fd : BitVec 5} {r : FpRes}
    (hcu1 : s.cu1 = true) (h3 : s.mips3 = true) (run : exec i s = s.requireCp1 (s.requireLong (s.fpOp f g fn ops fd r))) :
    s.Performs i f ops g fd r :=
  .of_cp1 hcu1 (run.trans (congrArg _ (State.requireLong_of_enabled h3 _)))

/-- RECIP and RSQRT. -/
theorem State.Performs.of_fp4 {s : State} {i : Instr} {f g : Fmt} {fn : BitVec 6} {ops : List DWord} {fd : BitVec 5} {r : FpRes}
    (hcu1 : s.cu1 = true) (h4 : s.mips4 = true) (run : exec i s = s.requireCp1 (s.requireFp4 (s.fpOp f g fn ops fd r))) :
    s.Performs i f ops g fd r :=
  .of_cp1 hcu1 (run.trans (congrArg _ (State.requireFp4_of_enabled h4 _)))

/-- The multiply-add instructions. -/
theorem State.Performs.of_cop1x {s : State} {i : Instr} {f g : Fmt} {fn : BitVec 6} {ops : List DWord} {fd : BitVec 5} {r : FpRes}
    (hcu1 : s.cu1 = true) (h4 : s.mips4 = true) (run : exec i s = s.requireMips4 (s.requireCp1 (s.fpOp f g fn ops fd r))) :
    s.Performs i f ops g fd r :=
  .of_cp1 hcu1 (run.trans (State.requireMips4_of_enabled h4 _))

/-! ## Conversions (R940 to R953) -/

/-- The word that CVT.S.W and CVT.D.W convert, as a number. -/
theorem toInt_low32 (v : DWord) : (low32 v).toInt = v.toInt.bmod (2 ^ 32) := by
  have word : low32 v = v.setWidth 32 := BitVec.eq_of_getLsbD_eq fun i hi => by simp [low32, hi]
  rw [word, BitVec.toInt_setWidth, BitVec.toInt_eq_toNat_bmod, Int.bmod_bmod_of_dvd (by decide)]

/-- Settles O40: each conversion is `fpOp` or `fpComplete` behind its checks, with the mode of its name or the current one. -/
theorem conversionsCompleteInTheirRoundingMode : Obligations.ConversionsCompleteInTheirRoundingMode := by
  intro s fs fd f hcu1 a i w l toW toL
  have word : (low32 (s.operandS fs)).toInt = w := toInt_low32 _
  have ofW {i : Instr} {g : Fmt}
      (run : exec i s = s.requireCp1 (s.fpComplete g fd (g.ofInt s.rm (low32 (s.operandS fs)).toInt))) :
      exec i s = fpOutcome s g fd (g.ofInt s.rm w) := by
    rw [run, State.requireCp1_of_usable hcu1, State.fpComplete_eq, word]
  have ofL {i : Instr} {g : Fmt} (h3 : s.mips3 = true)
      (run : exec i s = s.requireCp1 (s.requireLong (s.fpComplete g fd (g.ofInt s.rm l)))) :
      exec i s = fpOutcome s g fd (g.ofInt s.rm l) := by
    rw [run, State.requireCp1_of_usable hcu1, State.requireLong_of_enabled h3, State.fpComplete_eq]
  refine ⟨?roundW, ?truncW, ?ceilW, ?floorW, ?cvtW, fun h3 => ⟨?roundL, ?truncL, ?ceilL, ?floorL, ?cvtL⟩, .of_cp1 hcu1 rfl,
    .of_cp1 hcu1 rfl, ofW rfl, ofW rfl, fun h3 => ⟨ofL h3 rfl, ofL h3 rfl⟩⟩
  case roundW | truncW | ceilW | floorW | cvtW => cases f <;> exact .of_cp1 hcu1 rfl
  case roundL | truncL | ceilL | floorL | cvtL => cases f <;> exact .of_long hcu1 h3 rfl

/-! ## Compares (R960) -/

/-- A compare that completes with these bits of Cause and Flag, where condition cc becomes b. -/
def comparedWith (s : State) (cc : BitVec 3) (status : Word) (b : Bool) : Out :=
  let bit : Word := 1#32 <<< conditionBit cc
  let base := ((s.fp.fsr &&& 0xFFFC0FFF#32) ||| status) &&& ~~~bit
  .next { s with fp := { s.fp with fsr := if b then base ||| bit else base } }.advance

/-- R631: writing one bit clears it first. -/
theorem putBit_eq_clear_or (w : Word) (k : Nat) (b : Bool) :
    putBit w k b = if b then (w &&& ~~~(1#32 <<< k)) ||| (1#32 <<< k) else w &&& ~~~(1#32 <<< k) := by
  cases b
  · exact putBit_false w k
  · refine (putBit_true w k).trans (BitVec.eq_of_getLsbD_eq fun i _ => ?_)
    simp only [if_true, BitVec.getLsbD_or, BitVec.getLsbD_and, BitVec.getLsbD_not]
    cases (1#32 <<< k).getLsbD i <;> simp [*]

/-- R634: V is enabled by bit 11. -/
theorem fpTraps_invalid (w : Word) : fpTraps w fpV = w.getLsbD 11 := by
  have four : ∀ e : BitVec 5, ((0b10000#5 &&& e) != 0#5) = e.getLsbD 4 := by decide
  rw [show w.getLsbD 11 = (w.extractLsb' 7 5).getLsbD 4 by simp, ← four]
  rfl

theorem fpTraps_none (w : Word) : fpTraps w 0#6 = false := by simp [fpTraps]

/-- R635, R637: an Invalid Operation that is not enabled sets Cause and the flag of V. -/
theorem State.completeFp_invalid {s : State} (h : s.fp.fsr.getLsbD 11 = false) (cc : BitVec 3) (b : Bool) :
    s.completeFp fpV (fun t => t.setCondition cc b) = comparedWith s cc 0x00010040#32 b := by
  simp only [State.completeFp, fpTraps_invalid, h, Bool.false_eq_true, if_false, State.setCondition, State.setFsr, putBit_eq_clear_or,
    fsrFlags_eq, fsrCause_eq, BitVec.or_assoc, comparedWith]
  rfl

theorem State.completeFp_invalid_enabled {s : State} (h : s.fp.fsr.getLsbD 11 = true) (w : State → State) :
    s.completeFp fpV w =
      .next ({ s with fp := { s.fp with fsr := (s.fp.fsr &&& 0xFFFC0FFF#32) ||| 0x00010000#32 } }.takeException 15#5) := by
  rw [State.completeFp, fpTraps_invalid, h, fsrCause_eq]
  rfl

theorem State.completeFp_none (s : State) (cc : BitVec 3) (b : Bool) :
    s.completeFp 0#6 (fun t => t.setCondition cc b) = comparedWith s cc 0#32 b := by
  simp only [State.completeFp, fpTraps_none, Bool.false_eq_true, if_false, State.setCondition, State.setFsr, putBit_eq_clear_or,
    fsrFlags_eq, fsrCause_eq, BitVec.or_assoc, comparedWith]
  rfl

/-- The n-th compare has cond field n. -/
theorem exec_compares (s : State) (ft fs : BitVec 5) (cc : BitVec 3) (f : Fmt) (n : Fin 16) {i : Instr}
    (hi : (compares f ft fs cc)[n.val]? = some i) : exec i s = s.fpCompare f (BitVec.ofFin n) cc fs ft := by
  cases f <;> fin_cases n <;> (cases hi; rfl)

/-- R478, R640: behind its checks a compare is refused for its operands, or completes. -/
theorem State.fpCompare_eq {s : State} {cc : BitVec 3} (hcu1 : s.cu1 = true) (h4 : cc = 0#3 ∨ s.mips4 = true) (f : Fmt)
    (cond : BitVec 4) (fs ft : BitVec 5) :
    let a := s.operand f fs
    let b := s.operand f ft
    s.fpCompare f cond cc fs ft =
      if f.operandRefused (0b11#2 ++ cond) [a, b] then fpRefused s
      else s.completeFp (f.compareStatus cond a b) fun t => t.setCondition cc (condHolds cond (f.compare a b)) := by
  intro a b
  rw [State.fpCompare, State.requireCp1_of_usable hcu1, State.fpRefused_eq]
  split
  · rfl
  · next hcc => exact State.requireFp4_of_enabled (h4.resolve_left hcc) _

/-- The bits of a cond field. -/
theorem getLsbD_ofFin (n : Fin 16) (k : Nat) : (BitVec.ofFin n : BitVec 4).getLsbD k = decide (n.val / 2 ^ k % 2 = 1) := by
  rw [BitVec.getLsbD, BitVec.toNat_ofFin, Nat.testBit_eq_decide_div_mod_eq]

/-- R960: an Invalid Operation, or no status, on unordered operands. -/
theorem Fmt.compareStatus_of_unordered {f : Fmt} {a b : DWord} (h : f.compare a b = none) (n : Fin 16) :
    f.compareStatus (BitVec.ofFin n) a b =
      if f.isSignalling a = true ∨ f.isSignalling b = true ∨ n.val / 8 = 1 then fpV else 0#6 := by
  have bit3 : n.val / 2 ^ 3 % 2 = 1 ↔ n.val / 8 = 1 := by omega
  simp only [Fmt.compareStatus, h, getLsbD_ofFin, bit3, Option.isNone_none, Bool.and_true, Bool.or_eq_true, decide_eq_true_eq, or_assoc]
  rfl

/-- Settles O42: `State.fpCompare_eq` with the status of `Fmt.compareStatus_of_unordered`. -/
theorem unorderedComparesRaiseInvalidOperation : Obligations.UnorderedComparesRaiseInvalidOperation := by
  intro s ft fs cc f n hcu1 h4 a b invalid raise bit write unordered i hi
  have written (status : Word) :
      comparedWith s cc status (condHolds (BitVec.ofFin n) (f.compare a b)) = write status := by
    rw [unordered, condHolds, getLsbD_ofFin, Nat.pow_zero, Nat.div_one]
    simp only [comparedWith, conditionBit, decide_eq_true_eq, write, bit]
  rw [exec_compares s ft fs cc f n hi, State.fpCompare_eq hcu1 h4]
  split
  next => exact ⟨fun _ _ => ⟨_, by simp, rfl⟩, fun _ _ => .inr rfl, fun _ => .inr rfl⟩
  next =>
    rw [Fmt.compareStatus_of_unordered unordered]
    refine ⟨fun inv enabled => ⟨0x00010000#32, by simp, ?_⟩, fun inv off => .inl ?_, fun quiet => .inl ?_⟩
    · rw [if_pos inv]
      exact State.completeFp_invalid_enabled enabled _
    · rw [if_pos inv]
      exact (State.completeFp_invalid off cc _).trans (written _)
    · rw [if_neg quiet]
      exact (s.completeFp_none cc _).trans (written _)

end Sys2Proof.Machine

end

section
/-! PROOFS. Floating-point patterns (R650): their fields, which of them are NaNs, infinities, zeros and denormalized numbers, what the sign
bit does (R935, R937), NaN operands, and the order of the values (R960). -/

namespace Sys2Proof.Machine

/-! ## The formats -/

/-- The two formats in numerals. -/
theorem Fmt.numerals (f : Fmt) :
    (f.frac = 23 ∧ f.expBits = 8 ∧ f.bias = 127) ∨ (f.frac = 52 ∧ f.expBits = 11 ∧ f.bias = 1023) := by
  cases f
  · exact .inl ⟨rfl, rfl, rfl⟩
  · exact .inr ⟨rfl, rfl, rfl⟩

theorem Fmt.signBit_eq (f : Fmt) : f.signBit = 1#64 <<< (f.frac + f.expBits) := by cases f <;> rfl

theorem Fmt.zero_eq (f : Fmt) (neg : Bool) : f.zero neg = f.zeroOf neg := by cases f <;> cases neg <;> rfl

theorem Fmt.infinity_eq (f : Fmt) (neg : Bool) : f.infinity neg = f.infinite neg := by cases f <;> cases neg <;> rfl

theorem Fmt.flip_eq (f : Fmt) (v : DWord) : f.flip v = v ^^^ f.signBit := by rw [f.signBit_eq, Fmt.flip]

theorem Fmt.invalid_eq (f : Fmt) : f.invalid = f.invalidResult := by cases f <;> rfl

/-! ## Fields -/

theorem Fmt.fracField_lt (f : Fmt) (v : DWord) : f.fracField v < 2 ^ f.frac := Nat.mod_lt _ (Nat.two_pow_pos _)

theorem Fmt.fracField_eq (f : Fmt) (v : DWord) : f.fracField v = (v.extractLsb' 0 f.frac).toNat := by
  rw [BitVec.extractLsb'_toNat, Nat.shiftRight_zero, Fmt.fracField]

theorem Fmt.expField_eq (f : Fmt) (v : DWord) : f.expField v = (v.extractLsb' f.frac f.expBits).toNat := by
  rw [BitVec.extractLsb'_toNat, Nat.shiftRight_eq_div_pow, Fmt.expField]

theorem Fmt.notANumber_iff (f : Fmt) (v : DWord) :
    f.NotANumber v ↔ f.expField v = 2 ^ f.expBits - 1 ∧ f.fracField v ≠ 0 := by
  rw [f.expField_eq, f.fracField_eq]
  cases f <;> simp only [Fmt.NotANumber, Fmt.frac, Fmt.expBits, ← BitVec.toNat_inj, ne_eq] <;> rfl

theorem Fmt.denormalized_iff (f : Fmt) (v : DWord) : f.Denormalized v ↔ f.expField v = 0 ∧ f.fracField v ≠ 0 := by
  rw [f.expField_eq, f.fracField_eq]
  cases f <;> simp only [Fmt.Denormalized, Fmt.frac, Fmt.expBits, ← BitVec.toNat_inj, ne_eq] <;> rfl

/-- The most significant fraction bit of a NaN. -/
theorem Fmt.signals_iff (f : Fmt) (v : DWord) : f.Signals v ↔ f.NotANumber v ∧ 2 ^ (f.frac - 1) ≤ f.fracField v := by
  refine and_congr_right fun _ => ?_
  cases f <;> simp only [BitVec.getLsbD, Nat.testBit_eq_decide_div_mod_eq, decide_eq_true_eq, Fmt.fracField, Fmt.frac] <;> omega

/-! ## What a pattern is -/

/-- The four kinds of pattern, by their fields. -/
theorem Fmt.unpack_cases (f : Fmt) (v : DWord) :
    (f.expField v = 2 ^ f.expBits - 1 ∧ f.fracField v = 0 ∧ f.unpack v = .inf (f.sign v)) ∨
    (f.expField v = 2 ^ f.expBits - 1 ∧ f.fracField v ≠ 0 ∧ f.unpack v = .nan (decide (2 ^ (f.frac - 1) ≤ f.fracField v))) ∨
    (f.expField v ≠ 2 ^ f.expBits - 1 ∧ f.expField v = 0 ∧ f.unpack v = .fin (f.sign v) (f.fracField v) (f.emin - f.frac)) ∨
    (f.expField v ≠ 2 ^ f.expBits - 1 ∧ f.expField v ≠ 0 ∧
      f.unpack v = .fin (f.sign v) (f.fracField v + 2 ^ f.frac) (f.expField v - f.bias - f.frac)) := by
  by_cases top : f.expField v = 2 ^ f.expBits - 1
  · by_cases zero : f.fracField v = 0
    · exact .inl ⟨top, zero, (if_pos top).trans (if_pos zero)⟩
    · exact .inr (.inl ⟨top, zero, (if_pos top).trans (if_neg zero)⟩)
  · by_cases least : f.expField v = 0
    · exact .inr (.inr (.inl ⟨top, least, (if_neg top).trans (if_pos least)⟩))
    · exact .inr (.inr (.inr ⟨top, least, (if_neg top).trans (if_neg least)⟩))

theorem Fmt.unpack_eq_nan {f : Fmt} {v : DWord} {g : Bool} (h : f.unpack v = .nan g) : f.NotANumber v ∧ (g = true ↔ f.Signals v) := by
  rw [f.signals_iff, f.notANumber_iff]
  rcases f.unpack_cases v with ⟨-, -, is⟩ | ⟨top, nonzero, is⟩ | ⟨-, -, is⟩ | ⟨-, -, is⟩ <;> cases is.symm.trans h
  exact ⟨⟨top, nonzero⟩, decide_eq_true_iff.trans (and_iff_right ⟨top, nonzero⟩).symm⟩

theorem Fmt.notANumber_of_unpack {f : Fmt} {v : DWord} {g : Bool} (h : f.unpack v = .nan g) : f.NotANumber v := (Fmt.unpack_eq_nan h).1

theorem Fmt.unpack_of_notANumber {f : Fmt} {v : DWord} (h : f.NotANumber v) :
    ∃ g, f.unpack v = .nan g ∧ (g = true ↔ f.Signals v) := by
  obtain ⟨top, nonzero⟩ := (f.notANumber_iff v).1 h
  have unpack : f.unpack v = .nan _ := (if_pos top).trans (if_neg nonzero)
  exact ⟨_, unpack, (Fmt.unpack_eq_nan unpack).2⟩

theorem Fmt.unpack_eq_inf {f : Fmt} {v : DWord} {x : Bool} (h : f.unpack v = .inf x) :
    f.expField v = 2 ^ f.expBits - 1 ∧ f.fracField v = 0 ∧ f.sign v = x := by
  rcases f.unpack_cases v with ⟨top, zero, is⟩ | ⟨-, -, is⟩ | ⟨-, -, is⟩ | ⟨-, -, is⟩ <;> cases is.symm.trans h
  exact ⟨top, zero, rfl⟩

/-- A finite number: zero or denormalized below the exponent 1, else with its leading bit. -/
theorem Fmt.unpack_eq_fin {f : Fmt} {v : DWord} {x : Bool} {m : Nat} {e : Int} (h : f.unpack v = .fin x m e) :
    f.sign v = x ∧ f.expField v ≠ 2 ^ f.expBits - 1 ∧
      ((f.expField v = 0 ∧ m = f.fracField v ∧ e = f.emin - f.frac) ∨
        (1 ≤ f.expField v ∧ m = f.fracField v + 2 ^ f.frac ∧ e = f.expField v - f.bias - f.frac)) := by
  rcases f.unpack_cases v with ⟨-, -, is⟩ | ⟨-, -, is⟩ | ⟨top, least, is⟩ | ⟨top, normal, is⟩ <;> cases is.symm.trans h
  · exact ⟨rfl, top, .inl ⟨least, rfl, rfl⟩⟩
  · exact ⟨rfl, top, .inr ⟨Nat.one_le_iff_ne_zero.2 normal, rfl, rfl⟩⟩

/-! ## The sign bit -/

/-- The two fields below the sign bit. -/
theorem Fmt.fields_congr {f : Fmt} {v w : DWord} (h : ∀ i < f.frac + f.expBits, v.getLsbD i = w.getLsbD i) :
    f.expField v = f.expField w ∧ f.fracField v = f.fracField w := by
  rw [f.expField_eq, f.expField_eq, f.fracField_eq, f.fracField_eq]
  refine ⟨congrArg _ (BitVec.eq_of_getLsbD_eq fun i hi => ?_), congrArg _ (BitVec.eq_of_getLsbD_eq fun i hi => ?_)⟩ <;>
    rw [BitVec.getLsbD_extractLsb', BitVec.getLsbD_extractLsb', h _ (by omega)]

theorem Fmt.signPlace_lt (f : Fmt) : f.frac + f.expBits < 64 := by cases f <;> decide

theorem Fmt.flip_fields (f : Fmt) (v : DWord) :
    f.expField (f.flip v) = f.expField v ∧ f.fracField (f.flip v) = f.fracField v ∧ f.sign (f.flip v) = !f.sign v := by
  have below : ∀ i < f.frac + f.expBits, (f.flip v).getLsbD i = v.getLsbD i := fun i hi => by
    rw [Fmt.flip, BitVec.getLsbD_xor, BitVec.getLsbD_shiftLeft, decide_eq_true hi]
    simp
  obtain ⟨exp, frac⟩ := Fmt.fields_congr below
  refine ⟨exp, frac, ?_⟩
  rw [Fmt.sign, Fmt.flip, BitVec.getLsbD_xor, BitVec.getLsbD_shiftLeft, Fmt.sign]
  simp [f.signPlace_lt]

/-- The other sign. -/
def Num.negate : Num → Num
  | .nan g => .nan g
  | .inf x => .inf !x
  | .fin x m e => .fin (!x) m e

theorem Fmt.unpack_flip (f : Fmt) (v : DWord) : f.unpack (f.flip v) = (f.unpack v).negate := by
  obtain ⟨exp, frac, sign⟩ := f.flip_fields v
  simp only [Fmt.unpack, exp, frac, sign, apply_ite Num.negate]
  rfl

theorem getLsbD_one_shiftLeft (k : Nat) {i : Nat} (hi : i < 64) : (1#64 <<< k).getLsbD i = decide (i = k) := by
  rw [BitVec.getLsbD_shiftLeft, BitVec.getLsbD_one, decide_eq_true hi, Bool.true_and, ← decide_not, ← Bool.decide_and,
    ← Bool.decide_and]
  exact decide_eq_decide.2 (by omega)

/-- ABS clears the sign bit (R935). -/
theorem Fmt.clearSign_eq (f : Fmt) (v : DWord) : (if f.sign v then f.flip v else v) = v &&& ~~~f.signBit := by
  rw [Fmt.sign, Fmt.flip, f.signBit_eq]
  generalize f.frac + f.expBits = k
  refine BitVec.eq_of_getLsbD_eq fun i hi => ?_
  rw [apply_ite (BitVec.getLsbD · i), BitVec.getLsbD_xor, BitVec.getLsbD_and, BitVec.getLsbD_not, getLsbD_one_shiftLeft k hi,
    decide_eq_true hi]
  by_cases hk : i = k
  · subst hk
    cases v.getLsbD i <;> simp
  · simp [hk]

/-- The zero of a pattern's sign is its sign bit alone (R632). -/
theorem Fmt.zeroOf_sign (f : Fmt) (v : DWord) : f.zeroOf (f.sign v) = v &&& f.signBit := by
  rw [Fmt.zeroOf, Fmt.sign, f.signBit_eq]
  generalize f.frac + f.expBits = k
  refine BitVec.eq_of_getLsbD_eq fun i hi => ?_
  rw [apply_ite (BitVec.getLsbD · i), BitVec.getLsbD_and, getLsbD_one_shiftLeft k hi, BitVec.getLsbD_zero]
  by_cases hk : i = k
  · subst hk
    cases v.getLsbD i <;> simp
  · simp [hk]

/-! ## NaN operands (R650) -/

theorem Fmt.isNan_iff (f : Fmt) (v : DWord) : f.isNan v = true ↔ f.NotANumber v := by
  unfold Fmt.isNan
  split
  next g h => exact iff_of_true rfl (Fmt.unpack_eq_nan h).1
  next h =>
    refine iff_of_false Bool.false_ne_true fun nan => ?_
    obtain ⟨g, unpack, -⟩ := Fmt.unpack_of_notANumber nan
    exact h g unpack

theorem Fmt.isSignalling_iff (f : Fmt) (v : DWord) : f.isSignalling v = true ↔ f.Signals v := by
  rw [Fmt.isSignalling, beq_iff_eq]
  refine ⟨fun h => (Fmt.unpack_eq_nan h).2.1 rfl, fun h => ?_⟩
  obtain ⟨g, unpack, signals⟩ := Fmt.unpack_of_notANumber h.1
  rw [unpack, signals.2 h]

theorem Fmt.nanResult_of_signals {f : Fmt} {a b : DWord} (h : f.Signals a ∨ f.Signals b) (pick : Bool) :
    f.nanResult pick a b = f.invalidResult := by
  rw [← f.isSignalling_iff, ← f.isSignalling_iff, ← Bool.or_eq_true] at h
  rw [Fmt.nanResult, if_pos h, Fmt.invalid_eq]

theorem Fmt.nanResult_of_quiet {f : Fmt} {a b : DWord} (ha : ¬ f.Signals a) (hb : ¬ f.Signals b)
    (h : f.NotANumber a ∨ f.NotANumber b) (pick : Bool) :
    (f.NotANumber a ∧ f.nanResult pick a b = ⟨a, 0, false⟩) ∨ (f.NotANumber b ∧ f.nanResult pick a b = ⟨b, 0, false⟩) := by
  have quiet : ¬ (f.isSignalling a || f.isSignalling b) = true := by
    rw [Bool.or_eq_true, f.isSignalling_iff, f.isSignalling_iff]
    exact not_or_intro ha hb
  rw [Fmt.nanResult, if_neg quiet]
  split
  next picked =>
    rw [Bool.and_eq_true] at picked
    exact .inl ⟨(f.isNan_iff a).1 picked.1, rfl⟩
  next other =>
    have second : f.NotANumber b := by
      by_contra hb'
      rw [← f.isNan_iff, Bool.not_eq_true] at hb'
      simp [hb', (f.isNan_iff a).2 (h.resolve_right (by simp [← f.isNan_iff, hb']))] at other
    exact .inr ⟨second, rfl⟩

/-- A single quiet NaN is delivered. -/
theorem Fmt.nanResult_self {f : Fmt} {a : DWord} (nan : f.NotANumber a) (quiet : ¬ f.Signals a) (pick : Bool) :
    f.nanResult pick a a = ⟨a, 0, false⟩ := by
  rcases Fmt.nanResult_of_quiet quiet quiet (.inl nan) pick with ⟨-, h⟩ | ⟨-, h⟩ <;> exact h

theorem Fmt.add_of_nan {f : Fmt} {a b : DWord} (h : f.NotANumber a ∨ f.NotANumber b) (rm : BitVec 2) (pick : Bool) :
    f.add rm pick a b = f.nanResult pick a b := by
  rcases h with h | h <;> obtain ⟨g, unpack, -⟩ := Fmt.unpack_of_notANumber h
  · simp only [Fmt.add, unpack]
  · cases ha : f.unpack a <;> simp only [Fmt.add, unpack, ha]

theorem Fmt.sub_of_nan {f : Fmt} {a b : DWord} (h : f.NotANumber a ∨ f.NotANumber b) (rm : BitVec 2) (pick : Bool) :
    f.sub rm pick a b = f.nanResult pick a b := by
  rw [← f.isNan_iff, ← f.isNan_iff, ← Bool.or_eq_true] at h
  exact if_pos h

theorem Fmt.sub_of_not_nan {f : Fmt} {a b : DWord} (ha : ¬ f.NotANumber a) (hb : ¬ f.NotANumber b) (rm : BitVec 2) (pick : Bool) :
    f.sub rm pick a b = f.add rm pick a (f.flip b) := by
  refine if_neg ?_
  rw [Bool.or_eq_true, f.isNan_iff, f.isNan_iff]
  exact not_or_intro ha hb

theorem Fmt.mul_of_nan {f : Fmt} {a b : DWord} (h : f.NotANumber a ∨ f.NotANumber b) (rm : BitVec 2) (pick : Bool) :
    f.mul rm pick a b = f.nanResult pick a b := by
  rcases h with h | h <;> obtain ⟨g, unpack, -⟩ := Fmt.unpack_of_notANumber h
  · simp only [Fmt.mul, unpack]
  · cases ha : f.unpack a <;> simp only [Fmt.mul, unpack, ha]

theorem Fmt.div_of_nan {f : Fmt} {a b : DWord} (h : f.NotANumber a ∨ f.NotANumber b) (rm : BitVec 2) (pick : Bool) :
    f.div rm pick a b = f.nanResult pick a b := by
  rcases h with h | h <;> obtain ⟨g, unpack, -⟩ := Fmt.unpack_of_notANumber h
  · simp only [Fmt.div, unpack]
  · cases ha : f.unpack a <;> simp only [Fmt.div, unpack, ha]

/-! ## Values -/

theorem Fmt.value_of_unpack {f : Fmt} {v : DWord} {x : Bool} {m : Nat} {e : Int} (h : f.unpack v = .fin x m e) :
    f.value v = some (finiteValue x m e) := by rw [Fmt.value, h]

theorem Fmt.unpack_of_value {f : Fmt} {v : DWord} {y : ℚ} (h : f.value v = some y) :
    ∃ x m e, f.unpack v = .fin x m e ∧ finiteValue x m e = y := by
  unfold Fmt.value at h
  split at h
  next x m e unpack => exact ⟨x, m, e, unpack, Option.some.inj h⟩
  next => cases h

theorem finiteValue_not (x : Bool) (m : Nat) (e : Int) : finiteValue (!x) m e = -finiteValue x m e := by
  cases x <;> simp [finiteValue]

theorem abs_finiteValue (x : Bool) (m : Nat) (e : Int) : |finiteValue x m e| = m * 2 ^ e := by
  cases x <;> simp [finiteValue, abs_mul, abs_zpow]

/-- A sum is computed in units of a common power of two. -/
theorem finiteValue_eq_signedAt (x : Bool) (m : Nat) {e q : Int} (h : q ≤ e) : finiteValue x m e = signedAt x m e q * 2 ^ q := by
  have scale : (2 : ℚ) ^ e = 2 ^ (e - q).toNat * 2 ^ q := by
    rw [← zpow_natCast, Int.toNat_of_nonneg (by omega), ← zpow_add₀ two_ne_zero, sub_add_cancel]
  cases x <;> simp [finiteValue, signedAt, scale, mul_assoc]

/-! ## The order of operands (R960) -/

theorem Fmt.compare_eq_none_iff (f : Fmt) (a b : DWord) : f.NotANumber a ∨ f.NotANumber b ↔ f.compare a b = none := by
  constructor
  · rintro (h | h) <;> obtain ⟨g, unpack, -⟩ := Fmt.unpack_of_notANumber h
    · simp only [Fmt.compare, unpack]
    · cases ha : f.unpack a <;> simp only [Fmt.compare, unpack, ha]
  · intro h
    unfold Fmt.compare at h
    split at h
    next ha => exact .inl (Fmt.notANumber_of_unpack ha)
    next hb _ => exact .inr (Fmt.notANumber_of_unpack hb)
    all_goals cases h

theorem Fmt.compare_of_fin {f : Fmt} {a b : DWord} {x y : Bool} {m n : Nat} {e g : Int} (ha : f.unpack a = .fin x m e)
    (hb : f.unpack b = .fin y n g) : f.compare a b = some (Ord.compare (finiteValue x m e) (finiteValue y n g)) := by
  have unit : (0 : ℚ) < 2 ^ min e g := by positivity
  simp only [Fmt.compare, ha, hb, Option.some.injEq]
  rw [finiteValue_eq_signedAt x m (min_le_left e g), finiteValue_eq_signedAt y n (min_le_right e g)]
  rcases lt_trichotomy (signedAt x m e (min e g)) (signedAt y n g (min e g)) with h | h | h
  · rw [compare_lt_iff_lt.2 h, compare_lt_iff_lt.2 (mul_lt_mul_of_pos_right (Int.cast_lt.2 h) unit)]
  · rw [h, compare_eq_iff_eq.2 rfl, compare_eq_iff_eq.2 rfl]
  · rw [compare_gt_iff_gt.2 h, compare_gt_iff_gt.2 (mul_lt_mul_of_pos_right (Int.cast_lt.2 h) unit)]

theorem Fmt.compare_of_value {f : Fmt} {a b : DWord} {x y : ℚ} (ha : f.value a = some x) (hb : f.value b = some y) :
    f.compare a b = some (Ord.compare x y) := by
  obtain ⟨_, _, _, unpackA, rfl⟩ := Fmt.unpack_of_value ha
  obtain ⟨_, _, _, unpackB, rfl⟩ := Fmt.unpack_of_value hb
  exact Fmt.compare_of_fin unpackA unpackB

theorem Fmt.compare_of_inf_value {f : Fmt} {a b : DWord} {neg : Bool} {x : ℚ} (ha : f.unpack a = .inf neg) (hb : f.value b = some x) :
    f.compare a b = some (if neg then .lt else .gt) ∧ f.compare b a = some (if neg then .gt else .lt) := by
  obtain ⟨_, _, _, unpack, -⟩ := Fmt.unpack_of_value hb
  simp only [Fmt.compare, ha, unpack, and_self]

theorem Fmt.compare_of_inf {f : Fmt} {a b : DWord} {n m : Bool} (ha : f.unpack a = .inf n) (hb : f.unpack b = .inf m) :
    f.compare a b = some (if n = m then .eq else if n then .lt else .gt) := by
  simp only [Fmt.compare, ha, hb, beq_iff_eq]

/-- No operand that is ordered to another signals. -/
theorem Fmt.compareStatus_of_ordered {f : Fmt} {a b : DWord} (h : f.compare a b ≠ none) (cond : BitVec 4) :
    f.compareStatus cond a b = 0#6 := by
  rw [ne_eq, ← f.compare_eq_none_iff, not_or] at h
  have quiet {v : DWord} (hv : ¬ f.NotANumber v) : f.isSignalling v = false := by
    rw [Bool.eq_false_iff, ne_eq, f.isSignalling_iff]
    exact fun signals => hv signals.1
  have ordered : (f.compare a b).isNone = false := by
    rw [Option.isNone_eq_false_iff, Option.isSome_iff_ne_none, ne_eq, ← f.compare_eq_none_iff]
    exact not_or_intro h.1 h.2
  rw [Fmt.compareStatus, quiet h.1, quiet h.2, ordered, Bool.and_false]
  rfl

/-- Bit 2 of the cond field asks for less, bit 1 for equal. -/
theorem condHolds_of_ordered {o : Option Ordering} (h : o ≠ none) (n : Fin 16) :
    condHolds (BitVec.ofFin n) o = true ↔ (n.val / 4 % 2 = 1 ∧ o = some .lt) ∨ (n.val / 2 % 2 = 1 ∧ o = some .eq) := by
  rcases o with _ | (_ | _ | _)
  · exact absurd rfl h
  all_goals simp [condHolds, Nat.testBit_eq_decide_div_mod_eq]

/-- Settles O41: an ordered compare has no status and completes, and the order is that of `Fmt.compare_of_value`. -/
theorem comparesWriteOneConditionBit : Obligations.ComparesWriteOneConditionBit := by
  refine ⟨?writes, fun f a b => ⟨f.compare_eq_none_iff a b, fun x y ha hb => ?_, fun _ _ => Fmt.compare_of_inf_value,
    fun _ _ => Fmt.compare_of_inf⟩⟩
  case writes =>
    intro s ft fs cc f n hcu1 h4 a b ordered i hi holds bit base performed
    have run := (exec_compares s ft fs cc f n hi).trans (State.fpCompare_eq hcu1 h4 f (BitVec.ofFin n) fs ft)
    rw [Fmt.compareStatus_of_ordered ordered, State.completeFp_none] at run
    have complete (o : exec i s = comparedWith s cc 0#32 (condHolds (BitVec.ofFin n) (f.compare a b))) : performed := by
      rw [comparedWith, BitVec.or_zero] at o
      exact ⟨fun h => by rw [o, (condHolds_of_ordered ordered n).2 h]; rfl,
        fun h => by rw [o, Bool.eq_false_iff.2 (mt (condHolds_of_ordered ordered n).1 h)]; rfl⟩
    refine ⟨?_, fun ha hb => complete ?_⟩
    · split at run
      · exact .inr run
      · exact .inl (complete run)
    · rw [run, Fmt.operandRefused_of_ordinary (by simpa using ⟨ha, hb⟩)]
      rfl
  rw [Fmt.compare_of_value ha hb, Option.some.injEq, Option.some.injEq, Option.some.injEq]
  exact ⟨compare_lt_iff_lt, compare_eq_iff_eq, compare_gt_iff_gt⟩

end Sys2Proof.Machine

end

section
/-! PROOFS. Rounding (R636): what `roundAt` makes of an exact magnitude, the numbers of a format around it, and that a magnitude rounded to
units between which the format has no number is correctly rounded. -/

namespace Sys2Proof.Machine

/-! ## Rounding a magnitude to an integer -/

/-- The real magnitude a that `m * 2^e` and a sticky bit stand for. -/
def Magnitude (a : ℝ) (m : Nat) (e : Int) (sticky : Bool) : Prop :=
  if sticky then m * 2 ^ e < a ∧ a < (m + 1) * 2 ^ e else a = m * 2 ^ e

/-- Rounding in this mode goes away from zero. -/
def roundsAway (rm : BitVec 2) (neg : Bool) : Bool := (rm == 2#2 && !neg) || (rm == 3#2 && neg)

/-- The integer n is the magnitude t, of a number with this sign, rounded (R636); of two equally near the even one. -/
def RoundsMagnitude (rm : BitVec 2) (neg : Bool) (t : ℝ) (n : Nat) : Prop :=
  if rm = 0#2 then |n - t| ≤ 1 / 2 ∧ (|n - t| = 1 / 2 → n % 2 = 0)
  else if roundsAway rm neg then t ≤ n ∧ n < t + 1
  else n ≤ t ∧ t < n + 1

theorem RoundsMagnitude.of_eq {t : ℝ} {n : Nat} (h : (n : ℝ) = t) (rm : BitVec 2) (neg : Bool) : RoundsMagnitude rm neg t n := by
  subst h
  unfold RoundsMagnitude
  split_ifs <;> norm_num

/-- What rounds up, by mode. -/
theorem roundsUp_iff : ∀ (rm : BitVec 2) (neg odd : Bool) (rest : Ordering) (inexact : Bool),
    roundsUp rm neg odd rest inexact = true ↔
      if rm = 0#2 then rest = .gt ∨ (rest = .eq ∧ odd = true) else roundsAway rm neg = true ∧ inexact = true := by
  have ord (P : Ordering → Prop) : (∀ o, P o) ↔ P .lt ∧ P .eq ∧ P .gt :=
    ⟨fun h => ⟨h _, h _, h _⟩, fun h o => by cases o <;> simp only [h]⟩
  simp only [ord]
  decide

/-- The integer part n and the fraction of a magnitude decide what it rounds to. -/
theorem roundsMagnitude_of_fraction {n : Nat} {φ : ℝ} (h0 : 0 ≤ φ) (h1 : φ < 1) {rest : Ordering}
    (hrest : rest = compare φ (1 / 2)) {inexact : Bool} (hi : inexact = true ↔ φ ≠ 0) {rm : BitVec 2} {neg : Bool}
    {r : Nat} (hr : r = if roundsUp rm neg (n % 2 == 1) rest inexact then n + 1 else n) :
    RoundsMagnitude rm neg (n + φ) r ∧ (inexact = true ↔ (r : ℝ) ≠ n + φ) := by
  have up := roundsUp_iff rm neg (n % 2 == 1) rest inexact
  rw [hrest, compare_gt_iff_gt, compare_eq_iff_eq, hi, beq_iff_eq] at up
  rw [hi]
  subst hrest
  unfold RoundsMagnitude
  split at hr <;> rw [hr]
  next hup =>
    have above : |((n + 1 : ℕ) : ℝ) - (n + φ)| = 1 - φ := by
      rw [Nat.cast_succ, add_sub_add_left_eq_sub, abs_of_pos (by linarith)]
    replace up := up.1 hup
    rw [above, Nat.cast_succ]
    split_ifs at up ⊢ with nearest away
    · have half : 1 / 2 ≤ φ := up.elim le_of_lt fun h => h.1.ge
      refine ⟨⟨by linarith, fun tie => ?_⟩, iff_of_true (by linarith) (by linarith)⟩
      have odd := (up.resolve_left (by linarith)).2
      omega
    · exact ⟨⟨by linarith, by linarith [h0.lt_of_ne' up.2]⟩, iff_of_true up.2 (by linarith)⟩
    · exact absurd up.1 away
  next hup =>
    have below : |(n : ℝ) - (n + φ)| = φ := by
      rw [sub_add_cancel_left, abs_neg, abs_of_nonneg h0]
    replace up := mt up.2 hup
    have exact_iff : φ ≠ 0 ↔ (n : ℝ) ≠ n + φ := by
      rw [ne_comm (a := (n : ℝ)), Ne, Ne, add_eq_left]
    rw [below]
    split_ifs at up ⊢ with nearest away
    · rw [not_or, not_lt] at up
      exact ⟨⟨up.1, fun tie => by have := not_and.1 up.2 tie; omega⟩, exact_iff⟩
    · have zero : φ = 0 := by
        by_contra h
        exact up ⟨away, h⟩
      exact ⟨⟨by linarith, by linarith⟩, exact_iff⟩
    · exact ⟨⟨by linarith, by linarith⟩, exact_iff⟩

/-- What is cut off below the last place of m. -/
theorem Magnitude.exists_rest {a : ℝ} {m : Nat} {e : Int} {sticky : Bool} (h : Magnitude a m e sticky) :
    ∃ δ : ℝ, 0 ≤ δ ∧ δ < 1 ∧ (sticky = true ↔ δ ≠ 0) ∧ a = (m + δ) * 2 ^ e := by
  have unit : (0 : ℝ) < 2 ^ e := by positivity
  unfold Magnitude at h
  split at h
  next hs =>
    obtain ⟨lower, upper⟩ := h
    rw [← lt_div_iff₀ unit] at lower
    rw [← div_lt_iff₀ unit] at upper
    refine ⟨a / 2 ^ e - m, by linarith, by linarith, iff_of_true hs (by linarith), ?_⟩
    rw [add_sub_cancel, div_mul_cancel₀ _ unit.ne']
  next hs => exact ⟨0, le_rfl, one_pos, iff_of_false hs (not_not.2 rfl), by rw [h, add_zero]⟩

/-- How the part r of a number below a cut at k bits, with what is cut off below it, compares with half a unit. -/
theorem compare_half {k r : Nat} (hk : k ≠ 0) {δ : ℝ} (h0 : 0 ≤ δ) (h1 : δ < 1) :
    compare ((r + δ) / 2 ^ k) (1 / 2) = (compare (2 * r) (2 ^ k)).then (compare δ 0) := by
  obtain ⟨j, rfl⟩ := Nat.exists_eq_succ_of_ne_zero hk
  have unit : (0 : ℝ) < 2 ^ (j + 1) := by positivity
  have double : (2 : ℝ) ^ (j + 1) = 2 * ((2 ^ j : ℕ) : ℝ) := by rw [pow_succ']; push_cast; rfl
  have nat : 2 ^ (j + 1) = 2 * 2 ^ j := pow_succ' 2 j
  rcases lt_trichotomy r (2 ^ j) with h | h | h
  · have below : (r : ℝ) + 1 ≤ ((2 ^ j : ℕ) : ℝ) := by exact_mod_cast h
    rw [compare_lt_iff_lt.2 (show 2 * r < 2 ^ (j + 1) by omega), Ordering.lt_then, compare_lt_iff_lt, div_lt_iff₀ unit]
    linarith
  · have at_half : (r : ℝ) = ((2 ^ j : ℕ) : ℝ) := by exact_mod_cast h
    rw [compare_eq_iff_eq.2 (show 2 * r = 2 ^ (j + 1) by omega), Ordering.eq_then]
    rcases h0.lt_or_eq with pos | zero
    · rw [compare_gt_iff_gt.2 pos, compare_gt_iff_gt, lt_div_iff₀ unit]
      linarith
    · rw [compare_eq_iff_eq.2 zero.symm, compare_eq_iff_eq, div_eq_iff unit.ne']
      linarith
  · have above : ((2 ^ j : ℕ) : ℝ) + 1 ≤ (r : ℝ) := by exact_mod_cast h
    rw [compare_gt_iff_gt.2 (show 2 ^ (j + 1) < 2 * r by omega), Ordering.gt_then, compare_gt_iff_gt, lt_div_iff₀ unit]
    linarith

/-- What `roundAt` delivers: the magnitude in units of 2^q, rounded, and whether that is inexact. -/
theorem roundAt_spec {a : ℝ} {m : Nat} {e : Int} {sticky : Bool} (h : Magnitude a m e sticky) {q : Int} (hq : sticky = true → e < q)
    (rm : BitVec 2) (neg : Bool) :
    RoundsMagnitude rm neg (a / 2 ^ q) (roundAt rm neg m e sticky q).1 ∧
      ((roundAt rm neg m e sticky q).2 = true ↔ ((roundAt rm neg m e sticky q).1 : ℝ) ≠ a / 2 ^ q) := by
  obtain ⟨δ, h0, h1, hs, rfl⟩ := h.exists_rest
  rcases le_or_gt q e with le | lt
  · have clear : ¬ sticky = true := fun hs' => absurd (hq hs') (by omega)
    have zero : δ = 0 := not_not.1 (mt hs.2 clear)
    have exact_value : ((m * 2 ^ (e - q).toNat : ℕ) : ℝ) = (m + δ) * 2 ^ e / 2 ^ q := by
      rw [zero, add_zero, mul_div_assoc, ← zpow_sub₀ two_ne_zero]
      push_cast
      rw [← zpow_natCast, Int.toNat_of_nonneg (by omega)]
    rw [roundAt, if_pos le]
    exact ⟨.of_eq exact_value rm neg, iff_of_false clear (not_not.2 exact_value)⟩
  · obtain ⟨k, hk⟩ : ∃ k : ℕ, q = e + k := ⟨(q - e).toNat, by omega⟩
    have unit : (0 : ℝ) < 2 ^ k := by positivity
    have cut : (m : ℝ) = 2 ^ k * (m / 2 ^ k : ℕ) + (m % 2 ^ k : ℕ) := by exact_mod_cast (Nat.div_add_mod m (2 ^ k)).symm
    have fraction : (m + δ) * 2 ^ e / 2 ^ q = (m / 2 ^ k : ℕ) + ((m % 2 ^ k : ℕ) + δ) / 2 ^ k := by
      rw [hk, zpow_add₀ two_ne_zero, zpow_natCast, mul_comm (_ + δ), mul_div_mul_left _ _ (by positivity), cut]
      field_simp
      ring
    have below : ((m % 2 ^ k : ℕ) : ℝ) + 1 ≤ 2 ^ k := by exact_mod_cast Nat.mod_lt m (Nat.two_pow_pos k)
    have inexact : (m % 2 ^ k != 0 || sticky) = true ↔ ((m % 2 ^ k : ℕ) + δ) / 2 ^ k ≠ 0 := by
      rw [Bool.or_eq_true, bne_iff_ne, hs, div_ne_zero_iff, and_iff_left unit.ne', Ne, Ne, Ne,
        add_eq_zero_iff_of_nonneg (Nat.cast_nonneg _) h0, Nat.cast_eq_zero]
      tauto
    have below_cut : compare δ 0 = if sticky then .gt else .eq := by
      split
      next hs' => exact compare_gt_iff_gt.2 (h0.lt_of_ne' (hs.1 hs'))
      next hs' => exact compare_eq_iff_eq.2 (not_not.1 (mt hs.2 hs'))
    rw [fraction, roundAt, if_neg (by omega), show (q - e).toNat = k by omega]
    refine roundsMagnitude_of_fraction (by positivity) ((div_lt_one unit).2 (by linarith)) ?_ inexact rfl
    rw [compare_half (by omega) h0 h1, below_cut]
    cases compare (2 * (m % 2 ^ k)) (2 ^ k) <;> rfl

/-! ## The nearest numbers of a format -/

/-- The sign as a factor. -/
def signOf (neg : Bool) : ℝ := if neg then -1 else 1

theorem signOf_mul_self (neg : Bool) : signOf neg * signOf neg = 1 := by cases neg <;> norm_num [signOf]

theorem abs_signOf (neg : Bool) : |signOf neg| = 1 := by cases neg <;> norm_num [signOf]

theorem cast_finiteValue (neg : Bool) (m : Nat) (e : Int) : ((finiteValue neg m e : ℚ) : ℝ) = signOf neg * (m * 2 ^ e) := by
  cases neg <;> simp [finiteValue, signOf]

section

variable {t w : ℝ} {k n : Nat} {rm : BitVec 2} {neg : Bool}

theorem RoundsMagnitude.nearest (h : RoundsMagnitude 0#2 neg t n) : |n - t| ≤ 1 / 2 ∧ (|n - t| = 1 / 2 → n % 2 = 0) := h

theorem RoundsMagnitude.away (h : RoundsMagnitude rm neg t n) (away : roundsAway rm neg = true) : t ≤ n ∧ n < t + 1 := by
  have other : rm ≠ 0#2 := by
    rintro rfl
    cases neg <;> cases away
  rwa [RoundsMagnitude, if_neg other, if_pos away] at h

theorem RoundsMagnitude.toward (h : RoundsMagnitude rm neg t n) (other : rm ≠ 0#2) (toward : ¬ roundsAway rm neg = true) :
    n ≤ t ∧ t < n + 1 := by
  rwa [RoundsMagnitude, if_neg other, if_neg toward] at h

/-- It rounds to one of the two integers around it. -/
theorem RoundsMagnitude.eq_or_eq (h : RoundsMagnitude rm neg t n) (lower : k ≤ t) (upper : t < k + 1) : n = k ∨ n = k + 1 := by
  have near : (k : ℝ) < n + 1 ∧ (n : ℝ) < k + 2 := by
    unfold RoundsMagnitude at h
    split_ifs at h
    · obtain ⟨h1, h2⟩ := abs_le.1 h.1
      constructor <;> linarith
    all_goals
      obtain ⟨h1, h2⟩ := h
      constructor <;> linarith
  have : k < n + 1 := by exact_mod_cast near.1
  have : n < k + 2 := by exact_mod_cast near.2
  omega

/-- No number w outside the unit interval around t is nearer than n; an equally near one is only on the other side of a midpoint. -/
theorem RoundsMagnitude.nearest_le (h : RoundsMagnitude 0#2 neg t n) (lower : k ≤ t) (upper : t < k + 1) (gap : w ≤ k ∨ k + 1 ≤ w) :
    |n - t| ≤ |w - t| ∧ (|n - t| = |w - t| → w ≠ n → n % 2 = 0) := by
  obtain ⟨near, tie⟩ := h.nearest
  have far : |n - t| ≤ |w - t| ∧ (|n - t| = |w - t| → w ≠ n → |n - t| = 1 / 2) := by
    rcases h.eq_or_eq lower upper with rfl | rfl
    · rw [abs_of_nonpos (by linarith)] at near ⊢
      rcases gap with le | ge
      · rw [abs_of_nonpos (by linarith)]
        exact ⟨by linarith, fun same ne => absurd (by linarith) ne⟩
      · rw [abs_of_pos (by linarith)]
        exact ⟨by linarith, fun same _ => by linarith⟩
    · push_cast at near ⊢
      rw [abs_of_pos (by linarith)] at near ⊢
      rcases gap with le | ge
      · rw [abs_of_nonpos (by linarith)]
        exact ⟨by linarith, fun same _ => by linarith⟩
      · rw [abs_of_pos (by linarith)]
        exact ⟨by linarith, fun same ne => absurd (by linarith) ne⟩
  exact ⟨far.1, fun same ne => tie (far.2 same ne)⟩

/-- Rounded away from zero it is the least number not below t. -/
theorem RoundsMagnitude.away_le (h : RoundsMagnitude rm neg t n) (away : roundsAway rm neg = true) (lower : k ≤ t) (upper : t < k + 1)
    (gap : w ≤ k ∨ k + 1 ≤ w) (hw : t ≤ w) : n ≤ w := by
  obtain ⟨-, below⟩ := h.away away
  rcases h.eq_or_eq lower upper with rfl | rfl
  · linarith
  · push_cast at below ⊢
    rcases gap with le | ge <;> linarith

/-- Rounded toward zero it is the greatest number not above t. -/
theorem RoundsMagnitude.le_toward (h : RoundsMagnitude rm neg t n) (other : rm ≠ 0#2) (toward : ¬ roundsAway rm neg = true)
    (lower : k ≤ t) (upper : t < k + 1) (gap : w ≤ k ∨ k + 1 ≤ w) (hw : w ≤ t) : w ≤ n := by
  obtain ⟨below, -⟩ := h.toward other toward
  rcases h.eq_or_eq lower upper with rfl | rfl
  · rcases gap with le | ge <;> linarith
  · push_cast at below
    linarith

end

/-- A magnitude t in units of 2^q, rounded to n units, where the format has no number between the units k and k + 1 around it, is correctly
rounded. -/
theorem correctlyRounded_of_grid {f : Fmt} {rm : BitVec 2} {neg : Bool} {t : ℝ} {q : Int} {k n : Nat} {r : FpRes} (lower : k ≤ t)
    (upper : t < k + 1) (gap : ∀ u z, f.value u = some z → |(z : ℝ)| ≤ k * 2 ^ q ∨ (k + 1) * 2 ^ q ≤ |(z : ℝ)|)
    (rounds : RoundsMagnitude rm neg t n) (value : f.value r.value = some (finiteValue neg n q))
    (parity : n % 2 = 0 → r.value.getLsbD 0 = false) (inexact : r.status.getLsbD 0 = true ↔ (n : ℝ) ≠ t) :
    CorrectlyRounded f rm (signOf neg * (t * 2 ^ q)) r := by
  have unit : (0 : ℝ) < 2 ^ q := by positivity
  have scaled (z : ℝ) : ∃ w, z = signOf neg * (w * 2 ^ q) := ⟨signOf neg * z / 2 ^ q, by
    rw [div_mul_cancel₀ _ unit.ne', ← mul_assoc, signOf_mul_self, one_mul]⟩
  have magnitude (w : ℝ) : |signOf neg * (w * 2 ^ q)| = |w| * 2 ^ q := by
    rw [abs_mul, abs_signOf, one_mul, abs_mul, abs_of_pos unit]
  have distance (w w' : ℝ) : |signOf neg * (w * 2 ^ q) - signOf neg * (w' * 2 ^ q)| = |w - w'| * 2 ^ q := by
    rw [← mul_sub, ← sub_mul, magnitude]
  have units {u : DWord} {z : ℚ} (hz : f.value u = some z) {w : ℝ} (hw : (z : ℝ) = signOf neg * (w * 2 ^ q)) :
      |w| ≤ k ∨ k + 1 ≤ |w| := by
    have := gap u z hz
    rwa [hw, magnitude, mul_le_mul_iff_left₀ unit, mul_le_mul_iff_left₀ unit] at this
  have t0 : 0 ≤ t := le_trans (Nat.cast_nonneg k) lower
  have signed {w : ℝ} (h : |w| ≤ k ∨ k + 1 ≤ |w|) : w ≤ k ∨ k + 1 ≤ w := by
    rcases abs_cases w with ⟨same, -⟩ | ⟨-, negative⟩
    · rwa [same] at h
    · exact .inl (negative.le.trans (Nat.cast_nonneg k))
  have order (w w' : ℝ) :
      signOf neg * (w * 2 ^ q) ≤ signOf neg * (w' * 2 ^ q) ↔ if neg then w' ≤ w else w ≤ w' := by
    cases neg <;> simp [signOf, unit]
  have y : ((finiteValue neg n q : ℚ) : ℝ) = signOf neg * (n * 2 ^ q) := cast_finiteValue neg n q
  have least (up : ∀ w : ℝ, (w ≤ k ∨ k + 1 ≤ w) → (if neg then w ≤ t else t ≤ w) → if neg then w ≤ n else n ≤ w)
      (u : DWord) (z : ℚ) (hz : f.value u = some z) (le : signOf neg * (t * 2 ^ q) ≤ z) : finiteValue neg n q ≤ z := by
    obtain ⟨w, hw⟩ := scaled z
    rw [hw, order] at le
    rw [← Rat.cast_le (K := ℝ), hw, y, order]
    exact up w (signed (units hz hw)) le
  have greatest (down : ∀ w : ℝ, (w ≤ k ∨ k + 1 ≤ w) → (if neg then t ≤ w else w ≤ t) → if neg then n ≤ w else w ≤ n)
      (u : DWord) (z : ℚ) (hz : f.value u = some z) (le : z ≤ signOf neg * (t * 2 ^ q)) : z ≤ finiteValue neg n q := by
    obtain ⟨w, hw⟩ := scaled z
    rw [hw, order] at le
    rw [← Rat.cast_le (K := ℝ), hw, y, order]
    exact down w (signed (units hz hw)) le
  refine ⟨_, value, ?inexact, ?nearest, ?zero, ?plus, ?minus⟩
  case inexact =>
    rw [inexact, y, Ne, Ne, mul_right_inj' (by cases neg <;> norm_num [signOf]), mul_left_inj' unit.ne']
  case nearest =>
    rintro rfl u z hz
    obtain ⟨w, hw⟩ := scaled z
    obtain ⟨near, tie⟩ := rounds.nearest_le lower upper (signed (units hz hw))
    rw [y, hw, distance, distance]
    refine ⟨mul_le_mul_of_nonneg_right near unit.le, fun same ne => parity (tie (mul_right_cancel₀ unit.ne' same) ?_)⟩
    rintro rfl
    exact ne (Rat.cast_injective (hw.trans y.symm))
  case zero =>
    rintro rfl
    have toward : ¬ roundsAway 1#2 neg = true := by cases neg <;> decide
    rw [y, magnitude, magnitude, abs_of_nonneg t0, Nat.abs_cast]
    refine ⟨mul_le_mul_of_nonneg_right (rounds.toward (by decide) toward).1 unit.le, ?_, fun u z hz le _ => ?_⟩
    · rw [mul_mul_mul_comm, signOf_mul_self, one_mul]
      positivity
    · obtain ⟨w, hw⟩ := scaled z
      rw [hw, magnitude, mul_le_mul_iff_left₀ unit] at le
      have le' := rounds.le_toward (by decide) toward lower upper (units hz hw) le
      rw [← Rat.cast_le (K := ℝ), Rat.cast_abs, Rat.cast_abs, hw, y, magnitude, magnitude, Nat.abs_cast]
      exact mul_le_mul_of_nonneg_right le' unit.le
  case plus =>
    rintro rfl
    rw [y, order]
    cases neg
    · exact ⟨(rounds.away rfl).1, least fun w gap le => rounds.away_le rfl lower upper gap le⟩
    · exact ⟨(rounds.toward (by decide) (by decide)).1, least fun w gap le =>
        rounds.le_toward (by decide) (by decide) lower upper gap le⟩
  case minus =>
    rintro rfl
    rw [y, order]
    cases neg
    · exact ⟨(rounds.toward (by decide) (by decide)).1, greatest fun w gap le =>
        rounds.le_toward (by decide) (by decide) lower upper gap le⟩
    · exact ⟨(rounds.away rfl).1, greatest fun w gap le => rounds.away_le rfl lower upper gap le⟩

/-! ## Patterns of numbers -/

theorem Fmt.emin_eq (f : Fmt) : f.emin = 1 - f.bias := rfl

/-- The biased exponents of finite numbers lie below `2^expBits - 1`, which is twice the bias and one. -/
theorem Fmt.expBits_eq (f : Fmt) : 2 ^ f.expBits - 1 = 2 * f.bias + 1 := by cases f <;> rfl

/-- The fields of a pattern that is put together from them. -/
theorem Fmt.fields_signed (f : Fmt) (neg : Bool) {E F : Nat} (hE : E < 2 ^ f.expBits) (hF : F < 2 ^ f.frac) :
    f.expField (f.signed neg (E * 2 ^ f.frac + F)) = E ∧ f.fracField (f.signed neg (E * 2 ^ f.frac + F)) = F ∧
      f.sign (f.signed neg (E * 2 ^ f.frac + F)) = neg := by
  simp only [Fmt.expField, Fmt.fracField, Fmt.sign, Fmt.signed, BitVec.getLsbD, Nat.testBit_eq_decide_div_mod_eq, BitVec.toNat_ofNat]
  cases f <;> cases neg <;> simp only [Fmt.frac, Fmt.expBits, Bool.false_eq_true, if_true, if_false, decide_eq_true_eq,
    decide_eq_false_iff_not] at * <;> omega

theorem Fmt.unpack_signed (f : Fmt) (neg : Bool) {E F : Nat} (hE : E < 2 ^ f.expBits - 1) (hF : F < 2 ^ f.frac) :
    f.unpack (f.signed neg (E * 2 ^ f.frac + F)) =
      if E = 0 then .fin neg F (f.emin - f.frac) else .fin neg (F + 2 ^ f.frac) (E - f.bias - f.frac) := by
  obtain ⟨exp, frac, sign⟩ := f.fields_signed neg (show E < 2 ^ f.expBits by omega) hF
  simp only [Fmt.unpack, exp, frac, sign, if_neg hE.ne]

theorem finiteValue_double (neg : Bool) (m : Nat) (e : Int) : finiteValue neg (2 * m) e = finiteValue neg m (e + 1) := by
  rw [finiteValue, finiteValue, zpow_add_one₀ two_ne_zero]
  push_cast
  ring

/-- The pattern that stands for n units in the last place under the biased exponent E; E = 1 covers what lies below the normal range, and n
may carry into the next exponent. -/
structure Fmt.InRange (f : Fmt) (E n : Nat) : Prop where
  units : (E = 1 ∧ n ≤ 2 ^ f.frac) ∨ (2 ^ f.frac ≤ n ∧ n ≤ 2 ^ (f.frac + 1))
  exponent : E ≤ 2 * f.bias
  carry : n = 2 ^ (f.frac + 1) → E < 2 * f.bias
  normal : E = 0 → n = 2 ^ (f.frac + 1)

/-- Its bits below the sign. -/
def Fmt.pattern (f : Fmt) (E n : Nat) : Nat := E * 2 ^ f.frac + n - 2 ^ f.frac

/-- The three forms of a pattern: below the normal range, in it, and carried into the next exponent. -/
theorem Fmt.InRange.cases {f : Fmt} {E n : Nat} (h : f.InRange E n) :
    (E = 1 ∧ n < 2 ^ f.frac ∧ f.pattern E n = 0 * 2 ^ f.frac + n) ∨
    (1 ≤ E ∧ n < 2 * 2 ^ f.frac ∧ ∃ F, n = F + 2 ^ f.frac ∧ f.pattern E n = E * 2 ^ f.frac + F) ∨
    (n = 2 * 2 ^ f.frac ∧ E < 2 * f.bias ∧ f.pattern E n = (E + 1) * 2 ^ f.frac + 0) := by
  obtain ⟨units, -, carry, normal⟩ := h
  rw [pow_succ'] at units carry normal
  unfold Fmt.pattern
  rcases lt_or_ge n (2 ^ f.frac) with below | above
  · have one : E = 1 := by omega
    subst one
    exact .inl ⟨rfl, below, by omega⟩
  · obtain ⟨F, rfl⟩ := Nat.exists_eq_add_of_le' above
    rcases lt_or_ge (F + 2 ^ f.frac) (2 * 2 ^ f.frac) with inside | carried
    · exact .inr (.inl ⟨by omega, inside, F, rfl, by omega⟩)
    · have top : F + 2 ^ f.frac = 2 * 2 ^ f.frac := by
        rcases units with ⟨-, h⟩ | ⟨-, h⟩ <;> omega
      exact .inr (.inr ⟨top, carry top, by rw [add_mul, top]; omega⟩)

/-- The number of a pattern. -/
theorem Fmt.InRange.value {f : Fmt} {E n : Nat} (h : f.InRange E n) (neg : Bool) :
    f.value (f.signed neg (f.pattern E n)) = some (finiteValue neg n (E - f.bias - f.frac)) := by
  have exponents := f.expBits_eq
  have exponent := h.exponent
  rcases h.cases with ⟨rfl, below, bits⟩ | ⟨one, inside, F, rfl, bits⟩ | ⟨rfl, carry, bits⟩
  · have unpack := f.unpack_signed neg (show 0 < 2 ^ f.expBits - 1 by omega) below
    rw [bits, Fmt.value_of_unpack (unpack.trans (if_pos rfl))]
    rfl
  · have unpack := f.unpack_signed neg (show E < 2 ^ f.expBits - 1 by omega) (show F < 2 ^ f.frac by omega)
    rw [bits, Fmt.value_of_unpack (unpack.trans (if_neg (by omega)))]
  · have unpack := f.unpack_signed neg (show E + 1 < 2 ^ f.expBits - 1 by omega) (Nat.two_pow_pos _)
    rw [bits, Fmt.value_of_unpack (unpack.trans (if_neg (by omega))), finiteValue_double, zero_add]
    congr 2
    push_cast
    ring

/-- It is denormalized below the normal range, but for zero. -/
theorem Fmt.InRange.denormalized_iff {f : Fmt} {E n : Nat} (h : f.InRange E n) (neg : Bool) :
    f.Denormalized (f.signed neg (f.pattern E n)) ↔ n ≠ 0 ∧ n < 2 ^ f.frac := by
  have exponents := f.expBits_eq
  have exponent := h.exponent
  rw [f.denormalized_iff]
  rcases h.cases with ⟨rfl, below, bits⟩ | ⟨one, inside, F, rfl, bits⟩ | ⟨rfl, carry, bits⟩
  · obtain ⟨exp, frac, -⟩ := f.fields_signed neg (Nat.two_pow_pos _) below
    rw [bits, exp, frac]
    tauto
  · obtain ⟨exp, -, -⟩ := f.fields_signed neg (show E < 2 ^ f.expBits by omega) (show F < 2 ^ f.frac by omega)
    rw [bits, exp]
    omega
  · obtain ⟨exp, -, -⟩ := f.fields_signed neg (show E + 1 < 2 ^ f.expBits by omega) (Nat.two_pow_pos f.frac)
    rw [bits, exp]
    omega

/-- Its lowest bit is that of n. -/
theorem Fmt.InRange.parity {f : Fmt} {E n : Nat} (h : f.InRange E n) (neg : Bool) (even : n % 2 = 0) :
    (f.signed neg (f.pattern E n)).getLsbD 0 = false := by
  have bits : f.pattern E n + 2 ^ f.frac = E * 2 ^ f.frac + n := by
    have one : E = 0 ∨ 2 ^ f.frac ≤ E * 2 ^ f.frac := E.eq_zero_or_pos.imp_right fun pos => Nat.le_mul_of_pos_left _ pos
    obtain ⟨-, -, -, normal⟩ := h
    rw [pow_succ'] at normal
    unfold Fmt.pattern
    omega
  rw [Fmt.signed, BitVec.getLsbD, BitVec.toNat_ofNat, Nat.testBit_zero, decide_eq_false_iff_not]
  cases f <;> cases neg <;> simp only [Fmt.frac, Fmt.expBits, Bool.false_eq_true, if_true, if_false] at * <;> omega

/-- A format has no number between neighbouring units of 2^q, where these are the units of a normal number or of the least exponent. -/
theorem Fmt.gap {f : Fmt} {u : DWord} {z : ℚ} (h : f.value u = some z) {q : Int} {k : Nat}
    (hk : 2 ^ f.frac ≤ k ∨ q ≤ f.emin - f.frac) : |(z : ℝ)| ≤ k * 2 ^ q ∨ (k + 1) * 2 ^ q ≤ |(z : ℝ)| := by
  obtain ⟨x, m, e, unpack, rfl⟩ := Fmt.unpack_of_value h
  obtain ⟨-, -, fields⟩ := Fmt.unpack_eq_fin unpack
  have frac := f.fracField_lt u
  have magnitude : |((finiteValue x m e : ℚ) : ℝ)| = m * 2 ^ e := by
    rw [← Rat.cast_abs, abs_finiteValue]
    push_cast
    rfl
  have small : m < 2 * 2 ^ f.frac ∧ f.emin - f.frac ≤ e := by
    rw [f.emin_eq] at *
    omega
  rw [magnitude]
  rcases le_or_gt q e with le | lt
  · have unit : (0 : ℝ) < 2 ^ q := by positivity
    have scale : (m : ℝ) * 2 ^ e = (m * 2 ^ (e - q).toNat : ℕ) * 2 ^ q := by
      push_cast
      rw [mul_assoc, ← zpow_natCast, Int.toNat_of_nonneg (by omega), ← zpow_add₀ two_ne_zero, sub_add_cancel]
    rw [scale, mul_le_mul_iff_left₀ unit, mul_le_mul_iff_left₀ unit]
    exact_mod_cast le_or_gt (m * 2 ^ (e - q).toNat) k
  · left
    have large : ((2 ^ f.frac : ℕ) : ℝ) ≤ k := by exact_mod_cast hk.resolve_right (by omega)
    have bound : (m : ℝ) ≤ 2 * ((2 ^ f.frac : ℕ) : ℝ) := by exact_mod_cast small.1.le
    calc (m : ℝ) * 2 ^ e ≤ 2 * ((2 ^ f.frac : ℕ) : ℝ) * 2 ^ e := by gcongr
      _ = ((2 ^ f.frac : ℕ) : ℝ) * 2 ^ (e + 1) := by rw [zpow_add_one₀ two_ne_zero]; ring
      _ ≤ k * 2 ^ q := by
        gcongr
        · norm_num
        · omega

end Sys2Proof.Machine

end

section
/-! PROOFS. `Fmt.round` (R636, R650): where it overflows and what is tiny, and that what it delivers is correctly rounded, with its
status. -/

namespace Sys2Proof.Machine

/-! ## Overflow and tininess -/

/-- Rounded, the magnitude t is M or more. -/
def ReachesUnits (rm : BitVec 2) (neg : Bool) (t : ℝ) (M : Nat) : Prop :=
  if rm = 0#2 then M - 1 / 2 ≤ t else if roundsAway rm neg then M - 1 < t else M ≤ t

theorem ReachesUnits.of_le {t : ℝ} {M : Nat} (h : M ≤ t) (rm : BitVec 2) (neg : Bool) : ReachesUnits rm neg t M := by
  unfold ReachesUnits
  split_ifs <;> linarith

theorem ReachesUnits.lt {rm : BitVec 2} {neg : Bool} {t : ℝ} {M : Nat} (h : ReachesUnits rm neg t M) : M - 1 < t := by
  unfold ReachesUnits at h
  split_ifs at h <;> linarith

/-- A magnitude just below the even number M rounds to M where it reaches it. -/
theorem RoundsMagnitude.eq_iff_reaches {rm : BitVec 2} {neg : Bool} {t : ℝ} {n M : Nat} (h : RoundsMagnitude rm neg t n)
    (even : M % 2 = 0) (below : t < M) : n = M ↔ ReachesUnits rm neg t M := by
  constructor
  · rintro rfl
    unfold RoundsMagnitude at h
    unfold ReachesUnits
    split_ifs at h ⊢
    · linarith [(abs_le.1 h.1).2]
    · linarith [h.2]
    · linarith [h.1]
  · intro reaches
    unfold RoundsMagnitude at h
    unfold ReachesUnits at reaches
    split_ifs at h reaches with nearest away
    · obtain ⟨near, tie⟩ := h
      obtain ⟨h1, h2⟩ := abs_le.1 near
      have upper : n < M + 1 := by exact_mod_cast (show (n : ℝ) < M + 1 by linarith)
      have lower : M ≤ n + 1 := by exact_mod_cast (show (M : ℝ) ≤ n + 1 by linarith)
      by_contra ne
      have odd : n + 1 = M := by omega
      have cast : (n : ℝ) + 1 = M := by exact_mod_cast odd
      have := tie (by rw [abs_of_neg (by linarith)]; linarith)
      omega
    · have upper : n < M + 1 := by exact_mod_cast (show (n : ℝ) < M + 1 by linarith)
      have lower : M < n + 1 := by exact_mod_cast (show (M : ℝ) < n + 1 by linarith)
      omega
    · exact absurd below (not_lt.2 reaches)

/-- `Fmt.RoundsTo` with the precision of the format. -/
theorem Fmt.roundsTo_def (f : Fmt) (rm : BitVec 2) (power : Int) (x : ℝ) :
    f.RoundsTo rm power x ↔
      if rm = 0#2 then (2 : ℝ) ^ power - 2 ^ (power - f.frac - 1) / 2 ≤ |x|
      else if (rm = 2#2 ∧ 0 < x) ∨ (rm = 3#2 ∧ x < 0) then (2 : ℝ) ^ power - 2 ^ (power - f.frac - 1) < |x|
      else (2 : ℝ) ^ power ≤ |x| := by
  cases f
  · rw [show power - (Fmt.s.frac : Int) - 1 = power - 24 by rw [Fmt.frac]; omega]
    rfl
  · rw [show power - (Fmt.d.frac : Int) - 1 = power - 53 by rw [Fmt.frac]; omega]
    rfl

/-- `Fmt.RoundsTo` in units in the last place just below the power. -/
theorem Fmt.roundsTo_iff {f : Fmt} {rm : BitVec 2} {neg : Bool} {a : ℝ} (pos : 0 < a) (power : Int) :
    f.RoundsTo rm power (signOf neg * a) ↔ ReachesUnits rm neg (a / 2 ^ (power - f.frac - 1)) (2 ^ (f.frac + 1)) := by
  have unit : (0 : ℝ) < 2 ^ (power - f.frac - 1) := by positivity
  have top : (2 : ℝ) ^ power = ((2 ^ (f.frac + 1) : ℕ) : ℝ) * 2 ^ (power - f.frac - 1) := by
    push_cast
    rw [← zpow_natCast, ← zpow_add₀ two_ne_zero]
    congr 1
    push_cast
    ring
  have negative : signOf neg * a < 0 ↔ neg = true := by cases neg <;> simp [signOf, pos, pos.le]
  have positive : 0 < signOf neg * a ↔ neg = false := by cases neg <;> simp [signOf, pos, pos.le]
  have away : (rm = 2#2 ∧ 0 < signOf neg * a) ∨ (rm = 3#2 ∧ signOf neg * a < 0) ↔ roundsAway rm neg = true := by
    rw [negative, positive, roundsAway]
    simp
  rw [f.roundsTo_def, abs_mul, abs_signOf, one_mul, abs_of_pos pos, top]
  simp only [away]
  unfold ReachesUnits
  split_ifs
  · rw [le_div_iff₀ unit, sub_mul, div_mul_eq_mul_div, one_mul]
  · rw [lt_div_iff₀ unit, sub_mul, one_mul]
  · rw [le_div_iff₀ unit]

/-- The exponent of a magnitude once it is rounded to the precision of the format: x, or the next one after a carry. -/
theorem Fmt.roundsTo_iff_le {f : Fmt} {rm : BitVec 2} {neg : Bool} {a : ℝ} {x : Int} (lower : 2 ^ x ≤ a)
    (upper : a < 2 ^ (x + 1)) {n : Nat} (rounds : RoundsMagnitude rm neg (a / 2 ^ (x - f.frac)) n) (power : Int) :
    f.RoundsTo rm power (signOf neg * a) ↔ power ≤ if n = 2 ^ (f.frac + 1) then x + 1 else x := by
  have pos : 0 < a := lt_of_lt_of_le (by positivity) lower
  rw [Fmt.roundsTo_iff pos]
  have unit : (0 : ℝ) < 2 ^ (power - f.frac - 1) := by positivity
  have scale (j : Nat) : (2 : ℝ) ^ (power - f.frac - 1 + j) = ((2 ^ j : ℕ) : ℝ) * 2 ^ (power - f.frac - 1) := by
    rw [zpow_add₀ two_ne_zero, zpow_natCast, mul_comm]
    push_cast
    rfl
  rcases lt_trichotomy power (x + 1) with below | rfl | above
  · refine iff_of_true (.of_le ?_ rm neg) (by split_ifs <;> omega)
    rw [le_div_iff₀ unit, ← scale]
    exact le_trans (zpow_le_zpow_right₀ one_le_two (by push_cast; omega)) lower
  · rw [show x + 1 - (f.frac : Int) - 1 = x - f.frac by omega] at scale unit ⊢
    have even : 2 ^ (f.frac + 1) % 2 = 0 := by omega
    have small : a / 2 ^ (x - f.frac) < ((2 ^ (f.frac + 1) : ℕ) : ℝ) := by
      rw [div_lt_iff₀ unit, ← scale]
      exact lt_of_lt_of_eq upper (congrArg _ (by push_cast; omega))
    rw [← rounds.eq_iff_reaches even small]
    split_ifs with carry
    · exact iff_of_true carry le_rfl
    · exact iff_of_false carry (by omega)
  · refine iff_of_false (fun reaches => ?_) (by split_ifs <;> omega)
    have small : a / 2 ^ (power - f.frac - 1) < ((2 ^ f.frac : ℕ) : ℝ) := by
      rw [div_lt_iff₀ unit, ← scale]
      exact lt_of_lt_of_le upper (zpow_le_zpow_right₀ one_le_two (by omega))
    have reached := reaches.lt
    have double : ((2 ^ (f.frac + 1) : ℕ) : ℝ) = 2 * ((2 ^ f.frac : ℕ) : ℝ) := by rw [pow_succ']; push_cast; rfl
    have one : (1 : ℝ) ≤ ((2 ^ f.frac : ℕ) : ℝ) := by exact_mod_cast Nat.one_le_two_pow
    linarith

theorem Fmt.overflows_iff (f : Fmt) (rm : BitVec 2) (v : ℝ) : f.Overflows rm v ↔ f.RoundsTo rm (f.emax + 1) v := by
  cases f <;> exact Iff.rfl

theorem Fmt.tiny_iff (f : Fmt) (rm : BitVec 2) (v : ℝ) : f.Tiny rm v ↔ ¬ f.RoundsTo rm f.emin v := by
  cases f <;> exact Iff.rfl

theorem Fmt.overflow_eq (f : Fmt) (rm : BitVec 2) (neg : Bool) : f.overflow rm neg = f.overflowed rm neg := by
  cases f <;> revert rm neg <;> decide

/-! ## What `Fmt.round` delivers -/

theorem RoundsMagnitude.floor {rm : BitVec 2} {neg : Bool} {t : ℝ} {n : Nat} (h : RoundsMagnitude rm neg t n) (h0 : 0 ≤ t) :
    n = ⌊t⌋₊ ∨ n = ⌊t⌋₊ + 1 := h.eq_or_eq (Nat.floor_le h0) (Nat.lt_floor_add_one t)

theorem RoundsMagnitude.le_of_lt {rm : BitVec 2} {neg : Bool} {t : ℝ} {n M : Nat} (h : RoundsMagnitude rm neg t n) (h0 : 0 ≤ t)
    (ht : t < M) : n ≤ M := by
  have := (Nat.floor_lt h0).2 ht
  rcases h.floor h0 with rfl | rfl <;> omega

theorem RoundsMagnitude.ge_of_ge {rm : BitVec 2} {neg : Bool} {t : ℝ} {n M : Nat} (h : RoundsMagnitude rm neg t n) (ht : M ≤ t) :
    M ≤ n := by
  have h0 : 0 ≤ t := (Nat.cast_nonneg M).trans ht
  have := Nat.le_floor ht
  rcases h.floor h0 with rfl | rfl <;> omega

theorem Magnitude.bounds {a : ℝ} {m : Nat} {e : Int} {sticky : Bool} (h : Magnitude a m e sticky) (hm : m ≠ 0) :
    2 ^ (e + (Nat.log2 m : Int)) ≤ a ∧ a < 2 ^ (e + (Nat.log2 m : Int) + 1) := by
  obtain ⟨δ, h0, h1, -, rfl⟩ := h.exists_rest
  have unit : (0 : ℝ) < 2 ^ e := by positivity
  have lower : ((2 ^ Nat.log2 m : ℕ) : ℝ) ≤ m := by exact_mod_cast Nat.log2_self_le hm
  have upper : (m : ℝ) + 1 ≤ ((2 ^ (Nat.log2 m + 1) : ℕ) : ℝ) := by exact_mod_cast Nat.lt_log2_self
  have scale (j : Nat) : (2 : ℝ) ^ (e + (j : Int)) = ((2 ^ j : ℕ) : ℝ) * 2 ^ e := by
    rw [zpow_add₀ two_ne_zero, zpow_natCast, mul_comm]
    push_cast
    rfl
  rw [add_assoc, ← Nat.cast_succ, scale, scale, mul_le_mul_iff_left₀ unit, mul_lt_mul_iff_left₀ unit]
  constructor <;> linarith

/-- A result r delivers the magnitude a, of a number with this sign, as n units in the last place under the biased exponent E. -/
structure Fmt.Delivers (f : Fmt) (rm : BitVec 2) (neg : Bool) (a : ℝ) (r : FpRes) (E n : Nat) : Prop where
  range : f.InRange E n
  fine : ((2 ^ f.frac : ℕ) : ℝ) ≤ a / 2 ^ ((E : Int) - f.bias - f.frac) ∨ E = 1
  rounds : RoundsMagnitude rm neg (a / 2 ^ ((E : Int) - f.bias - f.frac)) n
  value : r.value = f.signed neg (f.pattern E n)
  inexact : r.status.getLsbD 0 = true ↔ (n : ℝ) ≠ a / 2 ^ ((E : Int) - f.bias - f.frac)
  underflow : r.status.getLsbD 1 = true ↔ f.Tiny rm (signOf neg * a) ∧ r.status.getLsbD 0 = true
  quiet : r.status.extractLsb' 2 4 = 0#4
  denorm : r.denorm = true ↔ n ≠ 0 ∧ n < 2 ^ f.frac

section

variable {f : Fmt} {rm : BitVec 2} {neg : Bool} {a : ℝ} {E n : Nat} {i : Bool}

/-- Below the normal range: the units of the least exponent. -/
theorem Fmt.Delivers.of_tiny (range : f.InRange 1 n) (rounds : RoundsMagnitude rm neg (a / 2 ^ (((1 : ℕ) : Int) - f.bias - f.frac)) n)
    (inexact : i = true ↔ (n : ℝ) ≠ a / 2 ^ (((1 : ℕ) : Int) - f.bias - f.frac)) (tiny : f.Tiny rm (signOf neg * a)) :
    f.Delivers rm neg a ⟨f.signed neg n, if i then fpU ||| fpI else 0, decide (n ≠ 0 ∧ n < 2 ^ f.frac)⟩ 1 n := by
  obtain ⟨bit0, bit1, quiet⟩ : (if i then fpU ||| fpI else 0 : FpStatus).getLsbD 0 = i ∧
      (if i then fpU ||| fpI else 0 : FpStatus).getLsbD 1 = i ∧ (if i then fpU ||| fpI else 0 : FpStatus).extractLsb' 2 4 = 0#4 := by
    cases i <;> decide
  exact {
    range := range
    fine := .inr rfl
    rounds := rounds
    value := by rw [Fmt.pattern, Nat.one_mul, Nat.add_sub_cancel_left]
    inexact := (Bool.eq_iff_iff.1 bit0).trans inexact
    underflow := (Bool.eq_iff_iff.1 bit1).trans ((Bool.eq_iff_iff.1 bit0).symm.trans (and_iff_right tiny).symm)
    quiet := quiet
    denorm := decide_eq_true_iff }

/-- In the normal range. -/
theorem Fmt.Delivers.of_normal (range : f.InRange E n) (fine : ((2 ^ f.frac : ℕ) : ℝ) ≤ a / 2 ^ ((E : Int) - f.bias - f.frac))
    (rounds : RoundsMagnitude rm neg (a / 2 ^ ((E : Int) - f.bias - f.frac)) n)
    (inexact : i = true ↔ (n : ℝ) ≠ a / 2 ^ ((E : Int) - f.bias - f.frac)) (normal : ¬ f.Tiny rm (signOf neg * a)) :
    f.Delivers rm neg a ⟨f.signed neg (f.pattern E n), inexactStatus i, false⟩ E n := by
  obtain ⟨bit0, bit1, quiet⟩ : (inexactStatus i).getLsbD 0 = i ∧ (inexactStatus i).getLsbD 1 = false ∧
      (inexactStatus i).extractLsb' 2 4 = 0#4 := by
    cases i <;> decide
  exact {
    range := range
    fine := .inl fine
    rounds := rounds
    value := rfl
    inexact := (Bool.eq_iff_iff.1 bit0).trans inexact
    underflow := iff_of_false (Bool.eq_false_iff.1 bit1) fun h => normal h.1
    quiet := quiet
    denorm := iff_of_false Bool.false_ne_true fun h => absurd h.2 (not_lt.2 (rounds.ge_of_ge fine)) }

end

theorem Fmt.one_le_bias (f : Fmt) : 1 ≤ f.bias := by cases f <;> decide

/-- `Fmt.round` overflows, or delivers its magnitude. -/
theorem Fmt.round_cases {f : Fmt} {neg : Bool} {a : ℝ} {m : Nat} {e : Int} {sticky : Bool} (mag : Magnitude a m e sticky)
    (hm : m ≠ 0) (hs : sticky = true → f.frac < Nat.log2 m) (rm : BitVec 2) :
    (f.Overflows rm (signOf neg * a) ∧ f.round rm neg m e sticky = f.overflowed rm neg) ∨
      (¬ f.Overflows rm (signOf neg * a) ∧ ∃ E n, f.Delivers rm neg a (f.round rm neg m e sticky) E n) := by
  obtain ⟨lower, upper⟩ := mag.bounds hm
  have a0 : 0 ≤ a := le_trans (by positivity) lower
  rw [f.overflows_iff]
  have tiny := f.tiny_iff rm (signOf neg * a)
  have bias := f.one_le_bias
  have emin := f.emin_eq
  have emax : f.emax = f.bias := rfl
  unfold Fmt.round
  extract_lets x n x1 low
  obtain ⟨rounds, inexact⟩ : RoundsMagnitude rm neg (a / 2 ^ (x - f.frac)) n.1 ∧
      (n.2 = true ↔ (n.1 : ℝ) ≠ a / 2 ^ (x - f.frac)) := roundAt_spec mag (fun h => by have := hs h; omega) rm neg
  have reach (power : Int) : f.RoundsTo rm power (signOf neg * a) ↔ power ≤ x1 := Fmt.roundsTo_iff_le lower upper rounds power
  have unit (q : Int) : (0 : ℝ) < 2 ^ q := by positivity
  have scale (q : Int) (j : Nat) : ((2 ^ j : ℕ) : ℝ) * 2 ^ q = 2 ^ (q + j) := by
    rw [zpow_add₀ two_ne_zero, zpow_natCast, mul_comm]
    push_cast
    rfl
  have carried : x1 = x ∧ n.1 ≠ 2 ^ (f.frac + 1) ∨ x1 = x + 1 ∧ n.1 = 2 ^ (f.frac + 1) := by
    unfold x1
    split_ifs with carry
    · exact .inr ⟨rfl, carry⟩
    · exact .inl ⟨rfl, carry⟩
  rw [reach] at tiny ⊢
  by_cases below : x1 < f.emin
  · rw [if_pos below]
    right
    obtain ⟨rounds', inexact'⟩ : RoundsMagnitude rm neg (a / 2 ^ (f.emin - f.frac)) low.1 ∧
        (low.2 = true ↔ (low.1 : ℝ) ≠ a / 2 ^ (f.emin - f.frac)) := roundAt_spec mag (fun h => by have := hs h; omega) rm neg
    have least : ((1 : ℕ) : Int) - f.bias - f.frac = f.emin - f.frac := by omega
    have small : a / 2 ^ (f.emin - f.frac) < ((2 ^ f.frac : ℕ) : ℝ) := by
      rw [div_lt_iff₀ (unit _), scale]
      exact upper.trans_le (zpow_le_zpow_right₀ one_le_two (by omega))
    have units := rounds'.le_of_lt (by positivity) small
    rw [← least] at rounds' inexact'
    exact ⟨by omega, 1, _, .of_tiny ⟨.inl ⟨rfl, units⟩, by omega, fun h => by omega, fun h => by omega⟩ rounds' inexact'
      (tiny.2 (by omega))⟩
  by_cases above : f.emax < x1
  · rw [if_neg below, if_pos above]
    exact .inl ⟨by omega, f.overflow_eq rm neg⟩
  · rw [if_neg below, if_neg above]
    right
    have large : ((2 ^ f.frac : ℕ) : ℝ) ≤ a / 2 ^ (x - f.frac) := by
      rw [le_div_iff₀ (unit _), scale, sub_add_cancel]
      exact lower
    have small : a / 2 ^ (x - f.frac) < ((2 ^ (f.frac + 1) : ℕ) : ℝ) := by
      rw [div_lt_iff₀ (unit _), scale]
      exact upper.trans_eq (congrArg _ (by push_cast; omega))
    have units_ge := rounds.ge_of_ge large
    have units_le := rounds.le_of_lt (by positivity) small
    have place : (((x + f.bias).toNat : ℕ) : Int) - f.bias - f.frac = x - f.frac := by omega
    rw [← place] at rounds inexact large
    have range : f.InRange (x + f.bias).toNat n.1 :=
      ⟨.inr ⟨units_ge, units_le⟩, by omega, fun h => by omega, fun h => by omega⟩
    exact ⟨by omega, _, _, .of_normal range large rounds inexact (tiny.not.2 (by omega))⟩

section

variable {f : Fmt} {rm : BitVec 2} {neg : Bool} {a : ℝ} {r : FpRes} {E n : Nat}

theorem Fmt.Delivers.value_eq (h : f.Delivers rm neg a r E n) : f.value r.value = some (finiteValue neg n (E - f.bias - f.frac)) := by
  rw [h.value]
  exact h.range.value neg

theorem Fmt.Delivers.correctlyRounded (h : f.Delivers rm neg a r E n) (h0 : 0 ≤ a) : CorrectlyRounded f rm (signOf neg * a) r := by
  have unit : (0 : ℝ) < 2 ^ ((E : Int) - f.bias - f.frac) := by positivity
  have units : 0 ≤ a / 2 ^ ((E : Int) - f.bias - f.frac) := by positivity
  have fine : 2 ^ f.frac ≤ ⌊a / 2 ^ ((E : Int) - f.bias - f.frac)⌋₊ ∨ (E : Int) - f.bias - f.frac ≤ f.emin - f.frac := by
    refine h.fine.imp Nat.le_floor ?_
    rintro rfl
    rw [f.emin_eq, Nat.cast_one]
  rw [← div_mul_cancel₀ a unit.ne']
  refine correctlyRounded_of_grid (Nat.floor_le units) (Nat.lt_floor_add_one _) (fun u z hz => Fmt.gap hz fine) h.rounds h.value_eq
    (fun even => ?_) h.inexact
  rw [h.value]
  exact h.range.parity neg even

/-- A zero is delivered with the sign of what was rounded to it. -/
theorem Fmt.Delivers.zero (h : f.Delivers rm neg a r E n) (hz : f.value r.value = some 0) : r.value = f.zeroOf neg := by
  rw [h.value_eq, Option.some.injEq, ← abs_eq_zero, abs_finiteValue, mul_eq_zero, or_iff_left (by positivity), Nat.cast_eq_zero] at hz
  subst hz
  have one : E = 1 := by
    rcases h.range.units with ⟨one, -⟩ | ⟨pos, -⟩
    · exact one
    · exact absurd pos (by simp)
  subst one
  rw [h.value, ← f.zero_eq, Fmt.zero, Fmt.pattern, Nat.add_zero, Nat.one_mul, Nat.sub_self]

end

theorem Fmt.infinite_not_denormalized (f : Fmt) (neg : Bool) : ¬ f.Denormalized (f.infinite neg) := by
  cases f <;> cases neg <;> exact fun h => absurd h.1 (by decide)

theorem Fmt.largestFinite_not_denormalized (f : Fmt) (neg : Bool) : ¬ f.Denormalized (f.largestFinite neg) := by
  cases f <;> cases neg <;> exact fun h => absurd h.1 (by decide)

theorem Fmt.zeroOf_not_denormalized (f : Fmt) (neg : Bool) : ¬ f.Denormalized (f.zeroOf neg) := by
  cases f <;> cases neg <;> exact fun h => h.2 rfl

theorem Fmt.overflowed_not_denormalized (f : Fmt) (rm : BitVec 2) (neg : Bool) : ¬ f.Denormalized (f.overflowed rm neg).value := by
  unfold Fmt.overflowed
  split_ifs
  · exact f.infinite_not_denormalized neg
  · exact f.largestFinite_not_denormalized neg

/-- The result r is v in the format: rounded, or where v is zero the zero with the sign z; and it is marked where it is denormalized. -/
structure Fmt.IsResult (f : Fmt) (rm : BitVec 2) (v : ℝ) (z : Bool) (r : FpRes) : Prop where
  zero : v = 0 → r = ⟨f.zeroOf z, 0, false⟩
  rounded : v ≠ 0 → Rounded f rm v r
  denorm : r.denorm = true ↔ f.Denormalized r.value

theorem Fmt.IsResult.of_zero (f : Fmt) (rm : BitVec 2) (z : Bool) : f.IsResult rm 0 z ⟨f.zeroOf z, 0, false⟩ :=
  ⟨fun _ => rfl, fun h => absurd rfl h, iff_of_false Bool.false_ne_true (f.zeroOf_not_denormalized z)⟩

/-- `Fmt.round` rounds the number of its magnitude and sign. -/
theorem Fmt.round_isResult {f : Fmt} {neg : Bool} {a : ℝ} {m : Nat} {e : Int} {sticky : Bool} (mag : Magnitude a m e sticky)
    (hm : m ≠ 0) (hs : sticky = true → f.frac < Nat.log2 m) (rm : BitVec 2) (z : Bool) :
    f.IsResult rm (signOf neg * a) z (f.round rm neg m e sticky) := by
  have pos : 0 < a := lt_of_lt_of_le (by positivity) (mag.bounds hm).1
  have nonzero : signOf neg * a ≠ 0 := mul_ne_zero (by cases neg <;> norm_num [signOf]) pos.ne'
  have sign {neg' : Bool} (h : neg' = true ↔ signOf neg * a < 0) : neg' = neg := by
    rw [Bool.eq_iff_iff, h]
    cases neg <;> simp [signOf, pos, pos.le]
  refine ⟨fun h => absurd h nonzero, fun _ neg' h => ?_, ?_⟩
  · rw [sign h]
    rcases Fmt.round_cases mag hm hs rm with ⟨large, result⟩ | ⟨inRange, E, n, delivers⟩
    · exact ⟨fun _ => result, fun h => absurd large h⟩
    · exact ⟨fun h => absurd h inRange, fun _ => ⟨delivers.correctlyRounded pos.le, delivers.zero, delivers.quiet,
        delivers.underflow⟩⟩
  · rcases Fmt.round_cases mag hm hs rm with ⟨-, result⟩ | ⟨-, E, n, delivers⟩
    · rw [result]
      exact iff_of_false Bool.false_ne_true (f.overflowed_not_denormalized rm neg)
    · rw [delivers.denorm, delivers.value]
      exact (delivers.range.denormalized_iff neg).symm

theorem Fmt.roundZ_isResult {f : Fmt} {neg : Bool} {a : ℝ} {m : Nat} {e : Int} {sticky : Bool} (mag : Magnitude a m e sticky)
    (hs : sticky = true → f.frac < Nat.log2 m) (rm : BitVec 2) : f.IsResult rm (signOf neg * a) neg (f.roundZ rm neg m e sticky) := by
  unfold Fmt.roundZ
  split_ifs with hm
  · subst hm
    have clear : ¬ sticky = true := fun h => absurd (hs h) (by simp)
    have zero : a = 0 := by
      rw [Magnitude, if_neg clear] at mag
      rw [mag, Nat.cast_zero, zero_mul]
    rw [zero, mul_zero, FpRes.exact, f.zero_eq]
    exact .of_zero f rm neg
  · exact Fmt.round_isResult mag hm hs rm neg

end Sys2Proof.Machine

end

section
/-! PROOFS. The operations on finite operands, infinities and integers (R636, R650, R930 to R953): what they compute exactly, and its
rounding. -/

namespace Sys2Proof.Machine

/-! ## Magnitudes of exact results -/

theorem Magnitude.exact (m : Nat) (e : Int) : Magnitude (m * 2 ^ e) m e false := rfl

/-- A quotient, cut off to an integer, with a sticky bit. -/
theorem Magnitude.quotient (N : Nat) {n : Nat} (hn : n ≠ 0) (e : Int) : Magnitude ((N : ℝ) / n * 2 ^ e) (N / n) e (N % n != 0) := by
  have unit : (0 : ℝ) < 2 ^ e := by positivity
  have pos : (0 : ℝ) < n := by exact_mod_cast Nat.pos_of_ne_zero hn
  have parts : (N : ℝ) = n * (N / n : ℕ) + (N % n : ℕ) := by exact_mod_cast (Nat.div_add_mod N n).symm
  unfold Magnitude
  split
  next rest =>
    rw [bne_iff_ne] at rest
    have rest : (0 : ℝ) < (N % n : ℕ) := by exact_mod_cast Nat.pos_of_ne_zero rest
    have below : ((N % n : ℕ) : ℝ) < n := by exact_mod_cast Nat.mod_lt N (Nat.pos_of_ne_zero hn)
    rw [mul_lt_mul_iff_left₀ unit, mul_lt_mul_iff_left₀ unit, lt_div_iff₀ pos, div_lt_iff₀ pos]
    constructor <;> nlinarith
  next rest =>
    rw [bne_iff_ne, not_not] at rest
    rw [parts, rest, Nat.cast_zero, add_zero, mul_div_cancel_left₀ _ pos.ne']

/-- The root of a quotient, cut off to an integer, with a sticky bit. -/
theorem Magnitude.root {N p r : Nat} (hp : p ≠ 0) (lower : r * r * p ≤ N) (upper : N < (r + 1) * (r + 1) * p) (e : Int) :
    Magnitude (Real.sqrt ((N : ℝ) / p) * 2 ^ e) r e (r * r * p != N) := by
  have unit : (0 : ℝ) < 2 ^ e := by positivity
  have pos : (0 : ℝ) < p := by exact_mod_cast Nat.pos_of_ne_zero hp
  have above : Real.sqrt ((N : ℝ) / p) < r + 1 := by
    rw [Real.sqrt_lt' (by positivity), div_lt_iff₀ pos, sq]
    exact_mod_cast upper
  unfold Magnitude
  split
  next rest =>
    rw [bne_iff_ne] at rest
    rw [mul_lt_mul_iff_left₀ unit, mul_lt_mul_iff_left₀ unit, and_iff_left above, Real.lt_sqrt (Nat.cast_nonneg r),
      lt_div_iff₀ pos, sq]
    exact_mod_cast lower.lt_of_ne rest
  next rest =>
    rw [bne_iff_ne, not_not] at rest
    rw [← rest]
    push_cast
    rw [mul_div_cancel_right₀ _ pos.ne', Real.sqrt_mul_self (Nat.cast_nonneg r)]

/-- `sqrtBits` keeps the square of what it has built at or below n, and that of its last digit's next above it. -/
theorem sqrtBits_spec (n k r : Nat) (lower : r * r ≤ n) (upper : n < (r + 2 ^ k) * (r + 2 ^ k)) :
    sqrtBits n k r * sqrtBits n k r ≤ n ∧ n < (sqrtBits n k r + 1) * (sqrtBits n k r + 1) := by
  induction k generalizing r with
  | zero => exact ⟨lower, upper⟩
  | succ k ih =>
    have double : r + 2 ^ (k + 1) = r + 2 ^ k + 2 ^ k := by rw [pow_succ']; omega
    rw [sqrtBits]
    split
    next fits => exact ih _ fits (double ▸ upper)
    next tooMuch => exact ih r lower (not_le.1 tooMuch)

/-- `evenExponent` changes no value. -/
theorem evenExponent_spec (m : Nat) (e : Int) :
    (evenExponent m e).2 % 2 = 0 ∧ ((evenExponent m e).1 : ℝ) * 2 ^ (evenExponent m e).2 = m * 2 ^ e ∧
      m ≤ (evenExponent m e).1 ∧ (evenExponent m e).1 ≤ 2 * m := by
  unfold evenExponent
  split
  next even => exact ⟨even, rfl, le_rfl, by dsimp only; omega⟩
  next odd =>
    refine ⟨by dsimp only; omega, ?_, by dsimp only; omega, le_rfl⟩
    dsimp only
    rw [zpow_sub_one₀ two_ne_zero]
    push_cast
    ring

/-! ## Finite operands -/

theorem Fmt.unpack_lt {f : Fmt} {v : DWord} {x : Bool} {m : Nat} {e : Int} (h : f.unpack v = .fin x m e) : m < 2 ^ 53 := by
  obtain ⟨-, -, fields⟩ := Fmt.unpack_eq_fin h
  have frac := f.fracField_lt v
  rcases f.numerals with ⟨places, -⟩ | ⟨places, -⟩ <;> rw [places] at frac fields <;> omega

theorem Fmt.frac_lt_log2 (f : Fmt) {m : Nat} (h : 2 ^ 53 ≤ m) : f.frac < Nat.log2 m := by
  have places : f.frac < 53 := by cases f <;> decide
  exact places.trans_le ((Nat.le_log2 (by omega)).2 h)

theorem finiteValue_mul (x y : Bool) (m n : Nat) (e g : Int) :
    finiteValue x m e * finiteValue y n g = finiteValue (x != y) (m * n) (e + g) := by
  cases x <;> cases y <;> simp [finiteValue, zpow_add₀] <;> ring

theorem finiteValue_eq_zero (x : Bool) (m : Nat) (e : Int) : finiteValue x m e = 0 ↔ m = 0 := by
  rw [← abs_eq_zero, abs_finiteValue, mul_eq_zero, or_iff_left (by positivity), Nat.cast_eq_zero]

theorem cast_int_eq_signOf (v : Int) : (v : ℝ) = signOf (decide (v < 0)) * v.natAbs := by
  rw [Nat.cast_natAbs, Int.cast_abs]
  by_cases negative : v < 0
  · have : (v : ℝ) < 0 := by exact_mod_cast negative
    rw [signOf, if_pos (decide_eq_true negative), abs_of_neg this, neg_mul_neg, one_mul]
  · have : (0 : ℝ) ≤ v := by exact_mod_cast not_lt.1 negative
    rw [signOf, if_neg (by simp [negative]), abs_of_nonneg this, one_mul]

/-- A sum of two finite numbers (R650): computed exactly, then rounded once; an exact zero is minus where both operands are, or where they
differ in mode 3. -/
theorem Fmt.sum_isResult (f : Fmt) (rm : BitVec 2) (x y : Bool) (m n : Nat) (e g : Int) :
    f.IsResult rm ((finiteValue x m e + finiteValue y n g : ℚ) : ℝ) (if x = y then x else rm == 3#2)
      (if signedAt x m e (min e g) + signedAt y n g (min e g) = 0 then .exact (f.zero (if x == y then x else zeroSign rm))
      else f.round rm (decide (signedAt x m e (min e g) + signedAt y n g (min e g) < 0))
        (signedAt x m e (min e g) + signedAt y n g (min e g)).natAbs (min e g) false) := by
  have value : finiteValue x m e + finiteValue y n g =
      ((signedAt x m e (min e g) + signedAt y n g (min e g) : Int) : ℚ) * 2 ^ min e g := by
    rw [finiteValue_eq_signedAt x m (min_le_left e g), finiteValue_eq_signedAt y n (min_le_right e g), ← add_mul]
    push_cast
    rfl
  have zeroSign_eq : (if (x == y) = true then x else zeroSign rm) = if x = y then x else rm == 3#2 := by simp only [beq_iff_eq, zeroSign]
  rw [value, zeroSign_eq]
  generalize signedAt x m e (min e g) + signedAt y n g (min e g) = v
  generalize (if x = y then x else rm == 3#2) = z
  split_ifs with zero
  · rw [zero, Int.cast_zero, zero_mul, Rat.cast_zero, FpRes.exact, f.zero_eq]
    exact .of_zero f rm z
  · have signed : (((v : ℚ) * 2 ^ min e g : ℚ) : ℝ) = signOf (decide (v < 0)) * (v.natAbs * 2 ^ min e g) := by
      rw [← mul_assoc, ← cast_int_eq_signOf]
      push_cast
      rfl
    rw [signed]
    exact Fmt.round_isResult (.exact _ _) (Int.natAbs_ne_zero.2 zero) (fun h => by cases h) rm z

section

variable {f : Fmt} {a b : DWord} {x y : Bool} {m n : Nat} {e g : Int}

theorem Fmt.not_nan_of_fin (ha : f.unpack a = .fin x m e) : ¬ f.NotANumber a := fun nan => by
  obtain ⟨_, unpack, -⟩ := Fmt.unpack_of_notANumber nan
  cases unpack.symm.trans ha

theorem Fmt.not_nan_of_inf (ha : f.unpack a = .inf x) : ¬ f.NotANumber a := fun nan => by
  obtain ⟨_, unpack, -⟩ := Fmt.unpack_of_notANumber nan
  cases unpack.symm.trans ha

theorem Fmt.add_of_fin (ha : f.unpack a = .fin x m e) (hb : f.unpack b = .fin y n g) (rm : BitVec 2) (pick : Bool) :
    f.IsResult rm ((finiteValue x m e + finiteValue y n g : ℚ) : ℝ) (if x = y then x else rm == 3#2) (f.add rm pick a b) := by
  simp only [Fmt.add, ha, hb]
  exact f.sum_isResult rm x y m n e g

theorem Fmt.sub_of_fin (ha : f.unpack a = .fin x m e) (hb : f.unpack b = .fin y n g) (rm : BitVec 2) (pick : Bool) :
    f.IsResult rm ((finiteValue x m e - finiteValue y n g : ℚ) : ℝ) (if x = !y then x else rm == 3#2) (f.sub rm pick a b) := by
  have flipped : f.unpack (f.flip b) = .fin (!y) n g := by rw [f.unpack_flip, hb, Num.negate]
  rw [Fmt.sub_of_not_nan (Fmt.not_nan_of_fin ha) (Fmt.not_nan_of_fin hb), sub_eq_add_neg, ← finiteValue_not]
  exact Fmt.add_of_fin ha flipped rm pick

theorem Fmt.mul_of_fin (ha : f.unpack a = .fin x m e) (hb : f.unpack b = .fin y n g) (rm : BitVec 2) (pick : Bool) :
    f.IsResult rm ((finiteValue x m e * finiteValue y n g : ℚ) : ℝ) (x != y) (f.mul rm pick a b) := by
  simp only [Fmt.mul, ha, hb]
  rw [finiteValue_mul, cast_finiteValue]
  exact Fmt.roundZ_isResult (.exact _ _) (fun h => by cases h) rm

theorem Fmt.div_of_fin (ha : f.unpack a = .fin x m e) (hb : f.unpack b = .fin y n g) (hn : n ≠ 0) (rm : BitVec 2) (pick : Bool) :
    f.IsResult rm ((finiteValue x m e / finiteValue y n g : ℚ) : ℝ) (x != y) (f.div rm pick a b) := by
  have value : ((finiteValue x m e / finiteValue y n g : ℚ) : ℝ) =
      signOf (x != y) * (((m * 2 ^ 120 : ℕ) : ℝ) / n * 2 ^ (e - g - 120)) := by
    have scale : (2 : ℝ) ^ (e - g - 120) = 2 ^ e / 2 ^ g / 2 ^ 120 := by rw [zpow_sub₀ two_ne_zero, zpow_sub₀ two_ne_zero]; norm_cast
    have sign : signOf x / signOf y = signOf (x != y) := by cases x <;> cases y <;> norm_num [signOf]
    rw [Rat.cast_div, cast_finiteValue, cast_finiteValue, ← sign, scale, Nat.cast_mul, Nat.cast_pow, Nat.cast_ofNat]
    field_simp
  have digits (sticky : (m * 2 ^ 120 % n != 0) = true) : f.frac < Nat.log2 (m * 2 ^ 120 / n) := by
    have small := Fmt.unpack_lt hb
    have pos : m ≠ 0 := by
      rintro rfl
      simp at sticky
    refine f.frac_lt_log2 ((Nat.le_div_iff_mul_le (Nat.pos_of_ne_zero hn)).2 ?_)
    omega
  simp only [Fmt.div, ha, hb, if_neg hn]
  rw [value]
  exact Fmt.roundZ_isResult (.quotient _ hn _) digits rm

theorem Fmt.convert_of_fin (ha : f.unpack a = .fin x m e) (g : Fmt) (rm : BitVec 2) (c : Nat) :
    g.IsResult rm ((finiteValue x m e : ℚ) : ℝ) x (f.convert g rm c a) := by
  simp only [Fmt.convert, ha]
  rw [cast_finiteValue]
  exact Fmt.roundZ_isResult (.exact _ _) (fun h => by cases h) rm

theorem Fmt.ofInt_isResult (f : Fmt) (rm : BitVec 2) (k : Int) : f.IsResult rm k (decide (k < 0)) (f.ofInt rm k) := by
  rw [cast_int_eq_signOf, Fmt.ofInt, ← mul_one ((k.natAbs : ℕ) : ℝ), ← zpow_zero (2 : ℝ)]
  exact Fmt.roundZ_isResult (.exact _ _) (fun h => by cases h) rm

end

/-! ## Roots -/

theorem sqrt_mul_zpow_double (w : ℝ) (h : Int) : Real.sqrt (w * 2 ^ (2 * h)) = Real.sqrt w * 2 ^ h := by
  rw [Real.sqrt_mul' _ (by positivity), two_mul, zpow_add₀ two_ne_zero, Real.sqrt_mul_self (by positivity)]

theorem mul_zpow_shift (w : ℝ) (e : Int) (k : Nat) : w * 2 ^ k * 2 ^ (e - k) = w * 2 ^ e := by
  rw [zpow_sub₀ two_ne_zero, zpow_natCast, mul_assoc, mul_div_cancel₀ _ (by positivity)]

/-- The root of a large number has more digits than any format keeps. -/
theorem le_root {N r p : Nat} (large : 2 ^ 106 * p ≤ N) (upper : N < (r + 1) * (r + 1) * p) : 2 ^ 53 ≤ r := by
  by_contra small
  have square : (r + 1) * (r + 1) ≤ 2 ^ 53 * 2 ^ 53 := Nat.mul_le_mul (by omega) (by omega)
  have := Nat.mul_le_mul_right p square
  omega

theorem Fmt.sqrt_of_fin {f : Fmt} {a : DWord} {m : Nat} {e : Int} (ha : f.unpack a = .fin false m e) (hm : m ≠ 0) (rm : BitVec 2)
    (z : Bool) : f.IsResult rm (Real.sqrt (finiteValue false m e : ℚ)) z (f.sqrt rm a) := by
  have small := Fmt.unpack_lt ha
  obtain ⟨even, value, low, high⟩ := evenExponent_spec m e
  simp only [Fmt.sqrt, ha, if_neg hm, Bool.false_eq_true, if_false]
  rw [cast_finiteValue, ← value]
  generalize evenExponent m e = p at even low high
  obtain ⟨lower, upper⟩ := sqrtBits_spec (p.1 * 2 ^ 128) 92 0 (by omega) (by omega)
  generalize sqrtBits (p.1 * 2 ^ 128) 92 0 = r at lower upper
  have digits : 2 ^ 53 ≤ r := le_root (p := 1) (N := p.1 * 2 ^ 128) (by omega) (by rwa [Nat.mul_one])
  have exact_root : Real.sqrt (signOf false * (p.1 * 2 ^ p.2)) =
      signOf false * (Real.sqrt (((p.1 * 2 ^ 128 : ℕ) : ℝ) / (1 : ℕ)) * 2 ^ (p.2 / 2 - 64)) := by
    have exponent : 2 * (p.2 / 2 - 64) = p.2 - (128 : ℕ) := by omega
    rw [show signOf false = 1 from rfl, one_mul, one_mul, ← sqrt_mul_zpow_double, exponent, Nat.cast_one, div_one, Nat.cast_mul,
      Nat.cast_pow, Nat.cast_ofNat, mul_zpow_shift]
  have mag := Magnitude.root (p := 1) (N := p.1 * 2 ^ 128) one_ne_zero (by rwa [Nat.mul_one]) (by rwa [Nat.mul_one]) (p.2 / 2 - 64)
  rw [Nat.mul_one] at mag
  rw [exact_root]
  exact Fmt.round_isResult mag (by omega) (fun _ => f.frac_lt_log2 digits) rm z

/-- The reciprocal root, before the error that RSQRT may have. -/
theorem Fmt.rsqrt_round_isResult {f : Fmt} {a : DWord} {m : Nat} {e : Int} (ha : f.unpack a = .fin false m e) (hm : m ≠ 0)
    (rm : BitVec 2) (z : Bool) :
    let p := evenExponent m e
    let r := sqrtBits (2 ^ 240 / p.1) 121 0
    f.IsResult rm (1 / Real.sqrt (finiteValue false m e : ℚ)) z (f.round rm false r (-(p.2 / 2) - 120) (r * r * p.1 != 2 ^ 240)) := by
  intro p r
  have small := Fmt.unpack_lt ha
  obtain ⟨even, value, low, high⟩ : p.2 % 2 = 0 ∧ (p.1 : ℝ) * 2 ^ p.2 = m * 2 ^ e ∧ m ≤ p.1 ∧ p.1 ≤ 2 * m :=
    evenExponent_spec m e
  have pos : 0 < p.1 := by omega
  have quotient : 2 ^ 240 / p.1 < (0 + 2 ^ 121) * (0 + 2 ^ 121) := (Nat.div_le_self _ _).trans_lt (by norm_num)
  obtain ⟨lower, upper⟩ : r * r ≤ 2 ^ 240 / p.1 ∧ 2 ^ 240 / p.1 < (r + 1) * (r + 1) :=
    sqrtBits_spec (2 ^ 240 / p.1) 121 0 (Nat.zero_le _) quotient
  rw [Nat.le_div_iff_mul_le pos] at lower
  rw [Nat.div_lt_iff_lt_mul pos] at upper
  have digits : 2 ^ 53 ≤ r := le_root (by omega) upper
  have exact_root : 1 / Real.sqrt (finiteValue false m e : ℚ) =
      signOf false * (Real.sqrt (((2 ^ 240 : ℕ) : ℝ) / p.1) * 2 ^ (-(p.2 / 2) - 120)) := by
    have exponent : 2 * (-(p.2 / 2) - 120) = -p.2 - (240 : ℕ) := by omega
    rw [cast_finiteValue, ← value, show signOf false = 1 from rfl, one_mul, one_mul, ← sqrt_mul_zpow_double, exponent, Nat.cast_pow,
      Nat.cast_ofNat, one_div, div_eq_inv_mul, mul_zpow_shift, zpow_neg, ← mul_inv, Real.sqrt_inv]
  rw [exact_root]
  exact Fmt.round_isResult (.root (by omega) lower upper _) (by omega) (fun _ => f.frac_lt_log2 digits) rm z

/-! ## Infinities (R650) -/

section

variable {f : Fmt} {a b : DWord} {x y : Bool} {m n : Nat} {e g : Int}

theorem Fmt.flip_of_inf (hb : f.unpack b = .inf y) : f.unpack (f.flip b) = .inf !y := by rw [f.unpack_flip, hb, Num.negate]

theorem Fmt.flip_of_fin (hb : f.unpack b = .fin y n g) : f.unpack (f.flip b) = .fin (!y) n g := by rw [f.unpack_flip, hb, Num.negate]

theorem FpRes.exact_infinity (f : Fmt) (neg : Bool) : FpRes.exact (f.infinity neg) = ⟨f.infinite neg, 0, false⟩ := by
  rw [FpRes.exact, f.infinity_eq]

/-- A finite number and an infinity. -/
theorem Fmt.ops_of_fin_inf (ha : f.unpack a = .fin x m e) (hb : f.unpack b = .inf y) (rm : BitVec 2) (pick : Bool) :
    f.add rm pick a b = ⟨f.infinite y, 0, false⟩ ∧ f.sub rm pick a b = ⟨f.infinite !y, 0, false⟩ ∧
      f.mul rm pick a b = (if m = 0 then f.invalidResult else ⟨f.infinite (x != y), 0, false⟩) ∧
      f.div rm pick a b = ⟨f.zeroOf (x != y), 0, false⟩ := by
  rw [Fmt.sub_of_not_nan (Fmt.not_nan_of_fin ha) (Fmt.not_nan_of_inf hb)]
  simp only [Fmt.add, Fmt.mul, Fmt.div, ha, hb, Fmt.flip_of_inf hb, FpRes.exact_infinity, f.invalid_eq, true_and]
  rw [FpRes.exact, f.zero_eq]

/-- An infinity and a finite number. -/
theorem Fmt.ops_of_inf_fin (ha : f.unpack a = .inf x) (hb : f.unpack b = .fin y n g) (rm : BitVec 2) (pick : Bool) :
    f.add rm pick a b = ⟨f.infinite x, 0, false⟩ ∧ f.sub rm pick a b = ⟨f.infinite x, 0, false⟩ ∧
      f.mul rm pick a b = (if n = 0 then f.invalidResult else ⟨f.infinite (x != y), 0, false⟩) ∧
      f.div rm pick a b = ⟨f.infinite (x != y), 0, false⟩ := by
  rw [Fmt.sub_of_not_nan (Fmt.not_nan_of_inf ha) (Fmt.not_nan_of_fin hb)]
  simp only [Fmt.add, Fmt.mul, Fmt.div, ha, hb, Fmt.flip_of_fin hb, FpRes.exact_infinity, f.invalid_eq, and_self]

/-- Two infinities. -/
theorem Fmt.ops_of_inf_inf (ha : f.unpack a = .inf x) (hb : f.unpack b = .inf y) (rm : BitVec 2) (pick : Bool) :
    f.add rm pick a b = (if x = y then ⟨f.infinite x, 0, false⟩ else f.invalidResult) ∧
      f.sub rm pick a b = (if x = y then f.invalidResult else ⟨f.infinite x, 0, false⟩) ∧
      f.mul rm pick a b = ⟨f.infinite (x != y), 0, false⟩ ∧ f.div rm pick a b = f.invalidResult := by
  rw [Fmt.sub_of_not_nan (Fmt.not_nan_of_inf ha) (Fmt.not_nan_of_inf hb)]
  simp only [Fmt.add, Fmt.mul, Fmt.div, ha, hb, Fmt.flip_of_inf hb, FpRes.exact_infinity, f.invalid_eq, beq_iff_eq, and_self, and_true,
    true_and]
  cases x <;> cases y <;> rfl

/-- One operand that is an infinity. -/
theorem Fmt.one_of_inf (ha : f.unpack a = .inf x) (rm : BitVec 2) : f.sqrt rm a = (if x then f.invalidResult else ⟨a, 0, false⟩) ∧
    ∀ (g : Fmt) (c : Nat), f.convert g rm c a = ⟨g.infinite x, 0, false⟩ := by
  simp only [Fmt.sqrt, Fmt.convert, ha, f.invalid_eq, FpRes.exact_infinity, implies_true, and_true]
  rfl

/-- The root of a zero is that zero, and of a negative number invalid. -/
theorem Fmt.sqrt_of_zero (ha : f.unpack a = .fin x 0 e) (rm : BitVec 2) : f.sqrt rm a = ⟨a, 0, false⟩ := by
  simp only [Fmt.sqrt, ha, if_true]
  rfl

theorem Fmt.sqrt_of_negative (ha : f.unpack a = .fin true m e) (hm : m ≠ 0) (rm : BitVec 2) : f.sqrt rm a = f.invalidResult := by
  simp only [Fmt.sqrt, ha, if_neg hm, if_true, f.invalid_eq]

theorem Fmt.div_by_zero (ha : f.unpack a = .fin x m e) (hb : f.unpack b = .fin y 0 g) (rm : BitVec 2) (pick : Bool) :
    f.div rm pick a b = if m = 0 then f.invalidResult else ⟨f.infinite (x != y), 0b001000, false⟩ := by
  simp only [Fmt.div, ha, hb, if_true, f.invalid_eq, f.infinity_eq]
  rfl

end

/-! ## Conversions to integers (R636, R641) -/

/-- A magnitude rounded to n, with its sign. -/
theorem RoundsMagnitude.roundsToInt {rm : BitVec 2} {x : Bool} {w : ℚ} {n : Nat} (h0 : 0 ≤ w) (h : RoundsMagnitude rm x (w : ℝ) n) :
    RoundsToInt rm ((if x then -1 else 1) * w) (if x then -(n : Int) else n) := by
  have near (hrm : rm = 0#2) : |(n : ℚ) - w| ≤ 1 / 2 ∧ (|(n : ℚ) - w| = 1 / 2 → n % 2 = 0) := by
    subst hrm
    refine ⟨?_, fun tie => h.nearest.2 ?_⟩
    · rify
      exact h.nearest.1
    · rify at tie
      exact tie
  have toward (other : rm ≠ 0#2) (toward : ¬ roundsAway rm x = true) : (n : ℚ) ≤ w ∧ w < n + 1 := by
    exact_mod_cast h.toward other toward
  have away (away : roundsAway rm x = true) : w ≤ (n : ℚ) ∧ (n : ℚ) < w + 1 := by
    exact_mod_cast h.away away
  have distance : |(((if x then -(n : Int) else n : Int)) : ℚ) - (if x then -1 else 1) * w| = |(n : ℚ) - w| := by
    cases x
    · simp
    · rw [← abs_neg, if_pos rfl, if_pos rfl]
      push_cast
      congr 1
      ring
  refine ⟨fun hrm => ?nearest, ?zero, ?plus, ?minus⟩
  case nearest =>
    rw [distance]
    exact ⟨(near hrm).1, fun tie => by have := (near hrm).2 tie; split <;> omega⟩
  case zero =>
    rintro rfl
    obtain ⟨le, lt⟩ := toward (by decide) (by cases x <;> decide)
    rw [distance, abs_sub_lt_iff]
    refine ⟨?_, by linarith, by linarith⟩
    cases x <;> simpa [abs_of_nonneg h0] using le
  case plus =>
    rintro rfl
    cases x
    · obtain ⟨le, lt⟩ := away rfl
      rw [if_neg Bool.false_ne_true, if_neg Bool.false_ne_true]
      push_cast
      constructor <;> linarith
    · obtain ⟨le, lt⟩ := toward (by decide) (by decide)
      rw [if_pos rfl, if_pos rfl]
      push_cast
      constructor <;> linarith
  case minus =>
    rintro rfl
    cases x
    · obtain ⟨le, lt⟩ := toward (by decide) (by decide)
      rw [if_neg Bool.false_ne_true, if_neg Bool.false_ne_true]
      push_cast
      constructor <;> linarith
    · obtain ⟨le, lt⟩ := away rfl
      rw [if_pos rfl, if_pos rfl]
      push_cast
      constructor <;> linarith

/-- What a conversion to an integer computes of a finite operand. -/
theorem Fmt.toInt_of_fin {f : Fmt} {a : DWord} {x : Bool} {m : Nat} {e : Int} (ha : f.unpack a = .fin x m e) (rm : BitVec 2) :
    ∃ k i, f.toInt rm a = some (k, i) ∧ RoundsToInt rm (finiteValue x m e) k ∧ (i = true ↔ (k : ℚ) ≠ finiteValue x m e) := by
  obtain ⟨rounds, inexact⟩ := roundAt_spec (.exact m e) (q := 0) (fun h => by cases h) rm x
  have magnitude : (m : ℝ) * 2 ^ e / 2 ^ (0 : Int) = ((m * 2 ^ e : ℚ) : ℝ) := by
    rw [zpow_zero, div_one]
    push_cast
    rfl
  have sign : finiteValue x m e = (if x then -1 else 1) * (m * 2 ^ e : ℚ) := mul_assoc _ _ _
  rw [magnitude] at rounds inexact
  refine ⟨_, _, by simp only [Fmt.toInt, ha]; rfl, sign ▸ rounds.roundsToInt (by positivity), ?_⟩
  rw [inexact, sign]
  generalize (roundAt rm x m e false 0).1 = n
  cases x
  · simp only [Bool.false_eq_true, if_false, one_mul]
    exact_mod_cast Iff.rfl
  · simp only [if_true, Int.cast_neg, neg_mul, one_mul, Ne, neg_inj]
    exact_mod_cast Iff.rfl

/-- The status of a conversion says whether the operand is an integer. -/
theorem inexactStatus_eq {i : Bool} {k : Int} {v : ℚ} (h : i = true ↔ (k : ℚ) ≠ v) :
    inexactStatus i = if (k : ℚ) = v then (0 : FpStatus) else 1 := by
  unfold inexactStatus
  split_ifs with h1 h2 h2
  · exact absurd h2 (h.1 h1)
  · rfl
  · rfl
  · exact absurd (h.2 h2) h1

/-- To W (R944 to R947, R952). -/
theorem Fmt.toW_of_toInt {f : Fmt} {rm : BitVec 2} {a : DWord} {k : Int} {i : Bool} (h : f.toInt rm a = some (k, i)) :
    f.toW rm a = if -2 ^ 31 ≤ k ∧ k < 2 ^ 31 then ⟨(BitVec.ofInt 32 k).setWidth 64, inexactStatus i, false⟩
      else ⟨0x7FFFFFFF#64, 0b010000, false⟩ := by
  simp only [Fmt.toW, h]
  rfl

/-- To L (R940 to R943, R953), where the limit leaves nothing outside the range of L. -/
theorem Fmt.toL_of_toInt {f : Fmt} {rm : BitVec 2} {a : DWord} {k : Int} {i : Bool} (h : f.toInt rm a = some (k, i)) (limit : Int) :
    (limit ≤ 2 ^ 63 → -limit ≤ k ∧ k < limit → f.toL limit rm a = ⟨BitVec.ofInt 64 k, inexactStatus i, false⟩) ∧
    (¬ (-limit ≤ k ∧ k < limit) →
      (f.toL limit rm a).value = 0x7FFFFFFFFFFFFFFF#64 ∧ (f.toL limit rm a).status.getLsbD 5 = true) := by
  simp only [Fmt.toL, h]
  refine ⟨fun small inside => ?_, fun outside => ?_⟩
  · rw [if_pos inside, if_pos (by omega)]
  · rw [if_neg outside]
    refine ⟨rfl, ?_⟩
    simp only [BitVec.getLsbD_or]
    exact Bool.or_eq_true_iff.2 (.inr rfl)

/-- Settles O46: the operations are `Fmt.round` of what they compute exactly (`Fmt.IsResult`), or one of their special cases. -/
theorem sumsProductsAndConversionsAreCorrectlyRounded : Obligations.SumsProductsAndConversionsAreCorrectlyRounded := by
  refine ⟨fun f g rm pick a b x y m n e h k c => ?ops, fun f rm a x m e limit ha small => ?toInt⟩
  case toInt =>
    intro va
    obtain ⟨k, i, run, rounds, inexact⟩ := Fmt.toInt_of_fin ha rm
    obtain ⟨toL, toLOutside⟩ := Fmt.toL_of_toInt run limit
    refine ⟨k, rounds, fun inside => ?_, fun outside => ?_, fun inside => ?_, toLOutside⟩
    · rw [Fmt.toW_of_toInt run, if_pos inside, inexactStatus_eq inexact]
    · rw [Fmt.toW_of_toInt run, if_neg outside]
    · rw [toL small inside, inexactStatus_eq inexact]
  case ops =>
    intro good exactly
    refine ⟨(f.ofInt_isResult rm k).rounded, (f.ofInt_isResult rm 0).zero Int.cast_zero, fun ha => ?fin, fun ha => ?inf⟩
    case fin =>
      intro va
      have convert := Fmt.convert_of_fin ha g rm c
      have real_zero {w : ℚ} (h : w = 0) : (w : ℝ) = 0 := by rw [h, Rat.cast_zero]
      have va_zero (hm : m = 0) : va = 0 := (finiteValue_eq_zero x m e).2 hm
      refine ⟨convert.rounded, fun hm => convert.zero (real_zero (va_zero hm)), fun hx => ?root, fun hm => ?rootZero,
        fun hx hm => ?rootNegative, fun hb => ?finite, fun hb => Fmt.ops_of_fin_inf ha hb rm pick⟩
      case root =>
        subst hx
        intro nonzero
        have hm : m ≠ 0 := fun hm => nonzero (by rw [va_zero hm, Rat.cast_zero, Real.sqrt_zero])
        exact (Fmt.sqrt_of_fin ha hm rm false).rounded nonzero
      case rootZero =>
        subst hm
        exact Fmt.sqrt_of_zero ha rm
      case rootNegative =>
        subst hx
        exact Fmt.sqrt_of_negative ha hm rm
      case finite =>
        intro vb sumZero
        have add := Fmt.add_of_fin ha hb rm pick
        have sub := Fmt.sub_of_fin ha hb rm pick
        have mul := Fmt.mul_of_fin ha hb rm pick
        have product (zero : m * n = 0) : va * vb = 0 :=
          (Nat.mul_eq_zero.1 zero).elim (fun hm => by rw [va_zero hm, zero_mul])
            fun hn => by rw [show vb = 0 from (finiteValue_eq_zero y n h).2 hn, mul_zero]
        refine ⟨?_, fun zero => add.zero (real_zero zero), ?_, fun zero => sub.zero (real_zero zero), ?_,
          fun zero => mul.zero (real_zero (product zero)), fun hn => ⟨?_, fun hm => ?_⟩, fun hn => ?_⟩
        · rw [Rat.cast_add] at add
          exact add.rounded
        · rw [Rat.cast_sub] at sub
          exact sub.rounded
        · rw [Rat.cast_mul] at mul
          exact mul.rounded
        · have div := Fmt.div_of_fin ha hb hn rm pick
          rw [Rat.cast_div] at div
          exact div.rounded
        · exact (Fmt.div_of_fin ha hb hn rm pick).zero (real_zero (by rw [(finiteValue_eq_zero x m e).2 hm, zero_div]))
        · subst hn
          exact Fmt.div_by_zero ha hb rm pick
    case inf =>
      obtain ⟨root, convert⟩ := Fmt.one_of_inf ha rm
      exact ⟨convert g c, root, fun hb => Fmt.ops_of_inf_fin ha hb rm pick, fun hb => Fmt.ops_of_inf_inf ha hb rm pick⟩

end Sys2Proof.Machine

end

section
/-! PROOFS. What becomes of a denormalized result (R632), and the multiply-add instructions (R650, R980 to R983). -/

namespace Sys2Proof.Machine

/-! ## Settling a result (R632) -/

theorem Fmt.settle_of_not_denorm {r : FpRes} (h : r.denorm = false) (f : Fmt) (flush trapU : Bool) : f.settle flush trapU r = r :=
  if_neg (Bool.eq_false_iff.1 h)

theorem Fmt.settle_raises {r : FpRes} (h : r.denorm = true) (f : Fmt) (trapU : Bool) :
    f.settle false trapU r = ⟨r.value, r.status ||| 0b100000#6 ||| (if trapU then 0b000010#6 else 0#6), false⟩ := if_pos h

/-- R632: with FS set, the zero of its sign. -/
theorem Fmt.settle_flushes {r : FpRes} (h : r.denorm = true) (f : Fmt) (trapU : Bool) :
    f.settle true trapU r = ⟨r.value &&& f.signBit, 0#6, false⟩ := by
  rw [Fmt.settle, if_pos h, if_pos rfl, FpRes.exact, f.zero_eq, f.zeroOf_sign]
  rfl

/-- Nothing is left to settle. -/
theorem Fmt.settle_denorm (f : Fmt) (flush trapU : Bool) (r : FpRes) : (f.settle flush trapU r).denorm = false := by
  cases h : r.denorm
  · rw [Fmt.settle_of_not_denorm h, h]
  · cases flush
    · rw [Fmt.settle_raises h]
    · rw [Fmt.settle_flushes h]

/-! ## Multiply-add -/

/-- R650: with a factor that is not finite, one rounding does what two do. -/
theorem Fmt.mulAddOnce_of_not_finite {f : Fmt} {a b : DWord} (h : f.value a = none ∨ f.value b = none) (mode : FpMode) (minus : Bool)
    (r : DWord) : f.mulAddOnce mode minus r a b = f.mulThenAdd mode minus r a b := by
  have notFinite {x y : Bool} {m n : Nat} {e g : Int} (ha : f.unpack a = .fin x m e) (hb : f.unpack b = .fin y n g) : False := by
    rw [Fmt.value_of_unpack ha, Fmt.value_of_unpack hb] at h
    simp at h
  unfold Fmt.mulAddOnce
  split
  next ha hb _ => exact (notFinite ha hb).elim
  next ha hb _ => exact (notFinite ha hb).elim
  next ha hb _ => exact (notFinite ha hb).elim
  next => rfl

section

variable {f : Fmt} {r a b : DWord} {x y : Bool} {m n : Nat} {e h : Int}

theorem Fmt.mulAddOnce_of_nan (ha : f.unpack a = .fin x m e) (hb : f.unpack b = .fin y n h) (hr : f.NotANumber r) (mode : FpMode)
    (minus : Bool) : f.mulAddOnce mode minus r a b = f.nanResult true r r := by
  obtain ⟨_, unpack, -⟩ := Fmt.unpack_of_notANumber hr
  simp only [Fmt.mulAddOnce, ha, hb, unpack]

theorem Fmt.mulAddOnce_of_inf (ha : f.unpack a = .fin x m e) (hb : f.unpack b = .fin y n h) {z : Bool} (hr : f.unpack r = .inf z)
    (mode : FpMode) (minus : Bool) : f.mulAddOnce mode minus r a b = ⟨f.infinite (z != minus), 0, false⟩ := by
  simp only [Fmt.mulAddOnce, ha, hb, hr, FpRes.exact_infinity]

/-- R650: the exact sum, rounded once. -/
theorem Fmt.mulAddOnce_of_fin (ha : f.unpack a = .fin x m e) (hb : f.unpack b = .fin y n h) {z : Bool} {l : Nat} {g : Int}
    (hr : f.unpack r = .fin z l g) (mode : FpMode) (minus : Bool) :
    ∃ once, f.mulAddOnce mode minus r a b = f.settle mode.flush mode.trapU once ∧
      f.IsResult mode.rm ((finiteValue x m e * finiteValue y n h + finiteValue (z != minus) l g : ℚ) : ℝ)
        (if (x != y) = (z != minus) then x != y else mode.rm == 3#2) once := by
  rw [finiteValue_mul]
  simp only [Fmt.mulAddOnce, ha, hb, hr]
  exact ⟨_, rfl, f.sum_isResult mode.rm (x != y) (z != minus) (m * n) l (e + h) g⟩

end

/-- The N forms invert the sign bit (R982, R983). -/
theorem Fmt.mulAdd_eq (f : Fmt) (fused : Bool) (mode : FpMode) (minus invert : Bool) (r a b : DWord) {once : FpRes}
    (run : (if fused then f.mulAddOnce mode minus r a b else f.mulThenAdd mode minus r a b) = once) (settled : once.denorm = false) :
    f.mulAdd fused mode minus invert r a b = ⟨if invert then once.value ^^^ f.signBit else once.value, once.status, false⟩ := by
  simp only [Fmt.mulAdd, run, f.flip_eq, ← settled]
  cases invert <;> rfl

/-- Settles O43: each instruction performs `Fmt.mulAdd`, whose two roundings, or one, `Fmt.IsResult` describes. -/
theorem multiplyAddRoundsTwiceOrOnce : Obligations.MultiplyAddRoundsTwiceOrOnce := by
  intro s fr ft fs fd f hcu1 h4 r a b i p hp minus out product sum
  have performs : s.Performs p.1 f [r, a, b] f fd
      (f.mulAdd s.params.maddFused ⟨s.rm, s.flush, s.trapU, s.nanPick⟩ minus p.2.2 r a b) := by
    cases f <;> fin_cases hp <;> exact .of_cop1x hcu1 h4 rfl
  have delivers {once : FpRes} (run : (if s.params.maddFused then f.mulAddOnce ⟨s.rm, s.flush, s.trapU, s.nanPick⟩ minus r a b
      else f.mulThenAdd ⟨s.rm, s.flush, s.trapU, s.nanPick⟩ minus r a b) = once) (settled : once.denorm = false) : out once := by
    rwa [Fmt.mulAdd_eq f _ _ _ _ _ _ _ run settled] at performs
  refine ⟨fun twice => delivers ?twice rfl, fun fused x m e y n h ha hb => ?once⟩
  case twice =>
    rcases twice with off | notFinite
    · rw [if_neg (Bool.eq_false_iff.1 off)]
      rfl
    · rw [Fmt.mulAddOnce_of_not_finite notFinite, ite_self]
      rfl
  case once =>
    rw [if_pos fused] at delivers
    refine ⟨fun signals => delivers ?signalling rfl, fun nan quiet => delivers ?quiet rfl,
      fun z hr => delivers (Fmt.mulAddOnce_of_inf ha hb hr _ minus) rfl, fun z l g hr => ?finite⟩
    case signalling => exact (Fmt.mulAddOnce_of_nan ha hb signals.1 _ minus).trans (Fmt.nanResult_of_signals (.inl signals) true)
    case quiet => exact (Fmt.mulAddOnce_of_nan ha hb nan _ minus).trans (Fmt.nanResult_self nan quiet true)
    case finite =>
      intro v
      obtain ⟨once, run, result⟩ := Fmt.mulAddOnce_of_fin ha hb hr ⟨s.rm, s.flush, s.trapU, s.nanPick⟩ minus
      refine ⟨fun hv => delivers (run.trans ?_) rfl,
        fun hv => ⟨once, result.rounded (Rat.cast_ne_zero.2 hv), result.denorm, delivers run (f.settle_denorm _ _ once)⟩⟩
      rw [result.zero (Rat.cast_eq_zero.2 hv)]
      exact Fmt.settle_of_not_denorm rfl f _ _

end Sys2Proof.Machine

end

section
/-! PROOFS. The arithmetic instructions (R635, R640, R650, R930 to R939): what the operations deliver for NaN operands, ABS, NEG, RECIP and
RSQRT, and which results are denormalized. -/

namespace Sys2Proof.Machine

/-! ## NaN operands of the one-operand operations -/

theorem Fmt.unpack_one (f : Fmt) : f.unpack f.one = .fin false (2 ^ f.frac) (-f.frac) := by
  have bias := f.one_le_bias
  rw [Fmt.one, ← Nat.add_zero (f.bias * 2 ^ f.frac), f.unpack_signed false (by rw [f.expBits_eq]; omega) (Nat.two_pow_pos _),
    if_neg (by omega), zero_add, sub_self, zero_sub]

/-- R650: only a result that is inexact and nothing else may be off. -/
theorem Fmt.inexactBy_of_status {r : FpRes} (h : r.status ≠ 0b000001#6) (f : Fmt) (k : Int) : f.inexactBy r k = r := by
  refine if_neg fun changed => h ?_
  simp only [Bool.and_eq_true, beq_iff_eq] at changed
  exact changed.1.1

section

variable {f : Fmt} {a : DWord}

/-- Each operation on one NaN is `Fmt.nanResult` of it, RECIP beside the 1 that it divides. -/
theorem Fmt.one_of_nan (h : f.NotANumber a) (rm : BitVec 2) (exact : Bool) :
    f.sqrt rm a = f.nanResult true a a ∧ f.abs a = f.nanResult true a a ∧ f.neg a = f.nanResult true a a ∧
      (∃ k, f.recip exact rm a = f.inexactBy (f.nanResult false f.one a) k) ∧ f.rsqrt exact rm a = f.nanResult true a a := by
  have nan := (f.isNan_iff a).2 h
  obtain ⟨_, unpack, -⟩ := Fmt.unpack_of_notANumber h
  refine ⟨by simp only [Fmt.sqrt, unpack], if_pos nan, if_pos nan, ?_, by simp only [Fmt.rsqrt, unpack]⟩
  rw [Fmt.recip, Fmt.div_of_nan (.inr h)]
  exact ⟨_, rfl⟩

theorem Fmt.one_of_signals (h : f.Signals a) (rm : BitVec 2) (exact : Bool) :
    ∀ r ∈ [f.sqrt rm a, f.abs a, f.neg a, f.recip exact rm a, f.rsqrt exact rm a], r = f.invalidResult := by
  obtain ⟨sqrt, abs, neg, ⟨k, recip⟩, rsqrt⟩ := Fmt.one_of_nan h.1 rm exact
  have status : f.invalidResult.status ≠ 0b000001#6 := show 0b010000#6 ≠ 0b000001#6 by decide
  rw [sqrt, abs, neg, recip, rsqrt, Fmt.nanResult_of_signals (.inl h), Fmt.nanResult_of_signals (.inr h), Fmt.inexactBy_of_status status]
  simp only [List.mem_cons, List.not_mem_nil, or_false, or_self, imp_self, implies_true]

theorem Fmt.one_of_quiet (nan : f.NotANumber a) (quiet : ¬ f.Signals a) (rm : BitVec 2) (exact : Bool) :
    ∀ r ∈ [f.sqrt rm a, f.abs a, f.neg a, f.recip exact rm a, f.rsqrt exact rm a], r = ⟨a, 0, false⟩ := by
  obtain ⟨sqrt, abs, neg, ⟨k, recip⟩, rsqrt⟩ := Fmt.one_of_nan nan rm exact
  have one := Fmt.not_nan_of_fin f.unpack_one
  have result : f.nanResult false f.one a = ⟨a, 0, false⟩ :=
    (Fmt.nanResult_of_quiet (fun h => one h.1) quiet (.inr nan) false).elim (fun h => absurd h.1 one) And.right
  have status : (⟨a, 0, false⟩ : FpRes).status ≠ 0b000001#6 := show 0b000000#6 ≠ 0b000001#6 by decide
  rw [sqrt, abs, neg, recip, rsqrt, result, Fmt.nanResult_self nan quiet, Fmt.inexactBy_of_status status]
  simp only [List.mem_cons, List.not_mem_nil, or_false, or_self, imp_self, implies_true]

/-- Each operation on two operands of which one is a NaN. -/
theorem Fmt.two_of_nan {b : DWord} (h : f.NotANumber a ∨ f.NotANumber b) (rm : BitVec 2) (pick : Bool) :
    ∀ r ∈ [f.add rm pick a b, f.sub rm pick a b, f.mul rm pick a b, f.div rm pick a b], r = f.nanResult pick a b := by
  rw [Fmt.add_of_nan h, Fmt.sub_of_nan h, Fmt.mul_of_nan h, Fmt.div_of_nan h]
  simp only [List.mem_cons, List.not_mem_nil, or_false, or_self, imp_self, implies_true]

/-- R650: the quiet NaN of a conversion. -/
theorem freeNan_spec (g : Fmt) (c : Nat) : g.NotANumber (freeNan g c) ∧ ¬ g.Signals (freeNan g c) := by
  have quiet (neg : Bool) {F : Nat} (pos : F ≠ 0) (small : F < 2 ^ (g.frac - 1)) :
      g.NotANumber (g.signed neg ((2 ^ g.expBits - 1) * 2 ^ g.frac + F)) ∧
        ¬ g.Signals (g.signed neg ((2 ^ g.expBits - 1) * 2 ^ g.frac + F)) := by
    have below : F < 2 ^ g.frac := small.trans_le (Nat.pow_le_pow_right two_pos (Nat.sub_le _ _))
    obtain ⟨exp, frac, -⟩ := g.fields_signed neg (Nat.sub_lt (Nat.two_pow_pos g.expBits) one_pos) below
    rw [g.signals_iff, g.notANumber_iff, exp, frac]
    exact ⟨⟨rfl, pos⟩, fun h => absurd h.2 (not_le.2 small)⟩
  have nonzero {n : Nat} {M : Nat} (hn : n < M) (hM : 1 < M) : (if n = 0 then 1 else n) ≠ 0 ∧ (if n = 0 then 1 else n) < M := by
    split <;> omega
  cases g
  · obtain ⟨pos, small⟩ := nonzero (Config.nanFractionS c).isLt (by decide)
    exact quiet _ pos small
  · obtain ⟨pos, small⟩ := nonzero (Config.nanFractionD c).isLt (by decide)
    exact quiet _ pos small

theorem Fmt.convert_of_signals (h : f.Signals a) (g : Fmt) (rm : BitVec 2) (c : Nat) : f.convert g rm c a = g.invalidResult := by
  obtain ⟨s, unpack, signals⟩ := Fmt.unpack_of_notANumber h.1
  simp only [Fmt.convert, unpack, if_pos (signals.2 h), g.invalid_eq]

theorem Fmt.convert_of_quiet (nan : f.NotANumber a) (quiet : ¬ f.Signals a) (g : Fmt) (rm : BitVec 2) (c : Nat) :
    f.convert g rm c a = ⟨freeNan g c, 0, false⟩ := by
  obtain ⟨s, unpack, signals⟩ := Fmt.unpack_of_notANumber nan
  simp only [Fmt.convert, unpack, if_neg (mt signals.1 quiet)]
  rfl

/-- R650: a NaN has no integer. -/
theorem Fmt.toInt_of_nan (h : f.NotANumber a) (rm : BitVec 2) : f.toInt rm a = none := by
  obtain ⟨_, unpack, -⟩ := Fmt.unpack_of_notANumber h
  simp only [Fmt.toInt, unpack]

end

/-! ## ABS and NEG (R935, R937) -/

section

variable {f : Fmt} {a : DWord}

theorem Fmt.abs_of_not_nan (h : ¬ f.NotANumber a) : f.abs a = f.copied (a &&& ~~~f.signBit) := by
  rw [Fmt.abs, if_neg (mt (f.isNan_iff a).1 h), f.clearSign_eq]

theorem Fmt.neg_of_not_nan (h : ¬ f.NotANumber a) : f.neg a = f.copied (a ^^^ f.signBit) := by
  rw [Fmt.neg, if_neg (mt (f.isNan_iff a).1 h), f.flip_eq]

theorem finiteValue_false_nonneg (m : Nat) (e : Int) : 0 ≤ finiteValue false m e := by
  rw [finiteValue, if_neg Bool.false_ne_true]
  positivity

theorem Fmt.value_flip {v : ℚ} (h : f.value a = some v) : f.value (f.flip a) = some (-v) := by
  obtain ⟨x, m, e, unpack, rfl⟩ := Fmt.unpack_of_value h
  rw [Fmt.value_of_unpack (Fmt.flip_of_fin unpack), finiteValue_not]

theorem Fmt.value_clearSign {v : ℚ} (h : f.value a = some v) : f.value (a &&& ~~~f.signBit) = some |v| := by
  obtain ⟨x, m, e, unpack, rfl⟩ := Fmt.unpack_of_value h
  obtain ⟨sign, -⟩ := Fmt.unpack_eq_fin unpack
  have nonneg := finiteValue_false_nonneg m e
  rw [← f.clearSign_eq, sign]
  cases x
  · rw [if_neg Bool.false_ne_true, h, abs_of_nonneg nonneg]
  · rw [if_pos rfl, Fmt.value_flip h, ← finiteValue_not, Bool.not_true, ← abs_neg, ← finiteValue_not, Bool.not_true,
      abs_of_nonneg nonneg]

end

/-! ## RECIP and RSQRT (R938, R939) -/

/-- What an error changes: the pattern of a normal number that is inexact, into that of another one near it. -/
theorem Fmt.inexactBy_cases (f : Fmt) (r : FpRes) (k : Int) : f.inexactBy r k = r ∨
    (f.inexactBy r k = { r with value := BitVec.ofInt 64 (r.value.toNat + k) } ∧ f.expField r.value ≠ 0 ∧
      f.expField r.value ≠ 2 ^ f.expBits - 1 ∧ f.expField (BitVec.ofInt 64 (r.value.toNat + k)) ≠ 0) := by
  unfold Fmt.inexactBy
  extract_lets v normal
  split_ifs with changed
  · simp only [Bool.and_eq_true, normal, bne_iff_ne] at changed
    obtain ⟨⟨-, exp, top⟩, exp', -⟩ := changed
    exact .inr ⟨rfl, exp, top, exp'⟩
  · exact .inl rfl

theorem Fmt.inexactBy_distance (f : Fmt) (r : FpRes) {k : Int} (hk : |k| ≤ 2) :
    |((f.inexactBy r k).value.toNat : Int) - r.value.toNat| ≤ |k| := by
  rcases f.inexactBy_cases r k with same | ⟨changed, exp, top, -⟩
  · rw [same, sub_self, abs_zero]
    exact abs_nonneg k
  · obtain ⟨low, high⟩ := abs_le.1 hk
    have inside : 0 ≤ r.value.toNat + k ∧ r.value.toNat + k < 2 ^ 64 := by
      have := r.value.isLt
      unfold Fmt.expField at exp top
      cases f <;> simp only [Fmt.frac, Fmt.expBits] at exp top <;> omega
    rw [changed, BitVec.toNat_ofInt, Nat.cast_pow, Nat.cast_ofNat, Int.toNat_of_nonneg (Int.emod_nonneg _ (by decide)),
      Int.emod_eq_of_lt inside.1 inside.2, add_sub_cancel_left]

/-- R650: a result with an error of up to K units, none where the parameter `RecipExact` rules it out. -/
theorem Fmt.inexactBy_near (f : Fmt) (r : FpRes) (exact : Bool) {u K : Int} (hu : |u| ≤ K) (hK : K ≤ 2) :
    (f.inexactBy r (if exact then 0 else u)).status = r.status ∧
      |((f.inexactBy r (if exact then 0 else u)).value.toNat : Int) - r.value.toNat| ≤
        (if exact = true ∨ r.status ≠ 0b000001#6 then 0 else K) := by
  constructor
  · rcases f.inexactBy_cases r (if exact then 0 else u) with same | ⟨changed, -⟩
    · rw [same]
    · rw [changed]
  · cases exact
    · rw [if_neg Bool.false_ne_true]
      by_cases inexactOnly : r.status = 0b000001#6
      · rw [if_neg (not_or_intro Bool.false_ne_true (not_not.2 inexactOnly))]
        exact (f.inexactBy_distance r (hu.trans hK)).trans hu
      · rw [if_pos (.inr inexactOnly), Fmt.inexactBy_of_status inexactOnly, sub_self, abs_zero]
    · rw [if_pos rfl, if_pos (.inl rfl)]
      exact f.inexactBy_distance r (k := 0) (by decide)

theorem abs_ulps3_le (n : Nat) : |ulps3 n| ≤ 1 := by
  unfold ulps3
  split <;> decide

theorem abs_ulps5_le (n : Nat) : |ulps5 n| ≤ 2 := by
  unfold ulps5
  split <;> decide

section

variable {f : Fmt} {a : DWord} {x : Bool} {m : Nat} {e : Int}

theorem finiteValue_one (f : Fmt) : finiteValue false (2 ^ f.frac) (-f.frac) = 1 := by
  rw [finiteValue, if_neg Bool.false_ne_true, one_mul, zpow_neg, zpow_natCast, Nat.cast_pow, Nat.cast_ofNat,
    mul_inv_cancel₀ (by positivity)]

/-- What RECIP divides. -/
theorem Fmt.one_div_of_fin (ha : f.unpack a = .fin x m e) (hm : m ≠ 0) (rm : BitVec 2) :
    f.IsResult rm (1 / ((finiteValue x m e : ℚ) : ℝ)) (false != x) (f.div rm false f.one a) := by
  have div := Fmt.div_of_fin f.unpack_one ha hm rm false
  rwa [finiteValue_one, Rat.cast_div, Rat.cast_one] at div

theorem Fmt.recip_of_status {exact : Bool} {rm : BitVec 2} (h : (f.div rm false f.one a).status ≠ 0b000001#6) :
    f.recip exact rm a = f.div rm false f.one a := Fmt.inexactBy_of_status h f _

theorem Fmt.recip_of_zero (ha : f.unpack a = .fin x 0 e) (rm : BitVec 2) (exact : Bool) :
    f.recip exact rm a = ⟨f.infinite x, 0b001000, false⟩ := by
  have div : f.div rm false f.one a = ⟨f.infinite x, 0b001000, false⟩ := by
    rw [Fmt.div_by_zero f.unpack_one ha, if_neg (by positivity), Bool.false_bne]
  rw [Fmt.recip_of_status (by rw [div]; exact (by decide : 0b001000#6 ≠ 0b000001#6)), div]

theorem Fmt.recip_of_inf (ha : f.unpack a = .inf x) (rm : BitVec 2) (exact : Bool) : f.recip exact rm a = ⟨f.zeroOf x, 0, false⟩ := by
  obtain ⟨-, -, -, div⟩ := Fmt.ops_of_fin_inf f.unpack_one ha rm false
  rw [Bool.false_bne] at div
  rw [Fmt.recip_of_status (by rw [div]; exact (by decide : 0b000000#6 ≠ 0b000001#6)), div]

theorem Fmt.rsqrt_of_zero (ha : f.unpack a = .fin x 0 e) (rm : BitVec 2) (exact : Bool) :
    f.rsqrt exact rm a = ⟨f.infinite x, 0b001000, false⟩ := by
  simp only [Fmt.rsqrt, ha, if_true, f.infinity_eq]
  rfl

theorem Fmt.rsqrt_of_negative (ha : f.unpack a = .fin true m e) (hm : m ≠ 0) (rm : BitVec 2) (exact : Bool) :
    f.rsqrt exact rm a = f.invalidResult := by
  simp only [Fmt.rsqrt, ha, if_neg hm, if_true, f.invalid_eq]

theorem Fmt.rsqrt_of_inf (ha : f.unpack a = .inf x) (rm : BitVec 2) (exact : Bool) :
    f.rsqrt exact rm a = if x then f.invalidResult else ⟨0#64, 0, false⟩ := by
  simp only [Fmt.rsqrt, ha, f.invalid_eq, FpRes.exact, f.zero_eq]
  rfl

/-- RSQRT of a positive number: the correctly rounded result, but for an error of up to two units. -/
theorem Fmt.rsqrt_of_positive (ha : f.unpack a = .fin false m e) (hm : m ≠ 0) (rm : BitVec 2) (exact : Bool) :
    ∃ r u, f.IsResult rm (1 / Real.sqrt (finiteValue false m e : ℚ)) false r ∧ |u| ≤ 2 ∧
      f.rsqrt exact rm a = f.inexactBy r (if exact then 0 else u) := by
  refine ⟨_, _, Fmt.rsqrt_round_isResult ha hm rm false, abs_ulps5_le (Config.rsqrtError (f == .d) a), ?_⟩
  simp only [Fmt.rsqrt, ha, if_neg hm, Bool.false_eq_true, if_false]

end

/-! ## Which results are denormalized (R632) -/

/-- A result is marked as denormalized where its pattern is. -/
def Fmt.Marks (f : Fmt) (r : FpRes) : Prop := r.denorm = true ↔ f.Denormalized r.value

section

variable {f : Fmt}

theorem Fmt.Marks.of_not_denormalized {v : DWord} (h : ¬ f.Denormalized v) (c : FpStatus) : f.Marks ⟨v, c, false⟩ :=
  iff_of_false Bool.false_ne_true h

theorem Fmt.marks_infinite (f : Fmt) (x : Bool) (c : FpStatus) : f.Marks ⟨f.infinite x, c, false⟩ :=
  .of_not_denormalized (f.infinite_not_denormalized x) c

theorem Fmt.marks_zeroOf (f : Fmt) (x : Bool) (c : FpStatus) : f.Marks ⟨f.zeroOf x, c, false⟩ :=
  .of_not_denormalized (f.zeroOf_not_denormalized x) c

theorem Fmt.Marks.of_nan {v : DWord} (h : f.NotANumber v) (c : FpStatus) : f.Marks ⟨v, c, false⟩ := by
  refine .of_not_denormalized (fun denormalized => ?_) c
  have exponents := f.expBits_eq
  rw [f.notANumber_iff] at h
  rw [f.denormalized_iff] at denormalized
  omega

theorem Fmt.invalidResult_nan (f : Fmt) : f.NotANumber f.invalidResult.value := by
  cases f <;> exact ⟨by decide, by decide⟩

theorem Fmt.marks_invalidResult (f : Fmt) : f.Marks f.invalidResult := .of_nan f.invalidResult_nan _

theorem Fmt.Marks.ite {p : Prop} [Decidable p] {r r' : FpRes} (h : f.Marks r) (h' : f.Marks r') : f.Marks (if p then r else r') := by
  split
  · exact h
  · exact h'

theorem Fmt.marks_copied (f : Fmt) (v : DWord) : f.Marks (f.copied v) := by
  rw [Fmt.Marks, Fmt.copied, f.denormalized_iff, Fmt.isDenorm, Bool.and_eq_true, beq_iff_eq, bne_iff_ne]

theorem Fmt.marks_nanResult {a b : DWord} (h : f.NotANumber a ∨ f.NotANumber b) (pick : Bool) : f.Marks (f.nanResult pick a b) := by
  by_cases signals : f.Signals a ∨ f.Signals b
  · rw [Fmt.nanResult_of_signals signals]
    exact f.marks_invalidResult
  · rw [not_or] at signals
    rcases Fmt.nanResult_of_quiet signals.1 signals.2 h pick with ⟨nan, result⟩ | ⟨nan, result⟩ <;>
      · rw [result]
        exact .of_nan nan 0

theorem Fmt.Marks.inexactBy {r : FpRes} (h : f.Marks r) (k : Int) : f.Marks (f.inexactBy r k) := by
  rcases f.inexactBy_cases r k with same | ⟨changed, exp, -, exp'⟩
  · rwa [same]
  · rw [Fmt.Marks, f.denormalized_iff] at h
    rw [changed, Fmt.Marks, f.denormalized_iff]
    exact iff_of_false (fun denorm => exp (h.1 denorm).1) fun denormalized => exp' denormalized.1

/-- The two-operand operations on any operands. -/
theorem Fmt.marks_two (f : Fmt) (rm : BitVec 2) (pick : Bool) (a b : DWord) :
    f.Marks (f.add rm pick a b) ∧ f.Marks (f.sub rm pick a b) ∧ f.Marks (f.mul rm pick a b) ∧ f.Marks (f.div rm pick a b) := by
  by_cases nan : f.NotANumber a ∨ f.NotANumber b
  · rw [Fmt.add_of_nan nan, Fmt.sub_of_nan nan, Fmt.mul_of_nan nan, Fmt.div_of_nan nan]
    have marks := Fmt.marks_nanResult nan pick
    exact ⟨marks, marks, marks, marks⟩
  rw [not_or] at nan
  rcases ha : f.unpack a with s | x | ⟨x, m, e⟩
  case nan => exact absurd (Fmt.notANumber_of_unpack ha) nan.1
  case inf =>
    rcases hb : f.unpack b with s | y | ⟨y, n, g⟩
    · exact absurd (Fmt.notANumber_of_unpack hb) nan.2
    · obtain ⟨add, sub, mul, div⟩ := Fmt.ops_of_inf_inf ha hb rm pick
      rw [add, sub, mul, div]
      exact ⟨.ite (f.marks_infinite x 0) f.marks_invalidResult, .ite f.marks_invalidResult (f.marks_infinite x 0), f.marks_infinite _ 0,
        f.marks_invalidResult⟩
    · obtain ⟨add, sub, mul, div⟩ := Fmt.ops_of_inf_fin ha hb rm pick
      rw [add, sub, mul, div]
      exact ⟨f.marks_infinite x 0, f.marks_infinite x 0, .ite f.marks_invalidResult (f.marks_infinite _ 0), f.marks_infinite _ 0⟩
  case fin =>
    rcases hb : f.unpack b with s | y | ⟨y, n, g⟩
    · exact absurd (Fmt.notANumber_of_unpack hb) nan.2
    · obtain ⟨add, sub, mul, div⟩ := Fmt.ops_of_fin_inf ha hb rm pick
      rw [add, sub, mul, div]
      exact ⟨f.marks_infinite y 0, f.marks_infinite _ 0, .ite f.marks_invalidResult (f.marks_infinite _ 0), f.marks_zeroOf _ 0⟩
    · refine ⟨(Fmt.add_of_fin ha hb rm pick).denorm, (Fmt.sub_of_fin ha hb rm pick).denorm, (Fmt.mul_of_fin ha hb rm pick).denorm, ?_⟩
      by_cases hn : n = 0
      · subst hn
        rw [Fmt.div_by_zero ha hb]
        exact .ite f.marks_invalidResult (f.marks_infinite _ _)
      · exact (Fmt.div_of_fin ha hb hn rm pick).denorm

theorem Fmt.not_denormalized_of_inf {a : DWord} {x : Bool} (ha : f.unpack a = .inf x) : ¬ f.Denormalized a := by
  obtain ⟨-, zero, -⟩ := Fmt.unpack_eq_inf ha
  rw [f.denormalized_iff]
  exact fun h => h.2 zero

theorem Fmt.not_denormalized_of_zero {a : DWord} {x : Bool} {e : Int} (ha : f.unpack a = .fin x 0 e) : ¬ f.Denormalized a := by
  obtain ⟨-, -, fields⟩ := Fmt.unpack_eq_fin ha
  rw [f.denormalized_iff]
  omega

/-- The one-operand operations on any operand. -/
theorem Fmt.marks_one (f : Fmt) (rm : BitVec 2) (exact : Bool) (a : DWord) :
    f.Marks (f.sqrt rm a) ∧ f.Marks (f.abs a) ∧ f.Marks (f.neg a) ∧ f.Marks (f.recip exact rm a) ∧
      f.Marks (f.rsqrt exact rm a) := by
  have recip : f.Marks (f.recip exact rm a) := (f.marks_two rm false f.one a).2.2.2.inexactBy _
  by_cases nan : f.NotANumber a
  · obtain ⟨sqrt, abs, neg, -, rsqrt⟩ := Fmt.one_of_nan nan rm exact
    have marks := Fmt.marks_nanResult (.inl nan) (b := a) true
    rw [sqrt, abs, neg, rsqrt]
    exact ⟨marks, marks, marks, recip, marks⟩
  have signs : f.Marks (f.abs a) ∧ f.Marks (f.neg a) := by
    rw [Fmt.abs_of_not_nan nan, Fmt.neg_of_not_nan nan]
    exact ⟨f.marks_copied _, f.marks_copied _⟩
  rcases ha : f.unpack a with s | x | ⟨x, m, e⟩
  case nan => exact absurd (Fmt.notANumber_of_unpack ha) nan
  case inf =>
    rw [(Fmt.one_of_inf ha rm).1, Fmt.rsqrt_of_inf ha]
    exact ⟨.ite f.marks_invalidResult (.of_not_denormalized (Fmt.not_denormalized_of_inf ha) 0), signs.1, signs.2, recip,
      .ite f.marks_invalidResult (f.marks_zeroOf false 0)⟩
  case fin =>
    by_cases hm : m = 0
    · subst hm
      rw [Fmt.sqrt_of_zero ha, Fmt.rsqrt_of_zero ha]
      exact ⟨.of_not_denormalized (Fmt.not_denormalized_of_zero ha) 0, signs.1, signs.2, recip, f.marks_infinite x _⟩
    cases x
    · obtain ⟨r, u, result, -, run⟩ := Fmt.rsqrt_of_positive ha hm rm exact
      rw [run]
      exact ⟨(Fmt.sqrt_of_fin ha hm rm false).denorm, signs.1, signs.2, recip, Fmt.Marks.inexactBy result.denorm _⟩
    · rw [Fmt.sqrt_of_negative ha hm, Fmt.rsqrt_of_negative ha hm]
      exact ⟨f.marks_invalidResult, signs.1, signs.2, recip, f.marks_invalidResult⟩

/-- The conversions between formats. -/
theorem Fmt.marks_convert (f g : Fmt) (rm : BitVec 2) (c : Nat) (a : DWord) : g.Marks (f.convert g rm c a) := by
  rcases ha : f.unpack a with s | x | ⟨x, m, e⟩
  case nan =>
    have nan := Fmt.notANumber_of_unpack ha
    by_cases signals : f.Signals a
    · rw [Fmt.convert_of_signals signals]
      exact g.marks_invalidResult
    · rw [Fmt.convert_of_quiet nan signals]
      exact .of_nan (freeNan_spec g c).1 0
  case inf =>
    rw [(Fmt.one_of_inf ha rm).2 g c]
    exact g.marks_infinite x 0
  case fin => exact (Fmt.convert_of_fin ha g rm c).denorm

end

/-! ## The obligation -/

/-- Settles O39: the instructions run their operations (`State.Performs.of_cp1`), which deliver what the lemmas above say of NaNs,
infinities, signs, reciprocals and denormalized results. -/
theorem floatingPointArithmeticCompletesOrRaisesItsStatus : Obligations.FloatingPointArithmeticCompletesOrRaisesItsStatus := by
  refine ⟨fun s ft fs fd f hcu1 => ?runs, fun f g rm exact pick c limit a b => ?delivers, fun f flush trapU r s => ?settles⟩
  case runs =>
    intro a b i runs
    refine ⟨?add, ?sub, ?mul, ?div, ?sqrt, ?abs, ?neg, fun h4 => ⟨?recip, ?rsqrt⟩⟩
    case add | sub | mul | div | sqrt | abs | neg => cases f <;> exact .of_cp1 hcu1 rfl
    case recip | rsqrt => cases f <;> exact .of_fp4 hcu1 h4 rfl
  case settles =>
    exact ⟨rfl, rfl, rfl, fun h => Fmt.settle_of_not_denorm h f flush trapU, fun h => Fmt.settle_raises h f trapU,
      fun h => Fmt.settle_flushes h f trapU⟩
  case delivers =>
    intro two one
    obtain ⟨add, sub, mul, div⟩ := f.marks_two rm pick a b
    obtain ⟨sqrt, abs, neg, recip, rsqrt⟩ := f.marks_one rm exact a
    refine ⟨fun signals => ?twoSignals, fun quietA quietB nan => ?twoQuiet,
      fun signals => ⟨Fmt.one_of_signals signals rm exact, Fmt.convert_of_signals signals g rm c⟩,
      fun nan quiet => ⟨Fmt.one_of_quiet nan quiet rm exact, _, Fmt.convert_of_quiet nan quiet g rm c, freeNan_spec g c⟩,
      fun nan => ?toInt, fun notNan => ?signs, fun x m e ha => ?finite, fun x ha => ?infinite, ?marks, f.marks_convert g rm c a⟩
    case toInt =>
      have none := Fmt.toInt_of_nan nan rm
      exact ⟨by simp only [Fmt.toW, none]; rfl, by simp only [Fmt.toL, none]; rfl⟩
    case twoSignals =>
      intro r hr
      rw [Fmt.two_of_nan (signals.imp And.left And.left) rm pick r hr, Fmt.nanResult_of_signals signals]
    case twoQuiet =>
      intro r hr
      rw [Fmt.two_of_nan nan rm pick r hr]
      exact Fmt.nanResult_of_quiet quietA quietB nan pick
    case signs =>
      rw [Fmt.abs_of_not_nan notNan, Fmt.neg_of_not_nan notNan]
      refine ⟨rfl, rfl, rfl, rfl, fun x hx => ⟨Fmt.value_clearSign hx, ?_⟩⟩
      rw [Fmt.copied, ← f.flip_eq]
      exact Fmt.value_flip hx
    case finite =>
      intro va near
      have nonzero (hm : m ≠ 0) : va ≠ 0 := mt (finiteValue_eq_zero x m e).1 hm
      refine ⟨fun hm => ?recip, fun hm hx => ?rsqrt, fun hm hx => ?negative, fun hm => ?zero⟩
      case recip =>
        obtain ⟨status, distance⟩ := f.inexactBy_near (f.div rm false f.one a) exact (abs_ulps3_le (Config.recipError (f == .d) a))
          one_le_two
        exact ⟨_, (Fmt.one_div_of_fin ha hm rm).rounded (one_div_ne_zero (Rat.cast_ne_zero.2 (nonzero hm))), status, distance⟩
      case rsqrt =>
        subst hx
        obtain ⟨r, u, result, small, run⟩ := Fmt.rsqrt_of_positive ha hm rm exact
        obtain ⟨status, distance⟩ := f.inexactBy_near r exact small le_rfl
        have root : Real.sqrt va ≠ 0 := by
          rw [Real.sqrt_ne_zero', Rat.cast_pos]
          exact (finiteValue_false_nonneg m e).lt_of_ne' (nonzero hm)
        rw [run]
        exact ⟨r, result.rounded (one_div_ne_zero root), status, distance⟩
      case negative =>
        subst hx
        exact Fmt.rsqrt_of_negative ha hm rm exact
      case zero =>
        subst hm
        rw [Fmt.recip_of_zero ha, Fmt.rsqrt_of_zero ha]
        simp only [List.mem_cons, List.not_mem_nil, or_false, or_self, imp_self, implies_true]
    case infinite => exact ⟨Fmt.recip_of_inf ha rm exact, Fmt.rsqrt_of_inf ha rm exact⟩
    case marks =>
      intro r hr
      simp only [two, one, List.mem_append, List.mem_cons, List.not_mem_nil, or_false] at hr
      rcases hr with ((rfl | rfl | rfl | rfl) | (rfl | rfl | rfl | rfl | rfl)) | rfl
      · exact add
      · exact sub
      · exact mul
      · exact div
      · exact sqrt
      · exact abs
      · exact neg
      · exact recip
      · exact rsqrt
      · exact (f.ofInt_isResult rm limit).denorm

end Sys2Proof.Machine

end
